-- ==== Sys2Proof/Word.lean ====
section
/-!
DEFINITION. The word types of the UZ1536 and lists of bytes (R17 to R19).
-/
namespace Sys2Proof

/-- One byte of a packet, a table or a memory (R18). -/
abbrev Byte := BitVec 8

/-- One register word (R19). -/
abbrev Word := BitVec 32

/-- A run of bytes, first byte first. -/
abbrev Bytes := List Byte

end Sys2Proof
end

