-- ==== Sys2Proof/Types.lean ====
section
/-!
DEFINITION. The types of the commands' operands: packet headers, straps, and what the physical world shows
at an event (a mismatch, a raw code, a level).
-/
namespace Sys2Proof

/-- The paths on which commands arrive, in the order that breaks ties (R154, R164). -/
inductive Path where
  | envex | can | spi | sched
  deriving DecidableEq, Repr

/-- The header of a command packet, Profile A or L (R141, R144), without the fields that step 2 of R150 checks. -/
structure CmdHdr where
  /-- path of arrival (R154) -/
  path : Path
  /-- MAC present -/
  auth : Bool
  ackReq : Bool
  expert : Bool
  tag : BitVec 16
  seq : BitVec 32
  slot : Fin 16
  /-- the MAC as received, 8 bytes when auth (R141) -/
  mac : Bytes
  deriving DecidableEq, Repr

/-- The external straps at a sampling moment (R5, R565); none is an open land. -/
structure Straps where
  profSel : Option Bool
  testmode : Option Bool
  deriving DecidableEq, Repr

/-- Units that BIST tests (R70, R220, R308, R340). -/
inductive BistUnit where
  | bank (n : Fin 4)
  | lane (n : Fin 4)
  | mallet (n : Fin 9)
  | showBuffer (n : Fin 2)
  | slice (n : Fin 65)
  | audit
  deriving DecidableEq, Repr

/-- What a cold boot finds in the parts it reads and tests (R59, R63 to R70), and its two measured times (R84). -/
structure BootObs where
  /-- configuration copy A or B unreadable at this boot (R63, R462) -/
  cfgBad : Bool × Bool
  /-- the factory section of neither copy passes its CRC; looked at only where both copies failed (R463) -/
  factBad : Bool
  /-- uncorrectable error in the limp bitmap; in the Floor map that stands in for it (R64) -/
  limpUe : Bool
  floorUe : Bool
  /-- the step 6 readbacks match: first, and after the repeat (R65) -/
  readback : Bool × Bool
  /-- units failing BIST in step 11 (R70) -/
  bistFail : List BistUnit
  /-- microseconds from the start of the boot to the Gong-capable point and to READY (R84) -/
  tGongcapUs : BitVec 32
  tReadyUs : BitVec 32
  /-- microseconds from the start of the boot to the start of Tabor 3 in step 3 (R59, R80) -/
  tTaborUs : BitVec 32
  /-- key slots one of whose copies has an uncorrectable error, and those both of whose copies have (R530) -/
  keyUe : List (Fin 16)
  keyGone : List (Fin 16)
  /-- MRAM offsets at which the boot's reads were corrected (R431) -/
  mramCe : List (BitVec 23)
  /-- the boot's write of the boot counts still differs after three attempts (R431) -/
  writeBad : Bool
  deriving DecidableEq, Repr, Inhabited

/-- A safety message copy: inside an Envex packet (START, payload, CRC-32C), or reassembled from CAN FD (R110, R391). -/
inductive SmsgSrc where
  | envex (raw : Bytes)
  | can (msg : Bytes)
  deriving DecidableEq, Repr

/-- A time message: inside an Envex packet, or one CAN FD frame (R443). -/
inductive TsySrc where
  | envex (raw : Bytes)
  | can (data : Bytes)
  deriving DecidableEq, Repr

/-- What a plane slot shows to the Mallet that writes in it (R36, R276, R283, R302, R303). -/
structure RowObs where
  /-- the show-buffer read completed by the start of the slot -/
  inTime : Bool
  /-- the Mallet completed its row write -/
  wrote : Bool
  /-- the column drivers' parity agrees -/
  parityOk : Bool
  /-- the shadow parity of Mallet 8 agrees; it completed its shadow read and parity (R307) -/
  shadowOk : Bool
  shadowDone : Bool
  /-- uncorrectable error in the Score entry read -/
  scoreUe : Bool
  /-- 64-column groups with an uncorrectable show-buffer error -/
  ueGroups : List (Fin 24)
  /-- corrected errors of the show-buffer read (R276) -/
  ce : Nat
  deriving DecidableEq, Repr

/-- What a band's composition shows (R212, R218, R242, R253). -/
structure BandObs where
  residueBad : Bool
  /-- uncorrectable line-buffer read -/
  lbUe : Bool
  /-- tiles whose Flat Cache read had an uncorrectable error -/
  fcUe : List Nat
  /-- Layer Store bank with an uncorrectable error -/
  bankUe : Option (Fin 4)
  /-- corrected errors of the Flat Cache and of the Layer Store (R215, R242) -/
  fcCe : Nat
  storeCe : Nat
  deriving DecidableEq, Repr

/-- What a band's pixel processing shows (R29, R222, R262, R271, R272). -/
structure ProcObs where
  /-- pixels whose word the pipeline got wrong, and the bits changed -/
  wordFlips : List (Nat × BitVec 12)
  /-- pixels whose word changed between the encoder and the readback -/
  bankFlips : List (Nat × BitVec 12)
  /-- pixels whose working gain had an uncorrectable error; whether the MRAM read failed as well -/
  gainUe : List Nat
  mramUe : Bool
  /-- corrected working-gain reads (R278) -/
  gainCe : Nat
  /-- the latched derate codes' CRC no longer matches (R273) -/
  derateBad : Bool
  /-- microseconds from the latching boundary to this moment (R222) -/
  elapsedUs : Nat
  deriving DecidableEq, Repr

/-- One beat of the spare slice's cycle (R338): the raw codes of the working slice and of the spare for the same held samples, then the
spare's conversions of the 500.0 mV and 3,500.0 mV references. -/
structure SpareBeat where
  pairs : List (Nat × Nat)
  low : List Nat
  high : List Nat
  deriving DecidableEq, Repr

/-- A READBACK slot: the segment of a Mallet and j, the slot's number in its frame (R281, R311). -/
structure ReadbackAt where
  seg : Fin 8
  j : BitVec 6
  deriving DecidableEq, Repr

/-- What the conversion of a sense row gives beside the codes: the slices' conversions of the reference, and the Roll map entries whose
read met an uncorrectable error (R326, R335). -/
structure RollObs where
  refs : List Nat
  ue : List (Fin 9216)
  deriving DecidableEq, Repr

/-- What a CV5 scan meets: the address of an uncorrectable error, and those of the corrected reads before it (R516, R517). -/
structure ScanObs where
  ueAt : Option Nat
  ceAt : List Nat
  deriving DecidableEq, Repr

/-- An invalid sync header: its lane, and how many valid headers came since the one before it (R96, R410). -/
structure BadHeader where
  lane : Fin 4
  gap : Nat
  deriving DecidableEq, Repr

/-- Errors on the CAN FD bus, by what ISO 11898-1 has a node count for them (R387): a receiver's error, one for which a receiver counts 8,
a transmitter's error, and a transmitter's error that it does not count. -/
inductive CanErr where
  | receiver | receiverEight | transmitter | uncounted
  deriving DecidableEq, Repr

/-- JTAG instructions (R581). -/
inductive TapInstr where
  | reset | bypass | idcode | sample | extest | clamp
  deriving DecidableEq, Repr

/-- Supplies whose loss R572 names. -/
inductive Supply where
  | vio | vana | ledStage | coreStage
  deriving DecidableEq, Repr

end Sys2Proof
end

