-- ==== Sys2Proof/Syntax.lean ====
section
/-!
DEFINITION. The commands of the UZ1536: one constructor for each row of spec/opcode_table.json, in the table's order.
A host command carries its packet's header and its parameter bytes (R141, R167 to R175). A register-write row carries
the header of its REG_WRITE and the value. An event row carries what the outside shows at that event.
-/
namespace Sys2Proof

/-- One command of the block. -/
inductive Instr where
  /-- NOP (R167): Command that does nothing and replies OK. -/
  | nop (h : CmdHdr) (ps : Bytes)
  /-- PING (R167): Command that echoes its parameters and returns the Tabor 3 count and epoch. -/
  | ping (h : CmdHdr) (ps : Bytes)
  /-- GET_INFO (R168): Command that returns the 32-byte identification record. -/
  | getInfo (h : CmdHdr) (ps : Bytes)
  /-- RESET_WARM (R78): Command that restarts the Clapper firmware while the light path keeps running. -/
  | resetWarm (h : CmdHdr) (ps : Bytes)
  /-- ENTER_STANDBY (R76): Command that starts STANDBY entry after sending its reply. -/
  | enterStandby (h : CmdHdr) (ps : Bytes)
  /-- SET_PROFILE (R7): Command that changes the Profile for the running session from the packet after its reply. -/
  | setProfile (h : CmdHdr) (ps : Bytes)
  /-- LIGHT_ON (R169): Long command that leaves READY or unlit SERVICE, starts scanning and replies when the first bank is swapped in. -/
  | lightOn (h : CmdHdr) (ps : Bytes)
  /-- LIGHT_OFF (R57): Command that darkens the array at the next beat boundary and enters READY. -/
  | lightOff (h : CmdHdr) (ps : Bytes)
  /-- STILL_ENTER (R294): Long command that freezes the bank on show at the first frame boundary that meets the conditions. -/
  | stillEnter (h : CmdHdr) (ps : Bytes)
  /-- STILL_EXIT (R296): Long command that powers the Carillon again and returns from STILL to LIT or DEGRADED. -/
  | stillExit (h : CmdHdr) (ps : Bytes)
  /-- GONG_ENTER (R169): Command that enters GONG and lights the Gong pattern. -/
  | gongEnter (h : CmdHdr) (ps : Bytes)
  /-- GONG_EXIT (R74): Long command that powers and tests PD6 to PD9 and leaves GONG for READY or LIT. -/
  | gongExit (h : CmdHdr) (ps : Bytes)
  /-- BUF_ALLOC (R183): Command that allocates the lowest free run of granules and returns a handle and address. -/
  | bufAlloc (h : CmdHdr) (ps : Bytes)
  /-- BUF_FREE (R210): Command that releases a buffer at once or defers the release while it is referred to. -/
  | bufFree (h : CmdHdr) (ps : Bytes)
  /-- LAYER_SET (R194): Command that checks a layer record and writes it into the shadow. -/
  | layerSet (h : CmdHdr) (ps : Bytes)
  /-- LAYER_GROUP (R195): Command that sets the members of a link group in the shadow. -/
  | layerGroup (h : CmdHdr) (ps : Bytes)
  /-- FENCE_ARM (R196): Command that makes a fence ARMED with a timeout in frames. -/
  | fenceArm (h : CmdHdr) (ps : Bytes)
  /-- FENCE_SIGNAL (R197): Command that signals an ARMED fence, or frees a TIMED_OUT one. -/
  | fenceSignal (h : CmdHdr) (ps : Bytes)
  /-- COMMIT (R200): Command that validates the whole shadow and appends it to the commit queue as an entry. -/
  | commit (h : CmdHdr) (ps : Bytes)
  /-- WRITEBACK_SET (R243): Command that writes the write-back route record into the shadow. -/
  | writebackSet (h : CmdHdr) (ps : Bytes)
  /-- FRAME_RECORD_GET (R214): Command that returns a retained frame record, optionally with derate factors. -/
  | frameRecordGet (h : CmdHdr) (ps : Bytes)
  /-- FLOOR_GET (R258): Command that returns the Floor map in force for a range of tiles. -/
  | floorGet (h : CmdHdr) (ps : Bytes)
  /-- KEEPOUT_SET (R229): Command that replaces the keep-out table at the next latch and stores it. -/
  | keepoutSet (h : CmdHdr) (ps : Bytes)
  /-- SAFETY_POLICY_SET (R382): Command that writes the safety policy record to both configuration copies, locking or unlocking it. -/
  | safetyPolicySet (h : CmdHdr) (ps : Bytes)
  /-- DEGRADE_LIMIT_SET (R374): Command that sets the DEGRADE_LIMIT time. -/
  | degradeLimitSet (h : CmdHdr) (ps : Bytes)
  /-- SAFETY_STATUS (R384): Command that returns the safety status record. -/
  | safetyStatus (h : CmdHdr) (ps : Bytes)
  /-- CAL_RUN (R478): Long command that runs a calibration of a unit in a given mode and replies with its quality record. -/
  | calRun (h : CmdHdr) (ps : Bytes)
  /-- CAL_QUERY (R479): Command that returns the quality record of a calibrated unit. -/
  | calQuery (h : CmdHdr) (ps : Bytes)
  /-- TRIM_DELTA_WRITE (R470): Command that writes user gain deltas of pixels and advances the calibration table generation. -/
  | trimDeltaWrite (h : CmdHdr) (ps : Bytes)
  /-- RESTORE_FACTORY (R481): Long command that puts the factory corrections of the selected units back in force. -/
  | restoreFactory (h : CmdHdr) (ps : Bytes)
  /-- TIME_CONFIG (R455): Command that writes a Tabor configuration record and may start a new acquisition. -/
  | timeConfig (h : CmdHdr) (ps : Bytes)
  /-- TIME_QUERY (R456): Command that returns the state records of the selected Tabors. -/
  | timeQuery (h : CmdHdr) (ps : Bytes)
  /-- SCHEDULE_AT (R454): Long command that converts a Tabor time into a target count for an embedded command. -/
  | scheduleAt (h : CmdHdr) (ps : Bytes)
  /-- FAULT_QUERY (R415): Command that returns the fault registers of one block or of all blocks in order. -/
  | faultQuery (h : CmdHdr) (ps : Bytes)
  /-- FAULT_CLEAR (R416): Command that clears sources of a block's FLT_STAT and returns what remains set. -/
  | faultClear (h : CmdHdr) (ps : Bytes)
  /-- LOG_READ (R423): Command that returns fault-log records or Ledger entries. -/
  | logRead (h : CmdHdr) (ps : Bytes)
  /-- DUMP_READ (R427): Command that returns bytes of a dump slot. -/
  | dumpRead (h : CmdHdr) (ps : Bytes)
  /-- DUMP_CLEAR (R427): Command that sets a dump slot free. -/
  | dumpClear (h : CmdHdr) (ps : Bytes)
  /-- ROLL_MAP_READ (R334): Command that returns Roll map entries of a range of tiles. -/
  | rollMapRead (h : CmdHdr) (ps : Bytes)
  /-- HK_SEQ_SET (R348): Command that checks an HK sequence and puts it in force at the next repetition. -/
  | hkSeqSet (h : CmdHdr) (ps : Bytes)
  /-- CV_CONFIG (R519): Command that configures the CV3 snoop or the CV5 scan share. -/
  | cvConfig (h : CmdHdr) (ps : Bytes)
  /-- CV_SCAN (R515): Long command that computes a CRC over a Layer Store or MRAM range. -/
  | cvScan (h : CmdHdr) (ps : Bytes)
  /-- CV_RESULT (R520): Command that returns the result record of a check-value unit. -/
  | cvResult (h : CmdHdr) (ps : Bytes)
  /-- REG_READ (R549): Expert command that reads consecutive registers. -/
  | regRead (h : CmdHdr) (ps : Bytes)
  /-- REG_WRITE (R584): Expert command that writes consecutive registers without behaviour of their own, all or none. -/
  | regWrite (h : CmdHdr) (ps : Bytes)
  /-- TABLE_READ (R553): Expert command that returns a consistent snapshot of table entries. -/
  | tableRead (h : CmdHdr) (ps : Bytes)
  /-- TABLE_WRITE (R588): Expert command that writes table entries into a shadow generation, a staging copy or MRAM. -/
  | tableWrite (h : CmdHdr) (ps : Bytes)
  /-- KEY_INSTALL (R526): Command that unwraps and installs a key into a slot. -/
  | keyInstall (h : CmdHdr) (ps : Bytes)
  /-- KEY_RETIRE (R527): Command that overwrites a slot's key and makes it RETIRED. -/
  | keyRetire (h : CmdHdr) (ps : Bytes)
  /-- FW_STAGE (R541): Command that writes a chunk of a firmware image into the non-running region. -/
  | fwStage (h : CmdHdr) (ps : Bytes)
  /-- FW_ACTIVATE (R542): Command that makes an image active and performs a cold reset. -/
  | fwActivate (h : CmdHdr) (ps : Bytes) (o : BootObs)
  /-- SERVICE_UNLOCK (R543): Command that verifies a signed unlock record and enters SERVICE. -/
  | serviceUnlock (h : CmdHdr) (ps : Bytes)
  /-- LINK_CFG_ENABLE (R135): Write of LINK_CFG enable that idles all lanes at once or starts bring-up. -/
  | linkCfgEnable (h : CmdHdr) (v : Word)
  /-- LINK_CTRL_RETRAIN (R136): Write of LINK_CTRL retrain that starts a full bring-up. -/
  | linkCtrlRetrain (h : CmdHdr)
  /-- LINK_CTRL_RECOVER (R136): Write of LINK_CTRL recover that enters RECOVERY. -/
  | linkCtrlRecover (h : CmdHdr)
  /-- LINK_CTRL_UNFENCE (R131): Write of LINK_CTRL unfence that unfences a lane. -/
  | linkCtrlUnfence (h : CmdHdr) (lanes : BitVec 4)
  /-- CARL_CTRL_UNFENCE (R220): Write of CARL_CTRL unfence that runs a compose lane's BIST and returns it to service if it passes. -/
  | carlCtrlUnfence (h : CmdHdr) (v : Word)
  /-- MALLET_CTRL_UNFENCE (R308): Write of MALLET_CTRL unfence that runs a Mallet's BIST and returns it to its segment if it passes. -/
  | malletCtrlUnfence (h : CmdHdr) (v : Word)
  /-- MALLET_CUT_REMOVE (R312): W1C write of MALLET_CUTs_w in READY that removes column cuts and stores the cut set. -/
  | malletCutRemove (h : CmdHdr) (seg : Fin 8) (w : Fin 48) (v : Word)
  /-- SENSE_SLC_UNFENCE (R340): Write of SENSE_SLC_UNFENCE go that runs a slice's BIST and returns it to service if it passes. -/
  | senseSlcUnfence (h : CmdHdr) (v : Word)
  /-- HK_CTRL_APPLY (R348): Write of HK_CTRL apply that checks the staging copy and puts it in force. -/
  | hkCtrlApply (h : CmdHdr) (v : Word)
  /-- TABOR_CTRL_APPLY (R439): Write of TABORn_CTRL apply that samples the armed rate and adjustment together in MANUAL mode. -/
  | taborCtrlApply (h : CmdHdr) (n : Fin 4)
  /-- PWR_APPLY_VLED (R499): Write of PWR_CTRL apply_vled that checks and applies the VLED arm-and-apply pair. -/
  | pwrApplyVled (h : CmdHdr)
  /-- PWR_APPLY_VCORE (R499): Write of PWR_CTRL apply_vcore that checks and applies the VCORE arm-and-apply pair. -/
  | pwrApplyVcore (h : CmdHdr)
  /-- PWR_UNFENCE_VLED (R493): Write of PWR_CTRL unfence_vled in READY that returns the digital VLED controller to service. -/
  | pwrUnfenceVled (h : CmdHdr)
  /-- FLT_STAT_CLEAR (R416): W1C write of FLT_STAT that clears sources whose condition no longer holds. -/
  | fltStatClear (h : CmdHdr) (blk : Fin 16) (mask : Word)
  /-- FLT_INJECT_RECORD (R428): Write of FLT_INJECT go with stimulus 0 that records an injected event as though detected. -/
  | fltInjectRecord (h : CmdHdr) (blk : Fin 16) (src : Fin 32)
  /-- FLT_INJECT_STIMULUS (R429): Write of FLT_INJECT go with stimulus 1 that applies a fault stimulus for the block to detect. -/
  | fltInjectStimulus (h : CmdHdr) (blk : Fin 16) (src : Fin 32) (param : BitVec 16)
  /-- FLT_TALLY_CFG_WRITE (R411): Write of FLT_TALLY_CFGk that sets a tally and empties its history. -/
  | fltTallyCfgWrite (h : CmdHdr) (blk : Fin 16) (k : Fin 4) (v : Word)
  /-- CAN_CFG_ENABLE (R397): Write of CAN_CFG enable in READY that enables or disables the CAN FD path and stores it. -/
  | canCfgEnable (h : CmdHdr) (v : Word)
  /-- CAN_AUTO_RECOVER (R396): Write of CAN_CFG auto_recover to 1 that starts bus-off recovery at once. -/
  | canAutoRecover (h : CmdHdr) (v : Word)
  /-- SYS_BOOT_CFG_WRITE (R71): Authenticated write of auto_light and mirrors in READY that goes to both configuration copies for the next cold boot. -/
  | sysBootCfgWrite (h : CmdHdr) (v : Word)
  /-- VAON_APPLY (R55): VAON applied, leading to STANDBY or BOOT by the level of WAKE. -/
  | vaonApply (st : Straps) (o : BootObs)
  /-- VAON_LOSS (R55): Loss of VAON takes the module to OFF. -/
  | vaonLoss
  /-- WAKE_RISE (R565): Rising edge of WAKE samples the straps and starts a cold boot from STANDBY. -/
  | wakeRise (st : Straps) (o : BootObs)
  /-- WAKE_LOW (R55): WAKE low for at least 1 ms starts STANDBY entry. -/
  | wakeLow
  /-- STANDBY_ENTRY_DONE (R77): Completion of STANDBY entry, followed by a cold boot if WAKE rose during entry. -/
  | standbyEntryDone (o : BootObs)
  /-- RST_N_LOW (R78): RST_N low for at least 10 µs gives a cold reset and darkens the array. -/
  | rstNLow
  /-- RST_N_RELEASE (R78): Release of RST_N starts BOOT when WAKE is high. -/
  | rstNRelease (st : Straps) (o : BootObs)
  /-- LIMP_N_LOW (R67): LIMP_N low for at least 10 µs enters GONG and lights the limp beam. -/
  | limpNLow (held : Bool)
  /-- LPH_FLT_N_LOW (R488): Power-stage fault stops the VLED PWM, records LPH_FAULT and enters GONG. -/
  | lphFltNLow
  /-- LPH_FLT_N_HIGH (R488): Return of LPH_FLT_N restarts the limp regulator with a soft start. -/
  | lphFltNHigh
  /-- REFCLK_LOSS (R91): REFCLK declared lost: lanes idle, link leaves ACTIVE and the time base moves to the crystal. -/
  | refclkLoss
  /-- REFCLK_RESTORE (R91): REFCLK declared restored: time base moves back and a full bring-up starts. -/
  | refclkRestore
  /-- BLOCK_LOCK_GAIN (R96): A lane receiver gains block lock after 64 valid sync headers. -/
  | blockLockGain (lane : Fin 4) (inverted : Bool)
  /-- BLOCK_LOCK_LOSS (R127): A lane loses block lock and the lane drop sequence starts with LANE_DROP. -/
  | blockLockLoss (lane : Fin 4)
  /-- TS_ADV (R98): TRAIN message TS_ADV received during DETECT or CONFIG. -/
  | tsAdv (lane : Fin 4) (b : BitVec 64)
  /-- TS_ACK (R101): TRAIN message TS_ACK received, agreeing the lane set. -/
  | tsAck (lane : Fin 4) (b : BitVec 64)
  /-- SPEED_REQ (R102): TRAIN message SPEED_REQ received, answered with SPEED_ACK or ABORT and a grade change. -/
  | speedReq (lane : Fin 4) (b : BitVec 64)
  /-- EQ_DONE (R102): TRAIN message EQ_DONE received, passing ADAPT on lanes whose eye meets the minimum. -/
  | eqDone (lane : Fin 4) (b : BitVec 64)
  /-- LINK_UP (R103): TRAIN message LINK_UP received, resetting sequence state and entering ACTIVE once credits arrive. -/
  | linkUp (lane : Fin 4) (b : BitVec 64)
  /-- ABORT (R98): TRAIN message ABORT received, restarting the bring-up attempt. -/
  | abort (lane : Fin 4) (b : BitVec 64)
  /-- BRINGUP_STATE_TIMEOUT (R98): Expiry of a bring-up state timeout, returning to DETECT, falling back a grade or restarting. -/
  | bringupStateTimeout
  /-- ATTEMPT_TIMEOUT (R104): The 340 ms attempt timer expires without ACTIVE and a new attempt starts. -/
  | attemptTimeout
  /-- RECOVERY_TIMEOUT (R121): RECOVERY fails within 50 ms, recording LINK_DOWN and starting a full bring-up. -/
  | recoveryTimeout
  /-- ALIGN (R97): ALIGN block received, deskewing lanes and applying a new active set. -/
  | align (lane : Fin 4) (b : BitVec 64) (inTol : Bool)
  /-- ACK (R117): LINKCTL ACK received, releasing acknowledged packets from the retry buffer. -/
  | ack (b : BitVec 64)
  /-- NAK (R118): LINKCTL NAK received, resending every unacknowledged packet with replay set. -/
  | nak (b : BitVec 64)
  /-- CREDIT (R122): LINKCTL CREDIT received, raising a pool limit and releasing held RSP, EVT, TSY or WB packets. -/
  | credit (b : BitVec 64)
  /-- LANE_DROP (R127): LINKCTL LANE_DROP received, answered with LANE_SWITCH to the new set. -/
  | laneDrop (b : BitVec 64)
  /-- LANE_SWITCH (R128): LINKCTL LANE_SWITCH received, completing the switch or entering RECOVERY. -/
  | laneSwitch (b : BitVec 64)
  /-- LANE_SWITCH_TIMEOUT (R127): No LANE_SWITCH within 1.5 µs of LANE_DROP, entering RECOVERY. -/
  | laneSwitchTimeout
  /-- REJOIN (R130): LINKCTL REJOIN received, answered with REJOIN_ACK. -/
  | rejoin (b : BitVec 64)
  /-- REJOIN_ACK (R130): LINKCTL REJOIN_ACK received, widening the active set at the next ALIGN. -/
  | rejoinAck (b : BitVec 64)
  /-- REJOIN_HOLD_EXPIRY (R130): The rejoin hold has passed on a ready dropped lane and REJOIN is sent. -/
  | rejoinHoldExpiry (lane : Fin 4)
  /-- ACK_DUE (R117): 2 µs after an acceptance an ACK is sent. -/
  | ackDue
  /-- CREDIT_REFRESH (R122): Every 100 µs CREDIT is sent for every pool. -/
  | creditRefresh
  /-- REPLAY_TIMEOUT (R119): The replay timer of an unacknowledged packet expires and packets are resent, or RECOVERY follows. -/
  | replayTimeout
  /-- PARTIAL_TO (R120): A packet's last block has not arrived within 1 ms and it is discarded with NAK. -/
  | partialTo
  /-- ADAPT_WINDOW_END (R106): End of a 65,536 UI qualifier window that freezes or resumes lane adaptation. -/
  | adaptWindowEnd (lane : Fin 4) (transitions oneRuns runs : Nat)
  /-- EYE_MEASURE (R108): Every 10 ms the eye monitor measures each lane, recording EYE_LOW after 1 s low. -/
  | eyeMeasure (heights widths : List Nat)
  /-- CMD_PACKET (R150): A CMD packet is received and checked and its command enters the queue. -/
  | cmdPacket (raw : Bytes)
  /-- WR (R187): A WR packet is checked and its data written into a buffer or refused as a violation. -/
  | wr (raw : Bytes)
  /-- FEN (R197): A FEN packet signals or frees a fence or records a violation. -/
  | fen (raw : Bytes)
  /-- DAMPER_SET (R363): A DAMPER_SET copy passes its checks and the comparator applies, verifies or unions it. -/
  | damperSet (src : SmsgSrc)
  /-- BEAM_STATE (R363): A BEAM_STATE copy is checked and LOW acts at once while ADB waits for verification. -/
  | beamState (src : SmsgSrc)
  /-- SAFE_REQ (R369): A SAFE_REQ copy requests DEGRADED or GONG, or removes the REQUEST cause when verified. -/
  | safeReq (src : SmsgSrc)
  /-- SKEW_TIMEOUT (R363): A pending entry's skew window expires with one copy and DEGRADED follows. -/
  | skewTimeout (seq : BitVec 32)
  /-- REFRESH_TO (R370): The refresh timer runs out without a verified DAMPER_SET and the STALE cause is added. -/
  | refreshTo
  /-- DEG_LIMIT (R374): The DEGRADE_LIMIT timer expires and GONG is entered. -/
  | degLimit
  /-- SYNC (R444): A TSY SYNC is received and t2 taken. -/
  | sync (src : TsySrc)
  /-- FOLLOW_UP (R444): A TSY FOLLOW_UP carrying t1 is received and DELAY_REQ sent with t3 taken. -/
  | followUp (src : TsySrc)
  /-- DELAY_RESP (R446): A TSY DELAY_RESP completes an exchange, yielding a correction or master acceptance. -/
  | delayResp (src : TsySrc)
  /-- EXCHANGE_TIMEOUT (R444): A FOLLOW_UP or DELAY_RESP is late and the exchange is discarded. -/
  | exchangeTimeout (dom : Fin 2)
  /-- HOLDOVER (R447): No exchange accepted for loss_ms and the Tabor enters HOLDOVER. -/
  | holdover (dom : Fin 2)
  /-- CAMSYNC_EDGE (R449): A CAMSYNC edge is captured and accepted or rejected against its prediction. -/
  | camsyncEdge (falling : Bool)
  /-- CAM_LOSS (R449): Three predicted CAMSYNC edges pass without acceptance and Tabor 1 enters HOLDOVER. -/
  | camLoss
  /-- XTAL_WINDOW (R473): End of a 1 s crystal measurement window, accepted or discarded. -/
  | xtalWindow (ppb : Int)
  /-- SCHEDULE_AT_DUE (R454): A Tabor count reaches a scheduled target and the embedded command enters the queue. -/
  | scheduleAtDue (ledgerSeq : BitVec 32)
  /-- CAN_FRAGMENT (R391): A CAN FD fragment is received and appended to, starts or discards a reassembly. -/
  | canFragment (id : BitVec 11) (data : Bytes)
  /-- REASM_TIMEOUT (R391): A reassembly is not complete within reasm_ms and is discarded. -/
  | reasmTimeout (id : BitVec 11)
  /-- CAN_TSY_FRAME (R392): An unfragmented TSY frame is received on CAN FD and timestamped. -/
  | canTsyFrame (id : BitVec 11) (data : Bytes)
  /-- BUS_OFF (R396): The CAN controller enters bus-off and stops sending and receiving. -/
  | busOff
  /-- BUS_OFF_RECOVERED (R396): The bus-off recovery sequence completes and the controller rejoins. -/
  | busOffRecovered
  /-- TX_TIMEOUT (R394): A queued CAN frame has not won arbitration within 100 ms and is withdrawn. -/
  | txTimeout
  /-- WRITE_PKT (R579): SPI transaction that passes a command packet to CV2 and the queue. -/
  | writePkt (mosi : Bytes)
  /-- READ_LEN (R579): SPI transaction that returns the length of the oldest waiting reply. -/
  | readLen
  /-- READ_PKT (R580): SPI transaction that clocks out the oldest waiting reply and delivers it when complete. -/
  | readPkt (clocked : Nat)
  /-- BEAT_BOUNDARY (R279): Start of a beat: current factors, cuts, headroom adjustment, Gong pattern release and Roll end. -/
  | beatBoundary (heads : List (Option (BitVec 5)))
  /-- ROW_WRITE (R283): Plane slot in which a Mallet reads the show buffer and writes a row, with deadline and parity checks. -/
  | rowWrite (m : Fin 9) (slot : BitVec 10) (o : RowObs)
  /-- LATCH_READBACK (R311): READBACK slot that compares two rows' latches with their recorded contents. -/
  | latchReadback (q : ReadbackAt) (dev0 dev1 : List (Nat × BitVec 3))
  /-- STRIKE (R297): STRIKE slot in which each Mallet gives a Strike and the Strike watcher checks every segment. -/
  | strike
  /-- HANG_WATCH (R301): A Mallet completes no write in 32 plane slots, recording HANG and starting a takeover. -/
  | hangWatch (m : Fin 9)
  /-- GONG_TIMER_EXPIRY (R298): A segment's dead-man timer expires and asserts the Gong pattern for it. -/
  | gongTimerExpiry (segs : BitVec 8)
  /-- SENSE_CAPTURE (R321): Sense row connected, strobed, pulsed and captured for every sensed segment in a beat. -/
  | senseCapture (strobe compliance : List (BitVec 1536))
  /-- ROLL_CLASSIFY (R326): Completion of a sense row's conversions and classification into candidates and confirmations. -/
  | rollClassify (codes : List (List Nat)) (o : RollObs)
  /-- SLICE_FIT (R338): After 16 shadowed beats the spare fits and applies a slice's correction. -/
  | sliceFit (low high : List (List Nat)) (pairs : List (List (Nat × Nat)))
  /-- BAND_COMPOSED (R217): A compose lane finishes a band, checks residues and passes or replays it. -/
  | bandComposed (lane : Fin 4) (o : BandObs)
  /-- BAND_PROCESSED (R271): A band's drive words are written, read back and audited, and after band 95 the frame is compared and paced. -/
  | bandProcessed (band : Fin 96) (o : ProcObs)
  /-- GAIN_REBUILD_DONE (R260): A working pixel-gain bank rebuild completes and waits for the next boundary. -/
  | gainRebuildDone
  /-- GRANULE_ZEROED (R184): Zeroing of released granules completes and they return to the free pool. -/
  | granuleZeroed (start : Nat)
  /-- LIGHT_BUDGET_CHECK (R376): Segment frame means are written and compared with predicted currents. -/
  | lightBudgetCheck
  /-- HK_REPETITION (R344): Start of an HK sequence repetition running its entries, limits and self-calibration. -/
  | hkRepetition (codes : List Nat)
  /-- HEAD_SHORT (R490): A measured source falls below 100 mV and the VLED setpoint rises at once. -/
  | headShort (segs : BitVec 8)
  /-- FAST_RAISE_REPEAT (R490): Every 20 µs while headroom stays below 100 mV the setpoint rises again. -/
  | fastRaiseRepeat (segs : BitVec 8)
  /-- VLED_REG (R493): VLED outside its window for 250 µs fences the digital controller and hands over to the limp regulator. -/
  | vledReg
  /-- LIMP_REG (R493): VLED outside the limp window for 1 ms records a CRITICAL fault. -/
  | limpReg
  /-- VCORE_REG (R498): VCORE outside its window for 250 µs records a MAJOR fault. -/
  | vcoreReg
  /-- PACE_HOLD_END (R497): The 10 s suspension of VCORE decreases ends. -/
  | paceHoldEnd
  /-- DOMAIN_SW (R483): A power domain has not reached its commanded condition within 1 ms. -/
  | domainSw (pd : Fin 12)
  /-- CLAPPER_WATCHDOG (R78): The Clapper watchdog expires and is treated as a fatal error. -/
  | clapperWatchdog
  /-- FATAL_ERROR (R424): A fatal firmware error writes a dump to a free slot and starts a warm restart. -/
  | fatalError
  /-- WARM_RESTART (R161): Completion of a warm restart: Ledger tail replay, retained commands, then queued commands. -/
  | warmRestart
  /-- FAULT_LOG_PASS (R422): The Clapper passes over the event queues, logging events and sending EVT records. -/
  | faultLogPass
  /-- LOG_COALESCE (R422): End of a one-second window writes the coalesced record of excess events. -/
  | logCoalesce (blk : Fin 16) (kind src : BitVec 5)
  /-- LOCKOUT_END (R535): The 1,000 ms authentication lockout ends. -/
  | lockoutEnd
  /-- STAGE_VERIFY_DONE (R541): Verification of a fully staged image completes as VERIFIED or FAILED. -/
  | stageVerifyDone
  /-- CV_SCAN_DONE (R516): A CV5 scan finishes its last read and the final reply is sent. -/
  | cvScanDone (o : ScanObs)
  /-- CAL_RUN_TIMEOUT (R478): A calibration run does not reach its result within its time limit and completes with result 2. -/
  | calRunTimeout (unit : Fin 6)
  /-- EYE_MINIMUM_MET (R102): A lane receiver's adaptation reaches the eye minimum in ADAPT, so EQ_DONE is sent and a dropped lane becomes ready for rejoin. -/
  | eyeMinimumMet (lane : Fin 4)
  /-- POWER_GOOD (R483): A switched-on domain reports power-good and its isolation is released, completing step 1 of the STILL exit so the state becomes LIT or DEGRADED. -/
  | powerGood (pd : Fin 12)
  /-- BIST_DONE (R74): BIST of domains brought up by GONG_EXIT, or of a unit being unfenced, finishes and the state or unit proceeds on its outcome. -/
  | bistDone (fails : List BistUnit)
  /-- CAN_BUS_ERROR (R399): An error detected on the CAN FD bus moves the ISO 11898-1 error counters, recording ERR_WARN at 96 or ERR_PASSIVE on entering error passive. -/
  | canBusError (sending special : Bool)
  /-- CAN_TX_COMPLETE (R161): A CAN FD frame is transmitted without error, sending the next fragment, timestamping own TSY and marking an RSP delivered after its last frame. -/
  | canTxComplete
  /-- TAP_INSTRUCTION (R581): An instruction loaded into the JTAG TAP puts EXTEST or CLAMP in force in READY, or acts as BYPASS, changing which commands are refused. -/
  | tapInstruction (i : TapInstr)
  /-- SUPPLY_REMOVED (R572): VIO, VANA or a converter input supply is removed in a powered state, stopping the controllers and the limp regulator and darkening the array. -/
  | supplyRemoved (which : Supply)
  /-- LANE_ERR (R410): An invalid sync header is received on a lane and counted, and when the LANE_ERR tally is reached the lane is dropped as on loss of block lock. -/
  | laneErr (h : BadHeader)
  /-- PHASE_SHEDDING (R487): The summed VLED phase current crosses a shedding threshold, and the number of running phases changes at the next PWM cycle boundary. -/
  | phaseShedding (milliamps : Nat)
  deriving DecidableEq, Repr

end Sys2Proof
end

