-- ==== Sys2Proof/Machine/Operands.lean ====
section
/-!
DEFINITION. Fields of packets, records and tables: little-endian numbers in runs of bytes (R18), the check-value
polynomials P0 to P3 (R510), sparse maps with a default, and small list helpers.
-/
namespace Sys2Proof.Machine

/-- Byte i of a run; 0 beyond its end. -/
def byteAt (bs : Bytes) (i : Nat) : Byte := bs.getD i 0

/-- The n bytes from offset i. -/
def sliceB (bs : Bytes) (i n : Nat) : Bytes := (bs.drop i).take n

/-- A little-endian number of the bytes given (R18). -/
def leNat : Bytes → Nat
  | [] => 0
  | b :: t => b.toNat + 256 * leNat t

/-- A number as n bytes, low byte first (R18). -/
def natLe : Nat → Nat → Bytes
  | 0, _ => []
  | n + 1, v => BitVec.ofNat 8 v :: natLe n (v / 256)

/-- A number of n bytes at offset i. -/
def numAt (bs : Bytes) (i n : Nat) : Nat := leNat (sliceB bs i n)

def u16At (bs : Bytes) (i : Nat) : BitVec 16 := BitVec.ofNat 16 (numAt bs i 2)
def u32At (bs : Bytes) (i : Nat) : Word := BitVec.ofNat 32 (numAt bs i 4)

/-- A word of any width as n bytes, low byte first. -/
def leOf {w : Nat} (n : Nat) (v : BitVec w) : Bytes := natLe n v.toNat

/-- n bytes of value 0. -/
def zeros (n : Nat) : Bytes := List.replicate n 0

/-- A run padded with zero bytes to a length. -/
def padTo (n : Nat) (bs : Bytes) : Bytes := bs ++ zeros (n - bs.length)

/-- Bits [lo + n - 1 : lo] of a number. -/
def bitsN (v lo n : Nat) : Nat := v / 2 ^ lo % 2 ^ n

/-- A field of a word, as a number. -/
def fld {w : Nat} (v : BitVec w) (lo n : Nat) : Nat := bitsN v.toNat lo n

/-- A number placed at bit lo of a register word. -/
def at32 (lo : Nat) (v : Nat) : Word := BitVec.ofNat 32 (v * 2 ^ lo)

def bit01 (b : Bool) : Nat := if b then 1 else 0

/-- A signed number of the low n bits of v (R18: two's complement). -/
def sgn (n v : Nat) : Int := if v % 2 ^ n < 2 ^ (n - 1) then (v % 2 ^ n : Nat) else ((v % 2 ^ n : Nat) : Int) - (2 ^ n : Nat)

/-- A signed number as a word of w bits. -/
def ofSgn (w : Nat) (v : Int) : BitVec w := BitVec.ofInt w v

def clampN (lo hi v : Nat) : Nat := if v < lo then lo else if hi < v then hi else v
def clampI (lo hi v : Int) : Int := if v < lo then lo else if hi < v then hi else v

/-- Division of integers rounding half away from zero. -/
def divRound (n : Int) (d : Nat) : Int :=
  if n < 0 then -(((2 * (-n) + d) / (2 * d : Nat) : Int)) else (2 * n + d) / ((2 * d : Nat) : Int)

/-- rhe of R223: the integer nearest to n / d, ties to even. -/
def rhe (n : Int) (d : Nat) : Int :=
  let q := n / (d : Int)
  let r := n - q * d
  if (d : Int) < 2 * r ∨ (2 * r = (d : Int) ∧ q % 2 = 1) then q + 1 else q

/-- rhe of a natural number. -/
def rheN (n d : Nat) : Nat :=
  let q := n / d
  let r := n % d
  if d < 2 * r ∨ (2 * r = d ∧ q % 2 = 1) then q + 1 else q

/-- A count that stops at its largest value. -/
def satAdd (m a k : Nat) : Nat := Nat.min m (a + k)

/-- f applied n times. -/
def iter {α : Type} : Nat → (α → α) → α → α
  | 0, _, x => x
  | n + 1, f, x => iter n f (f x)

/-- f applied for each number from i on, n of them, in ascending order. -/
def forN {α : Type} : Nat → Nat → (Nat → α → α) → α → α
  | 0, _, _, x => x
  | n + 1, i, f, x => forN n (i + 1) f (f i x)

/-- The numbers below n that satisfy p, ascending. -/
def selN (n : Nat) (p : Nat → Bool) : List Nat := (List.range n).filter p

def setAt {α : Type} (l : List α) (i : Nat) (v : α) : List α := l.set i v
def modAt {α : Type} [Inhabited α] (l : List α) (i : Nat) (f : α → α) : List α := l.set i (f (l.getD i default))

def maxL (l : List Nat) : Nat := l.foldl Nat.max 0
def sumL (l : List Nat) : Nat := l.foldl (· + ·) 0

/-! Check values (R510, R511). -/

/-- One bit of a reflected CRC of 32 bits. -/
def crcBitR (p : Word) (c : Word) : Word := if c.getLsbD 0 then (c >>> 1) ^^^ p else c >>> 1

/-- One byte of a reflected CRC, least significant bit first. -/
def crcByteR (p : Word) (c : Word) (b : Byte) : Word := iter 8 (crcBitR p) (c ^^^ b.setWidth 32)

def crcReflected (p : Word) (bs : Bytes) : Word := (bs.foldl (crcByteR p) 0xFFFFFFFF) ^^^ 0xFFFFFFFF

/-- P0, CRC-32. -/
def crcP0 (bs : Bytes) : Word := crcReflected 0xEDB88320 bs

/-- P1, CRC-32C. -/
def crcP1 (bs : Bytes) : Word := crcReflected 0x82F63B78 bs

/-- The running state of P1 without its final XOR, so that a signature can be extended (R512). -/
def crcP1Start : Word := 0xFFFFFFFF
def crcP1Ext (c : Word) (bs : Bytes) : Word := bs.foldl (crcByteR 0x82F63B78) c
def crcP1End (c : Word) : Word := c ^^^ 0xFFFFFFFF

def crcBitN {w : Nat} (p : BitVec w) (c : BitVec w) : BitVec w := if c.msb then (c <<< 1) ^^^ p else c <<< 1

/-- P2, CRC-16: not reflected, initial value 0xFFFF, no final XOR. -/
def crcP2 (bs : Bytes) : BitVec 16 :=
  bs.foldl (fun c b => iter 8 (crcBitN (0x1021 : BitVec 16)) (c ^^^ ((b.setWidth 16).shiftLeft 8))) 0xFFFF

/-- P3, CRC-8. -/
def crcP3 (bs : Bytes) : BitVec 8 :=
  (bs.foldl (fun c b => iter 8 (crcBitN (0x2F : BitVec 8)) (c ^^^ b)) 0xFF) ^^^ 0xFF

/-- The polynomial codes of R510, zero-extended as R511 says. -/
def crcOf (code : Nat) (bs : Bytes) : Word :=
  match code with
  | 0 => crcP0 bs
  | 1 => crcP1 bs
  | 2 => (crcP2 bs).setWidth 32
  | _ => (crcP3 bs).setWidth 32

/-! Sparse maps: entries in strictly rising key order, none equal to the default. -/

/-- The value at a key; the default where nothing is listed. -/
def spGet {α : Type} (d : α) : List (Nat × α) → Nat → α
  | [], _ => d
  | (k, v) :: t, a => if a = k then v else spGet d t a

/-- Write a value; a value equal to the default removes the entry. -/
def spSet {α : Type} [DecidableEq α] (d : α) : List (Nat × α) → Nat → α → List (Nat × α)
  | [], a, v => if v = d then [] else [(a, v)]
  | (k, w) :: t, a, v =>
    if a < k then (if v = d then (k, w) :: t else (a, v) :: (k, w) :: t)
    else if a = k then (if v = d then t else (a, v) :: t)
    else (k, w) :: spSet d t a v

/-- The canonical form of a sparse map. -/
def spWf {α : Type} [DecidableEq α] (d : α) : List (Nat × α) → Bool
  | [] => true
  | (k, v) :: t => decide (v ≠ d) && t.all (fun e => decide (k < e.1)) && spWf d t

/-- Values written at consecutive keys. -/
def spSetRun {α : Type} [DecidableEq α] (d : α) (m : List (Nat × α)) : Nat → List α → List (Nat × α)
  | _, [] => m
  | a, v :: t => spSetRun d (spSet d m a v) (a + 1) t

/-- n values from consecutive keys. -/
def spGetRun {α : Type} (d : α) (m : List (Nat × α)) (a n : Nat) : List α :=
  (List.range n).map (fun i => spGet d m (a + i))

end Sys2Proof.Machine
end

