-- ==== Sys2Proof/Machine/Crypto.lean ====
section
/-!
DEFINITION. The cryptographic functions the spec names without defining: AES-128, its CMAC (R531) and SHA-256 (R537,
R543). The spec names the standards only; these definitions follow them. Mark: PRESUMED (log entry 8), unsafe.
-/
namespace Sys2Proof.Machine

/-! AES-128. -/

def gfDouble (b : Byte) : Byte := if b.msb then (b <<< 1) ^^^ 0x1B else b <<< 1

def gfMul (a b : Byte) : Byte :=
  (forN 8 0 (fun i (st : Byte × Byte) => ((if b.getLsbD i then st.1 ^^^ st.2 else st.1), gfDouble st.2)) (0, a)).1

def gfSquare (a : Byte) : Byte := gfMul a a

/-- The inverse in GF(2^8), 0 for 0: the 254th power. -/
def gfInv (a : Byte) : Byte :=
  let a2 := gfSquare a
  let a3 := gfMul a2 a
  let a12 := gfSquare (gfSquare a3)
  let a15 := gfMul a12 a3
  let a240 := iter 4 gfSquare a15
  gfMul (gfMul a240 a12) a2

/-- The AES substitution of one byte. -/
def aesSub (a : Byte) : Byte :=
  let b := gfInv a
  b ^^^ b.rotateLeft 1 ^^^ b.rotateLeft 2 ^^^ b.rotateLeft 3 ^^^ b.rotateLeft 4 ^^^ 0x63

/-- The inverse substitution. -/
def aesUnsub (a : Byte) : Byte :=
  gfInv (a.rotateLeft 1 ^^^ a.rotateLeft 3 ^^^ a.rotateLeft 6 ^^^ 0x05)

def xorB (a b : Bytes) : Bytes := List.zipWith (· ^^^ ·) a b

/-- The next round key. -/
def aesNextKey (rc : Byte) (k : Bytes) : Bytes :=
  let t := [aesSub (byteAt k 13) ^^^ rc, aesSub (byteAt k 14), aesSub (byteAt k 15), aesSub (byteAt k 12)]
  let w0 := xorB (sliceB k 0 4) t
  let w1 := xorB (sliceB k 4 4) w0
  let w2 := xorB (sliceB k 8 4) w1
  let w3 := xorB (sliceB k 12 4) w2
  w0 ++ w1 ++ w2 ++ w3

/-- The round keys after the first, oldest first. -/
def aesKeys : Nat → Byte → Bytes → List Bytes
  | 0, _, _ => []
  | n + 1, rc, k => let k' := aesNextKey rc k; k' :: aesKeys n (gfDouble rc) k'

def aesShiftRows (b : Bytes) : Bytes :=
  [0, 5, 10, 15, 4, 9, 14, 3, 8, 13, 2, 7, 12, 1, 6, 11].map (byteAt b)

def aesUnshiftRows (b : Bytes) : Bytes :=
  [0, 13, 10, 7, 4, 1, 14, 11, 8, 5, 2, 15, 12, 9, 6, 3].map (byteAt b)

/-- Every column multiplied by the circulant matrix of the four coefficients. -/
def aesMix (c0 c1 c2 c3 : Byte) (b : Bytes) : Bytes :=
  (List.range 16).map (fun i =>
    let col := i / 4 * 4
    let r := i % 4
    gfMul c0 (byteAt b (col + r)) ^^^ gfMul c1 (byteAt b (col + (r + 1) % 4)) ^^^
    gfMul c2 (byteAt b (col + (r + 2) % 4)) ^^^ gfMul c3 (byteAt b (col + (r + 3) % 4)))

def aesRounds : List Bytes → Bytes → Bytes
  | [], b => b
  | [k], b => xorB (aesShiftRows (b.map aesSub)) k
  | k :: ks, b => aesRounds ks (xorB (aesMix 2 3 1 1 (aesShiftRows (b.map aesSub))) k)

/-- One block encrypted under a 16-byte key. -/
def aesEnc (key blk : Bytes) : Bytes := aesRounds (aesKeys 10 1 key) (xorB blk key)

def aesUnrounds : List Bytes → Bytes → Bytes
  | [], b => b
  | k :: ks, b => aesUnrounds ks (aesMix 14 11 13 9 (xorB ((aesUnshiftRows b).map aesUnsub) k))

/-- One block decrypted under a 16-byte key (KEY_INSTALL unwraps with it, R526). -/
def aesDec (key blk : Bytes) : Bytes :=
  match (key :: aesKeys 10 1 key).reverse with
  | [] => blk
  | last :: rest =>
    let inner := rest.dropLast
    xorB ((aesUnshiftRows (aesUnrounds inner (xorB blk last))).map aesUnsub) key

/-- The doubling of a 16-byte string, for the CMAC subkeys. -/
def cmacDouble (b : Bytes) : Bytes :=
  let v := b.foldl (fun a x => a * 256 + x.toNat) 0
  let w := (v * 2 % 2 ^ 128) ^^^ (if v < 2 ^ 127 then 0 else 0x87)
  (natLe 16 w).reverse

def cmacBlocks (key : Bytes) : Nat → Bytes → Bytes → Bytes
  | 0, _, x => x
  | n + 1, m, x => cmacBlocks key n (m.drop 16) (aesEnc key (xorB x (m.take 16)))

/-- The 16-byte AES-CMAC tag of a message. -/
def aesCmac (key msg : Bytes) : Bytes :=
  let k1 := cmacDouble (aesEnc key (zeros 16))
  let n := if msg.length = 0 then 1 else (msg.length + 15) / 16
  let last := msg.drop (16 * (n - 1))
  let lastB := if last.length = 16 then xorB last k1
    else xorB (padTo 16 (last ++ [0x80])) (cmacDouble k1)
  aesEnc key (xorB (cmacBlocks key (n - 1) msg (zeros 16)) lastB)

/-- The MAC of R531: the first 8 bytes of the tag over the prefix block and the covered bytes. -/
def macOf (key : Bytes) (domain : Byte) (profL : Bool) (serial : Bytes) (covered : Bytes) : Bytes :=
  (aesCmac key ([domain, if profL then 1 else 0] ++ zeros 6 ++ serial ++ covered)).take 8

/-! SHA-256. -/

def sha256K : List Word :=
  [0x428a2f98, 0x71374491, 0xb5c0fbcf, 0xe9b5dba5, 0x3956c25b, 0x59f111f1, 0x923f82a4, 0xab1c5ed5] ++
  [0xd807aa98, 0x12835b01, 0x243185be, 0x550c7dc3, 0x72be5d74, 0x80deb1fe, 0x9bdc06a7, 0xc19bf174] ++
  [0xe49b69c1, 0xefbe4786, 0x0fc19dc6, 0x240ca1cc, 0x2de92c6f, 0x4a7484aa, 0x5cb0a9dc, 0x76f988da] ++
  [0x983e5152, 0xa831c66d, 0xb00327c8, 0xbf597fc7, 0xc6e00bf3, 0xd5a79147, 0x06ca6351, 0x14292967] ++
  [0x27b70a85, 0x2e1b2138, 0x4d2c6dfc, 0x53380d13, 0x650a7354, 0x766a0abb, 0x81c2c92e, 0x92722c85] ++
  [0xa2bfe8a1, 0xa81a664b, 0xc24b8b70, 0xc76c51a3, 0xd192e819, 0xd6990624, 0xf40e3585, 0x106aa070] ++
  [0x19a4c116, 0x1e376c08, 0x2748774c, 0x34b0bcb5, 0x391c0cb3, 0x4ed8aa4a, 0x5b9cca4f, 0x682e6ff3] ++
  [0x748f82ee, 0x78a5636f, 0x84c87814, 0x8cc70208, 0x90befffa, 0xa4506ceb, 0xbef9a3f7, 0xc67178f2]

def sha256H0 : List Word :=
  [0x6a09e667, 0xbb67ae85, 0x3c6ef372, 0xa54ff53a, 0x510e527f, 0x9b05688c, 0x1f83d9ab, 0x5be0cd19]

def wordBe (b : Bytes) : Word := BitVec.ofNat 32 (b.foldl (fun a x => a * 256 + x.toNat) 0)

/-- The message schedule, newest word first. -/
def sha256Sched : Nat → List Word → List Word
  | 0, w => w
  | n + 1, w =>
    let g := fun i => w.getD i 0
    let s0 := (g 14).rotateRight 7 ^^^ (g 14).rotateRight 18 ^^^ ((g 14) >>> 3)
    let s1 := (g 1).rotateRight 17 ^^^ (g 1).rotateRight 19 ^^^ ((g 1) >>> 10)
    sha256Sched n ((g 15 + s0 + g 6 + s1) :: w)

def sha256Round (h : List Word) (kw : Word × Word) : List Word :=
  let g := fun i => h.getD i 0
  let s1 := (g 4).rotateRight 6 ^^^ (g 4).rotateRight 11 ^^^ (g 4).rotateRight 25
  let ch := (g 4 &&& g 5) ^^^ (~~~(g 4) &&& g 6)
  let t1 := g 7 + s1 + ch + kw.1 + kw.2
  let s0 := (g 0).rotateRight 2 ^^^ (g 0).rotateRight 13 ^^^ (g 0).rotateRight 22
  let mj := (g 0 &&& g 1) ^^^ (g 0 &&& g 2) ^^^ (g 1 &&& g 2)
  [t1 + s0 + mj, g 0, g 1, g 2, g 3 + t1, g 4, g 5, g 6]

def sha256Block (h : List Word) (b : Bytes) : List Word :=
  let w0 := (List.range 16).map (fun i => wordBe (sliceB b (4 * i) 4))
  let w := (sha256Sched 48 w0.reverse).reverse
  List.zipWith (· + ·) h ((sha256K.zip w).foldl sha256Round h)

def sha256Blocks : Nat → Bytes → List Word → List Word
  | 0, _, h => h
  | n + 1, m, h => sha256Blocks n (m.drop 64) (sha256Block h (m.take 64))

/-- The 32-byte SHA-256 digest of a message. -/
def sha256 (msg : Bytes) : Bytes :=
  let pad := (119 - msg.length % 64) % 64
  let m := msg ++ [0x80] ++ zeros pad ++ (natLe 8 (8 * msg.length)).reverse
  ((sha256Blocks (m.length / 64) m sha256H0).map (fun w => (leOf 4 w).reverse)).flatten

end Sys2Proof.Machine
end

