-- ==== Sys2Proof/Machine/RegTab.lean ====
section
/-!
DEFINITION. The register map (R82 to R86, R135 to R140, R181, R215, R251, R252, R277, R314, R349, R351, R385, R398, R413,
R457, R458, R505, R521, R545): for each register its address, how many of it there are and how far apart, which of its bits
have each access kind of R20, and its reset word. A 64-bit register stands as two words. The fault register sets of R400
are not in it.
-/
namespace Sys2Proof.Machine

/-- A register, or an array of registers, of the map. -/
structure RegRow where
  base : Nat
  count : Nat
  stride : Nat
  ro : Nat
  rw : Nat
  wo : Nat
  w1c : Nat
  rc : Nat
  sh : Nat
  reset : Nat
  deriving DecidableEq, Repr, Inhabited

/-- SYS_STATE, SYS_BOOT_STAT, SYS_T_GONGCAP, SYS_T_READY, SYS_RST_CAUSE, SYS_BOOT_CFG, SYS_KEEPER. -/
def regsSys : List RegRow :=
  [⟨0x10, 1, 4, 0x3ffff, 0, 0, 0, 0, 0, 0⟩,
   ⟨0x14, 1, 4, 0x1fff, 0, 0, 0, 0, 0, 0⟩,
   ⟨0x18, 1, 4, 0xffffffff, 0, 0, 0, 0, 0, 0⟩,
   ⟨0x1c, 1, 4, 0xffffffff, 0, 0, 0, 0, 0, 0⟩,
   ⟨0x20, 1, 4, 0xffffff, 0, 0, 0, 0, 0, 0⟩,
   ⟨0x24, 1, 4, 0, 0x7, 0, 0, 0, 0, 0⟩,
   ⟨0x30, 2, 4, 0xffffffff, 0, 0, 0, 0, 0, 0⟩]

/-- CLAP_CMD_STAT, CLAP_LEDGER_SEQ, CLAP_VIOL_CNT, CLAP_VIOL_SRC, CLAP_VIOL_SEQ, CLAP_VIOL_ADDR, CLAP_EVT_CFG, CLAP_IRQ_CFG. -/
def regsClap : List RegRow :=
  [⟨0x10000, 1, 4, 0x3fff, 0, 0, 0, 0, 0, 0⟩,
   ⟨0x10004, 1, 4, 0xffffffff, 0, 0, 0, 0, 0, 0⟩,
   ⟨0x10008, 1, 4, 0, 0, 0, 0, 0xffffffff, 0, 0⟩,
   ⟨0x1000c, 1, 4, 0xffffff7f, 0, 0, 0, 0, 0, 0⟩,
   ⟨0x10010, 1, 4, 0xffffffff, 0, 0, 0, 0, 0, 0⟩,
   ⟨0x10014, 1, 4, 0xffffffff, 0, 0, 0, 0, 0, 0⟩,
   ⟨0x10018, 1, 4, 0, 0x3, 0, 0, 0, 0, 0⟩,
   ⟨0x1001c, 1, 4, 0, 0x7, 0, 0, 0, 0, 0x5⟩]

/-- LINK_CFG, LINK_CTRL, LINK_STAT, LINK_TIMER, LINK_QUAL_CFG, LINK_LANEn_STAT, LINK_LANEn_EYE, LINK_LANEn_ERR, LINK_LANEn_FREEZE, LINK_CRC_ERR, LINK_REPLAY_CNT, LINK_VIOL, LINK_VIOL_SEQ, LINK_WB_SKIP. -/
def regsLink : List RegRow :=
  [⟨0x30000, 1, 4, 0, 0xffff, 0, 0, 0, 0, 0xa4d⟩,
   ⟨0x30004, 1, 4, 0, 0, 0x3f, 0, 0, 0, 0⟩,
   ⟨0x30008, 1, 4, 0xff7fffff, 0, 0, 0, 0, 0, 0⟩,
   ⟨0x3000c, 1, 4, 0, 0x3ff, 0, 0, 0, 0, 0x32⟩,
   ⟨0x30010, 1, 4, 0, 0xffffffff, 0, 0, 0, 0, 0x4d335a4d⟩,
   ⟨0x30020, 4, 16, 0xffff007f, 0, 0, 0, 0, 0, 0⟩,
   ⟨0x30024, 4, 16, 0x3fffff, 0, 0, 0, 0, 0, 0⟩,
   ⟨0x30028, 4, 16, 0, 0, 0, 0, 0xffffffff, 0, 0⟩,
   ⟨0x3002c, 4, 16, 0xffffffff, 0, 0, 0, 0, 0, 0⟩,
   ⟨0x30060, 1, 4, 0, 0, 0, 0, 0xffffffff, 0, 0⟩,
   ⟨0x30064, 1, 4, 0, 0, 0, 0, 0xffffffff, 0, 0⟩,
   ⟨0x30068, 1, 4, 0xf0000, 0, 0, 0, 0xffff, 0, 0⟩,
   ⟨0x3006c, 1, 4, 0xffff, 0, 0, 0, 0, 0, 0⟩,
   ⟨0x30070, 1, 4, 0, 0, 0, 0, 0xffffffff, 0, 0⟩]

/-- CAN_CFG, CAN_ID_CFG, CAN_NBT, CAN_DBT, CAN_STAT, CAN_CNT. -/
def regsCan : List RegRow :=
  [⟨0x40000, 1, 4, 0, 0x3ff, 0, 0, 0, 0, 0x57⟩,
   ⟨0x40004, 1, 4, 0, 0x7ff, 0, 0, 0, 0, 0x320⟩,
   ⟨0x40008, 1, 4, 0, 0x7ffffff, 0, 0, 0, 0, 0x10207e0⟩,
   ⟨0x4000c, 1, 4, 0, 0x1ffffff, 0, 0, 0, 0, 0x88e0⟩,
   ⟨0x40010, 1, 4, 0x7ffff, 0, 0, 0, 0, 0, 0⟩,
   ⟨0x40014, 1, 4, 0, 0, 0, 0, 0xffffffff, 0, 0⟩]

/-- TABORn_COUNT, TABORn_COUNT_H, TABORn_STAT, TABORn_RATE, TABORn_EPOCH_OFFSET, TABORn_EPOCH_OFFSET_H, TABORn_RATE_ARM, TABORn_ADJ_ARM, TABORn_ADJ_ARM_H, TABORn_CTRL, TABORn_LAST_OFFSET, TABORn_MASTER, TABORn_HOLD_MS, TABORn_CFG, TABORn_NET, TABOR_ASYM_E_IN. -/
def regsTabor0 : List RegRow :=
  [⟨0x50000, 4, 64, 0xffffffff, 0, 0, 0, 0, 0, 0⟩,
   ⟨0x50004, 4, 64, 0xffffffff, 0, 0, 0, 0, 0, 0⟩,
   ⟨0x50008, 4, 64, 0x71fffff, 0, 0, 0, 0, 0, 0⟩,
   ⟨0x5000c, 4, 64, 0xffffffff, 0, 0, 0, 0, 0, 0⟩,
   ⟨0x50010, 4, 64, 0xffffffff, 0, 0, 0, 0, 0, 0⟩,
   ⟨0x50014, 4, 64, 0xffffffff, 0, 0, 0, 0, 0, 0⟩,
   ⟨0x50018, 4, 64, 0, 0xffffffff, 0, 0, 0, 0, 0⟩,
   ⟨0x50020, 4, 64, 0, 0xffffffff, 0, 0, 0, 0, 0⟩,
   ⟨0x50024, 4, 64, 0, 0xffffffff, 0, 0, 0, 0, 0⟩,
   ⟨0x50028, 4, 64, 0, 0, 0x1, 0, 0, 0, 0⟩,
   ⟨0x5002c, 4, 64, 0xffffffff, 0, 0, 0, 0, 0, 0⟩,
   ⟨0x50030, 4, 64, 0x3ffff, 0, 0, 0, 0, 0, 0⟩,
   ⟨0x50034, 4, 64, 0xffffffff, 0, 0, 0, 0, 0, 0⟩,
   ⟨0x50038, 4, 64, 0, 0x1fff, 0, 0, 0, 0, 0⟩,
   ⟨0x5003c, 4, 64, 0, 0xfffffff, 0, 0, 0, 0, 0x1901f4⟩,
   ⟨0x50100, 3, 4, 0, 0xffffffff, 0, 0, 0, 0, 0⟩]

/-- TABOR_ASYM_C_IN, TABOR_DELAY_MAX, TABOR_T2_PHASE, TABOR_CAM_PERIOD, TABOR_CAM_WIN, TABOR_CAM_T1, TABOR_CAM_T3, TABOR_CAM_CNT, TABOR_TB, TABOR_XTAL_PPB. -/
def regsTabor1 : List RegRow :=
  [⟨0x5010c, 3, 4, 0, 0xffffffff, 0, 0, 0, 0, 0⟩,
   ⟨0x50118, 1, 4, 0, 0xffffffff, 0, 0, 0, 0, 0x13880064⟩,
   ⟨0x5011c, 1, 4, 0, 0x7ffffff, 0, 0, 0, 0, 0⟩,
   ⟨0x50120, 1, 4, 0, 0xffffffff, 0, 0, 0, 0, 0⟩,
   ⟨0x50124, 1, 4, 0, 0xfffff, 0, 0, 0, 0, 0xc350⟩,
   ⟨0x50128, 2, 4, 0xffffffff, 0, 0, 0, 0, 0, 0⟩,
   ⟨0x50130, 2, 4, 0xffffffff, 0, 0, 0, 0, 0, 0⟩,
   ⟨0x50138, 1, 4, 0, 0, 0, 0, 0xffffffff, 0, 0⟩,
   ⟨0x5013c, 1, 4, 0x3, 0, 0, 0, 0, 0, 0⟩,
   ⟨0x50140, 1, 4, 0xffffffff, 0, 0, 0, 0, 0, 0⟩]

/-- CARL_CTRL, CARL_STAT, CARL_FRAME, CARL_PACE, CARL_PACE_MIN, CARL_LOAD, CARL_OUT_SIG, CARL_SAT_CNT, CARL_FC_STAT, CARL_FC_HITS, CARL_MARGIN, CARL_WB_CFG, CARL_WB_BUF, CARL_WB_OFFSET, CARL_WB_STRIDE, CARL_WB_STAT. -/
def regsCarl0 : List RegRow :=
  [⟨0x60000, 1, 4, 0, 0x1, 0xf0, 0, 0, 0, 0x1⟩,
   ⟨0x60004, 1, 4, 0xffff, 0, 0, 0, 0, 0, 0⟩,
   ⟨0x60008, 1, 4, 0xffffffff, 0, 0, 0, 0, 0, 0⟩,
   ⟨0x6000c, 1, 4, 0xfffff, 0, 0, 0, 0, 0, 0⟩,
   ⟨0x60010, 1, 4, 0xfffff, 0, 0, 0, 0, 0, 0⟩,
   ⟨0x60014, 1, 4, 0xffffffff, 0, 0, 0, 0, 0, 0⟩,
   ⟨0x60018, 1, 4, 0xffffffff, 0, 0, 0, 0, 0, 0⟩,
   ⟨0x6001c, 1, 4, 0x1fffff, 0, 0, 0, 0, 0, 0⟩,
   ⟨0x60020, 1, 4, 0x3ffff, 0, 0, 0, 0, 0, 0⟩,
   ⟨0x60024, 1, 4, 0, 0, 0, 0, 0xffffffff, 0, 0⟩,
   ⟨0x60028, 1, 4, 0xfffff, 0, 0, 0, 0, 0, 0⟩,
   ⟨0x60030, 1, 4, 0, 0, 0, 0, 0, 0x71f, 0⟩,
   ⟨0x60034, 1, 4, 0, 0, 0, 0, 0, 0xffff, 0⟩,
   ⟨0x60038, 1, 4, 0, 0, 0, 0, 0, 0xffffffff, 0⟩,
   ⟨0x6003c, 1, 4, 0, 0, 0, 0, 0, 0xffff, 0⟩,
   ⟨0x60040, 1, 4, 0xffffffff, 0, 0, 0, 0, 0, 0⟩]

/-- CARL_WB_UP_STAT, CARL_KO_GEN, CARL_KO_CNT, CARL_GROUP, CARL_RESIDUE_CNT, CARL_REPLAY_CNT, CARL_Ln_W0, CARL_Ln_W1, CARL_Ln_W2, CARL_Ln_W3, CARL_Ln_W4, CARL_Ln_W5, CARL_Ln_W6, CARL_Ln_W7. -/
def regsCarl1 : List RegRow :=
  [⟨0x60044, 1, 4, 0xffffffff, 0, 0, 0, 0, 0, 0⟩,
   ⟨0x60050, 1, 4, 0xffffffff, 0, 0, 0, 0, 0, 0⟩,
   ⟨0x60054, 1, 4, 0x1f, 0, 0, 0, 0, 0, 0⟩,
   ⟨0x60060, 1, 4, 0, 0, 0, 0, 0, 0xffffffff, 0⟩,
   ⟨0x60070, 1, 4, 0, 0, 0, 0, 0xffffffff, 0, 0⟩,
   ⟨0x60074, 1, 4, 0, 0, 0, 0, 0xffffffff, 0, 0⟩,
   ⟨0x60100, 8, 32, 0, 0, 0, 0, 0, 0xff070f0f, 0⟩,
   ⟨0x60104, 8, 32, 0, 0, 0, 0, 0, 0x803fffff, 0⟩,
   ⟨0x60108, 8, 32, 0, 0, 0, 0, 0, 0xffffffff, 0⟩,
   ⟨0x6010c, 8, 32, 0, 0, 0, 0, 0, 0xffffffff, 0⟩,
   ⟨0x60110, 8, 32, 0, 0, 0, 0, 0, 0xffffffff, 0⟩,
   ⟨0x60114, 8, 32, 0, 0, 0, 0, 0, 0xffffffff, 0⟩,
   ⟨0x60118, 8, 32, 0, 0, 0, 0, 0, 0xffffffff, 0⟩,
   ⟨0x6011c, 8, 32, 0, 0, 0, 0, 0, 0x7, 0⟩]

/-- STORE_STAT, STORE_LARGEST, STORE_COMMIT_STAT, STORE_FENCE_ARMED, STORE_FENCE_SIG, STORE_FENCE_TO, STORE_VIOL, STORE_VIOL_ADDR, STORE_VIOL_SRC, STORE_VIOL_CNT, STORE_ECC_CE. -/
def regsStore : List RegRow :=
  [⟨0x70000, 1, 4, 0x3ffffff, 0, 0, 0, 0, 0, 0⟩,
   ⟨0x70004, 1, 4, 0x3fffff, 0, 0, 0, 0, 0, 0⟩,
   ⟨0x70008, 1, 4, 0x7ff, 0, 0, 0, 0, 0, 0⟩,
   ⟨0x70010, 2, 4, 0xffffffff, 0, 0, 0, 0, 0, 0⟩,
   ⟨0x70018, 2, 4, 0xffffffff, 0, 0, 0, 0, 0, 0⟩,
   ⟨0x70020, 2, 4, 0xffffffff, 0, 0, 0, 0, 0, 0⟩,
   ⟨0x70030, 1, 4, 0x7, 0, 0, 0, 0, 0, 0⟩,
   ⟨0x70034, 1, 4, 0xffffffff, 0, 0, 0, 0, 0, 0⟩,
   ⟨0x70038, 1, 4, 0xffffffff, 0, 0, 0, 0, 0, 0⟩,
   ⟨0x7003c, 1, 4, 0, 0, 0, 0, 0xffffffff, 0, 0⟩,
   ⟨0x70040, 1, 4, 0, 0, 0, 0, 0xffffffff, 0, 0⟩]

/-- PIX_STAT, PIX_FRAME, PIX_CAL_GEN, PIX_DERATE_GEN, PIX_GOV, PIX_GOV_NEXT, PIX_ASSIST, PIX_DRIVE_SIG, PIX_RB_CRC, PIX_SAT_CNT, PIX_DEMAND, PIX_SEG_DEMANDs, PIX_CONFLICT, PIX_CONFLICT_CNT, PIX_FLOOR_DERATE, PIX_SB_ADDR. -/
def regsPix0 : List RegRow :=
  [⟨0x80000, 1, 4, 0xfff, 0, 0, 0, 0, 0, 0⟩,
   ⟨0x80004, 1, 4, 0xffffffff, 0, 0, 0, 0, 0, 0⟩,
   ⟨0x80008, 1, 4, 0xffffffff, 0, 0, 0, 0, 0, 0⟩,
   ⟨0x8000c, 1, 4, 0xffffffff, 0, 0, 0, 0, 0, 0⟩,
   ⟨0x80010, 1, 4, 0x1ffff, 0, 0, 0, 0, 0, 0⟩,
   ⟨0x80014, 1, 4, 0x1ffff, 0, 0, 0, 0, 0, 0⟩,
   ⟨0x80018, 1, 4, 0x1ff, 0, 0, 0, 0, 0, 0⟩,
   ⟨0x80020, 1, 4, 0xffffffff, 0, 0, 0, 0, 0, 0⟩,
   ⟨0x80024, 1, 4, 0xffffffff, 0, 0, 0, 0, 0, 0⟩,
   ⟨0x80028, 1, 4, 0x1fffff, 0, 0, 0, 0, 0, 0⟩,
   ⟨0x80030, 2, 4, 0xffffffff, 0, 0, 0, 0, 0, 0⟩,
   ⟨0x80040, 8, 4, 0xffffffff, 0, 0, 0, 0, 0, 0⟩,
   ⟨0x80060, 1, 4, 0x7fffff, 0, 0, 0, 0, 0, 0⟩,
   ⟨0x80064, 1, 4, 0, 0, 0, 0, 0xffffffff, 0, 0⟩,
   ⟨0x80068, 1, 4, 0x7fffff, 0, 0, 0, 0, 0, 0⟩,
   ⟨0x80070, 1, 4, 0, 0x3fffff, 0, 0, 0, 0, 0⟩]

/-- PIX_SB_DATA, PIX_ECC_CE. -/
def regsPix1 : List RegRow :=
  [⟨0x80074, 1, 4, 0xffffffff, 0, 0, 0, 0, 0, 0⟩,
   ⟨0x80078, 1, 4, 0, 0, 0, 0, 0xffffffff, 0, 0⟩]

/-- MALLET_CTRL, MALLET_STAT, MALLET_BEAT, MALLET_FRAME_CFG, MALLET_H_TIMING, MALLET_V_TIMING, MALLET_SCORE_CTRL, MALLET_SCORE_GEN, MALLET_SEG_SCALEs, MALLET_CNTm, MALLET_TAKEOVER, MALLET_GONG, MALLET_CUT_TOTAL, MALLET_CUTs_w. -/
def regsMallet : List RegRow :=
  [⟨0x90000, 1, 4, 0, 0x200, 0x1ff, 0, 0, 0, 0⟩,
   ⟨0x90004, 1, 4, 0x7fffff, 0, 0, 0, 0, 0, 0⟩,
   ⟨0x90008, 2, 4, 0xffffffff, 0, 0, 0, 0, 0, 0⟩,
   ⟨0x90010, 1, 4, 0, 0x3, 0, 0, 0, 0, 0⟩,
   ⟨0x90020, 1, 4, 0, 0, 0, 0, 0, 0xffffffff, 0x8040430⟩,
   ⟨0x90024, 1, 4, 0, 0, 0, 0, 0, 0xf0f7f, 0x80460⟩,
   ⟨0x90030, 1, 4, 0, 0, 0, 0, 0, 0x1, 0⟩,
   ⟨0x90034, 1, 4, 0xffffffff, 0, 0, 0, 0, 0, 0⟩,
   ⟨0x90040, 8, 4, 0x3ff, 0, 0, 0, 0, 0, 0⟩,
   ⟨0x90060, 9, 4, 0, 0, 0, 0, 0xffffffff, 0, 0⟩,
   ⟨0x90090, 1, 4, 0xffff, 0, 0, 0, 0, 0, 0⟩,
   ⟨0x90094, 1, 4, 0xff, 0, 0, 0xff00, 0, 0, 0⟩,
   ⟨0x90098, 1, 4, 0x3fff, 0, 0, 0, 0, 0, 0⟩,
   ⟨0x90400, 384, 4, 0, 0, 0, 0xffffffff, 0, 0, 0⟩]

/-- SENSE_CTRL, SENSE_SLC_UNFENCE, SENSE_STAT, SENSE_ROLL, SENSE_THR0, SENSE_THR1, SENSE_CUT_LIMIT, SENSE_FENCED, SENSE_CAND, SENSE_CONFIRMED, SENSE_UNMEAS, SENSE_SLC_CORRi, SENSE_SLC_QUALi. -/
def regsSense : List RegRow :=
  [⟨0xa0000, 1, 4, 0, 0x1, 0, 0, 0, 0, 0x1⟩,
   ⟨0xa0004, 1, 4, 0, 0, 0xff, 0, 0, 0, 0⟩,
   ⟨0xa0008, 1, 4, 0xffffff, 0, 0, 0, 0, 0, 0⟩,
   ⟨0xa000c, 1, 4, 0xffffffff, 0, 0, 0, 0, 0, 0⟩,
   ⟨0xa0010, 1, 4, 0, 0xffffff, 0, 0, 0, 0, 0x6404b0⟩,
   ⟨0xa0014, 1, 4, 0, 0x7fffffff, 0, 0, 0, 0, 0x4078190⟩,
   ⟨0xa0018, 1, 4, 0, 0xfff, 0, 0, 0, 0, 0x20⟩,
   ⟨0xa0020, 2, 4, 0xffffffff, 0, 0, 0, 0, 0, 0⟩,
   ⟨0xa0028, 1, 4, 0x1fffff, 0, 0, 0, 0, 0, 0⟩,
   ⟨0xa002c, 1, 4, 0x1fffff, 0, 0, 0, 0, 0, 0⟩,
   ⟨0xa0030, 1, 4, 0x1fffff, 0, 0, 0, 0, 0, 0⟩,
   ⟨0xa0100, 65, 8, 0xfffffff, 0, 0, 0, 0, 0, 0⟩,
   ⟨0xa0104, 65, 8, 0xffffffff, 0, 0, 0, 0, 0, 0⟩]

/-- HK_CTRL, HK_PERIOD, HK_STAT, HK_REP, HK_LIMIT_STAT, HK_CHc, HK_ISEG_MEANs. -/
def regsHk : List RegRow :=
  [⟨0xb0000, 1, 4, 0, 0x1f, 0x20, 0, 0, 0, 0⟩,
   ⟨0xb0004, 1, 4, 0, 0x1ffff, 0, 0, 0, 0, 0x64⟩,
   ⟨0xb0008, 1, 4, 0x1fff3f, 0, 0, 0, 0, 0, 0⟩,
   ⟨0xb000c, 1, 4, 0xffffffff, 0, 0, 0, 0, 0, 0⟩,
   ⟨0xb0010, 1, 4, 0xffff, 0, 0, 0, 0, 0, 0⟩,
   ⟨0xb0100, 40, 4, 0x3fffffff, 0, 0, 0, 0, 0, 0⟩,
   ⟨0xb0200, 8, 4, 0xffffff, 0, 0, 0, 0, 0, 0⟩]

/-- PWR_STAT, PWR_VLED_SET, PWR_VCORE_SET, PWR_VLED_ARM0, PWR_VLED_ARM1, PWR_VCORE_ARM0, PWR_VCORE_ARM1, PWR_CTRL, PWR_GOV, PWR_ISN_CFG, PWR_RISE, PWR_TJ_LIMITS, PWR_TJ_MAX, PWR_DERATE_MIN, PWR_SENSOR_EXCL, PWR_HEADs. -/
def regsPwr0 : List RegRow :=
  [⟨0xc0000, 1, 4, 0x1ff, 0, 0, 0, 0, 0, 0⟩,
   ⟨0xc0004, 1, 4, 0x3ff, 0, 0, 0, 0, 0, 0⟩,
   ⟨0xc0008, 1, 4, 0x1ff, 0, 0, 0, 0, 0, 0⟩,
   ⟨0xc0010, 1, 4, 0, 0x103ff, 0, 0, 0, 0, 0x348⟩,
   ⟨0xc0014, 1, 4, 0, 0xfffffff, 0, 0, 0, 0, 0x32e6258⟩,
   ⟨0xc0018, 1, 4, 0, 0x101ff, 0, 0, 0, 0, 0x12c⟩,
   ⟨0xc001c, 1, 4, 0, 0x1ffffff, 0, 0, 0, 0, 0x66d104⟩,
   ⟨0xc0020, 1, 4, 0, 0, 0x7, 0, 0, 0, 0⟩,
   ⟨0xc0024, 1, 4, 0, 0, 0, 0, 0, 0x3fff, 0x36b0⟩,
   ⟨0xc0028, 1, 4, 0, 0xffff, 0, 0, 0, 0, 0x3232⟩,
   ⟨0xc002c, 1, 4, 0, 0xfff, 0, 0, 0, 0, 0x80⟩,
   ⟨0xc0030, 1, 4, 0, 0xffffff, 0, 0, 0, 0, 0xa00960⟩,
   ⟨0xc0034, 1, 4, 0xffff3fff, 0, 0, 0, 0, 0, 0⟩,
   ⟨0xc0038, 1, 4, 0x3fffff, 0, 0, 0, 0, 0, 0⟩,
   ⟨0xc003c, 1, 4, 0xffff, 0, 0, 0, 0, 0, 0⟩,
   ⟨0xc0040, 8, 4, 0x3f, 0, 0, 0, 0xffff0000, 0, 0⟩]

/-- PWR_VLED_CFG, PWR_VCORE_CFG. -/
def regsPwr1 : List RegRow :=
  [⟨0xc0060, 1, 4, 0x1fffffff, 0, 0, 0, 0, 0, 0⟩,
   ⟨0xc0064, 1, 4, 0x3ffffff, 0, 0, 0, 0, 0, 0⟩]

/-- SAFE_STAT, SAFE_DEG_CAUSE, SAFE_DEG_REMAIN, SAFE_POLICY0, SAFE_POLICY1, SAFE_DEG_LIMIT, SAFE_SEQ_A, SAFE_SEQ_B, SAFE_SEQ_HIGH, SAFE_MM_HASH_E, SAFE_MM_HASH_C, SAFE_MM_SEQ, SAFE_AUDIT_PIX, SAFE_AUDIT_WORD, SAFE_LBs, SAFE_LB_STAT. -/
def regsSafe0 : List RegRow :=
  [⟨0xd0000, 1, 4, 0xfff, 0, 0, 0, 0, 0, 0⟩,
   ⟨0xd0004, 1, 4, 0x7f, 0, 0, 0, 0, 0, 0⟩,
   ⟨0xd0008, 1, 4, 0xffffffff, 0, 0, 0, 0, 0, 0⟩,
   ⟨0xd0010, 1, 4, 0x10, 0xffffff0f, 0, 0, 0, 0, 0x10304⟩,
   ⟨0xd0014, 1, 4, 0, 0x3fffff, 0, 0, 0, 0, 0x8fa14⟩,
   ⟨0xd0018, 1, 4, 0, 0xffff, 0, 0, 0, 0, 0x1388⟩,
   ⟨0xd0020, 1, 4, 0xffffffff, 0, 0, 0, 0, 0, 0⟩,
   ⟨0xd0024, 1, 4, 0xffffffff, 0, 0, 0, 0, 0, 0⟩,
   ⟨0xd0028, 1, 4, 0xffffffff, 0, 0, 0, 0, 0, 0⟩,
   ⟨0xd0030, 1, 4, 0xffffffff, 0, 0, 0, 0, 0, 0⟩,
   ⟨0xd0034, 1, 4, 0xffffffff, 0, 0, 0, 0, 0, 0⟩,
   ⟨0xd0038, 1, 4, 0xffffffff, 0, 0, 0, 0, 0, 0⟩,
   ⟨0xd0040, 1, 4, 0x1fffff, 0, 0, 0, 0, 0, 0⟩,
   ⟨0xd0044, 1, 4, 0x1fffffff, 0, 0, 0, 0, 0, 0⟩,
   ⟨0xd0060, 8, 4, 0xffffffff, 0, 0, 0, 0, 0, 0⟩,
   ⟨0xd0080, 1, 4, 0xffff, 0, 0, 0, 0, 0, 0⟩]

/-- SAFE_CNT_VERIFIED, SAFE_CNT_REJECT, SAFE_CNT_FOREIGN, SAFE_CAPn, SAFE_CAPn_H. -/
def regsSafe1 : List RegRow :=
  [⟨0xd0090, 1, 4, 0, 0, 0, 0, 0xffffffff, 0, 0⟩,
   ⟨0xd0094, 1, 4, 0, 0, 0, 0, 0xffffffff, 0, 0⟩,
   ⟨0xd0098, 1, 4, 0, 0, 0, 0, 0xffffffff, 0, 0⟩,
   ⟨0xd00a0, 1, 8, 0, 0xffffffff, 0, 0, 0, 0, 0x2ff800⟩,
   ⟨0xd00a8, 3, 8, 0, 0xffffffff, 0, 0, 0, 0, 0⟩,
   ⟨0xd00a4, 1, 8, 0, 0xffffffff, 0, 0, 0, 0, 0x20017f⟩,
   ⟨0xd00ac, 3, 8, 0, 0xffffffff, 0, 0, 0, 0, 0⟩]

/-- CV_CFG, CV_SIG_SEL, CV_SIG, CV_SIG_STAT, CV_SCAN_STAT, CV_SCAN_START, CV_SCAN_LEN, CV_SCAN_RESULT, CV_FAIL_LINK, CV_FAIL_E2E. -/
def regsCv : List RegRow :=
  [⟨0xe0000, 1, 4, 0, 0xf, 0, 0, 0, 0, 0x7⟩,
   ⟨0xe0004, 1, 4, 0, 0xffff, 0, 0, 0, 0, 0⟩,
   ⟨0xe0008, 1, 4, 0xffffffff, 0, 0, 0, 0, 0, 0⟩,
   ⟨0xe000c, 1, 4, 0xffffff, 0, 0, 0, 0, 0, 0⟩,
   ⟨0xe0010, 1, 4, 0x3f, 0, 0, 0, 0, 0, 0⟩,
   ⟨0xe0014, 1, 4, 0xffffffff, 0, 0, 0, 0, 0, 0⟩,
   ⟨0xe0018, 1, 4, 0xffffffff, 0, 0, 0, 0, 0, 0⟩,
   ⟨0xe001c, 1, 4, 0xffffffff, 0, 0, 0, 0, 0, 0⟩,
   ⟨0xe0030, 1, 4, 0, 0, 0, 0, 0xffffffff, 0, 0⟩,
   ⟨0xe0034, 1, 4, 0, 0, 0, 0, 0xffffffff, 0, 0⟩]

/-- SEC_STAT, SEC_LOCKOUT_REM, SEC_LOCKOUT_CNT, SEC_AUTH_CFG, SEC_SVN, SEC_STAGE_END, SEC_FAIL_SRC. -/
def regsSec : List RegRow :=
  [⟨0xf0000, 1, 4, 0x3ff, 0, 0, 0, 0, 0, 0⟩,
   ⟨0xf0004, 1, 4, 0x3ff, 0, 0, 0, 0, 0, 0⟩,
   ⟨0xf0008, 1, 4, 0, 0, 0, 0, 0xffffffff, 0, 0⟩,
   ⟨0xf000c, 1, 4, 0, 0x1, 0, 0, 0, 0, 0⟩,
   ⟨0xf0010, 1, 4, 0xffffffff, 0, 0, 0, 0, 0, 0⟩,
   ⟨0xf0014, 1, 4, 0x1fffff, 0, 0, 0, 0, 0, 0⟩,
   ⟨0xf0018, 1, 4, 0xff, 0, 0, 0, 0, 0, 0⟩]

/-- The registers of a block window. -/
def regMap : Nat → List RegRow
  | 0 => regsSys
  | 1 => regsClap
  | 3 => regsLink
  | 4 => regsCan
  | 5 => regsTabor0 ++ regsTabor1
  | 6 => regsCarl0 ++ regsCarl1
  | 7 => regsStore
  | 8 => regsPix0 ++ regsPix1
  | 9 => regsMallet
  | 10 => regsSense
  | 11 => regsHk
  | 12 => regsPwr0 ++ regsPwr1
  | 13 => regsSafe0 ++ regsSafe1
  | 14 => regsCv
  | 15 => regsSec
  | _ => []

/-- A row covers an address. -/
def RegRow.covers (r : RegRow) (a : Nat) : Bool :=
  decide (r.base ≤ a) && decide (a < r.base + r.count * r.stride) && decide ((a - r.base) % r.stride = 0)

/-- The row of a register address; none where the address is undefined (R548). -/
def regRow (a : Nat) : Option RegRow := (regMap (a / 0x10000)).find? (fun r => r.covers a)

/-- The reset word of a register. -/
def regReset (a : Nat) : Word :=
  match regRow a with
  | some r => BitVec.ofNat 32 r.reset
  | none => 0

/-- Bits of a register word that hold something: the rest are reserved and read 0 (R21). -/
def RegRow.used (r : RegRow) : Nat := r.ro ||| r.rw ||| r.wo ||| r.w1c ||| r.rc ||| r.sh

end Sys2Proof.Machine
end

