-- ==== Sys2Proof/Config.lean ====
section
/-!
DEFINITION. What one module fixes, and the values the spec leaves open. Every constant here is opaque: it has no body,
so a statement about it holds whatever its value is.
-/
namespace Sys2Proof.Config

/-- Free values: the spec says that a value results and does not say which (log entry 11). The argument is the step's own counter. -/
opaque freeWord : Nat → BitVec 32
opaque freeByte : Nat → BitVec 8

/-- What the cold boot of an FW_ACTIVATE that arrived inside a packet finds (R542, log entry 11). -/
opaque bootObs : Nat → BootObs

/-- The Ledger entries whose read at the end of a warm restart meets an uncorrectable ECC error (R161, log entries 11 and 69). -/
opaque ledgerUe : Nat → List (BitVec 32)

/-- The module serial number, 8 bytes (R168, R582). -/
opaque serial : BitVec 64

/-- Silicon revision and firmware release (R168). -/
opaque siliconRev : BitVec 8
opaque fwRelease : BitVec 32

/-- svn and revoke_k0 of the image delivered in region A (R537, R540). -/
opaque deliveredSvn : BitVec 16
opaque deliveredRevoke : Bool
opaque deliveredKeyIndex : BitVec 1

/-- Byte of the firmware image delivered in region A (R44, R537). -/
opaque imageByte : Nat → BitVec 8

/-- Byte n of the factory key of a slot, its key_id, (R525): delivered in the module's key file. -/
opaque keyByte : Nat → Nat → BitVec 8
opaque keyId : Nat → BitVec 32

/-- ECDSA on P-256 (R538, R543): which key, the digest and the signature; true when it verifies. -/
opaque ecdsaOk : Nat → Bytes → Bytes → Bool

/-- Entry of the vendor Score of a firmware release (R287): fixed in the release and not listed. -/
opaque vendorScore : BitVec 32 → Nat → BitVec 16

/-- Factory layers written at manufacture (R461): pixel gain, column trim; the limp bitmap by canvas row, and its limp CRC (R64). -/
opaque factGain : Nat → BitVec 10
opaque factCol : Nat → BitVec 8
opaque limpRow : Nat → BitVec 1536
opaque limpCrc : BitVec 32

/-- Factory offset (1/16 LSB) and gain of a sense slice, and the measured BANDGAP and REFDAC values (R461, R472). -/
opaque sliceO : Nat → Int
opaque sliceG : Nat → Int
opaque factVb : Nat
opaque factVr : Nat

/-- Factory coefficients of a die sensor: offset and scale in 1/16 degree and 1/256 per code (R342). -/
opaque tempOffset : Nat → Int
opaque tempScale : Nat → Int

/-- Factory ratio of the HK gains 2, 4 and 8, in 1/32768 (R472). -/
opaque hkGainRatio : Nat → Nat

/-- Bytes of MRAM regions whose layout the spec does not give (configuration copies, key store order, Ledger ring). -/
opaque mramByte : Nat → Nat → BitVec 8

/-- Bytes of the Clapper context of a dump: registers, stack, fault address (R425). -/
opaque clapContext : Nat → Nat → BitVec 8

/-- Index of the instance that a CAL_RUN selects, by the counter of free values and the command's parameters (log entry 41). -/
opaque calIndex : Nat → Bytes → Nat

/-- State in which the scrambler of a lane starts (R93): not given, and without effect on what a descrambler delivers. -/
opaque scramblerSeed : Nat → BitVec 58

/-- The manufacturer field of the IDCODE (R581). -/
opaque jtagMaker : BitVec 11

end Sys2Proof.Config
end

