-- ==== Sys2Proof/Machine/Flags.lean ====
section
/-!
DEFINITION. The fault sources of the sixteen blocks: default severities and tallies, which lead to the bits of FLT_STAT
(R134, R182, R216, R253, R278, R315, R350, R352, R386, R399, R430, R431, R459, R506, R522, R546, R410), and the vendor
default HK sequence, whose limits give the severities of the HK sources (R348).
-/
namespace Sys2Proof.Machine

/-! Block IDs (R24, R551). -/
abbrev bSYS : Nat := 0
abbrev bCLAP : Nat := 1
abbrev bNVM : Nat := 2
abbrev bLINK : Nat := 3
abbrev bCAN : Nat := 4
abbrev bTABOR : Nat := 5
abbrev bCARL : Nat := 6
abbrev bSTORE : Nat := 7
abbrev bPIX : Nat := 8
abbrev bMALLET : Nat := 9
abbrev bSENSE : Nat := 10
abbrev bHK : Nat := 11
abbrev bPWR : Nat := 12
abbrev bSAFE : Nat := 13
abbrev bCV : Nat := 14
abbrev bSEC : Nat := 15

/-- One entry of an HK sequence as the number of its 8 bytes (R343): channel, gain, t_code, div, limit_en, limit_sev, low, high. -/
def hkEntry (ch gain t div en sev low high : Nat) : BitVec 64 :=
  BitVec.ofNat 64 (ch + gain * 2 ^ 6 + t * 2 ^ 8 + div * 2 ^ 16 + en * 2 ^ 19 + sev * 2 ^ 20 + low * 2 ^ 32 + high * 2 ^ 48)

/-- The vendor default sequence (R348). -/
def hkDefault : List (BitVec 64) :=
  [hkEntry 41 3 3 0 0 0 0 0,
   hkEntry 6 0 1 0 1 2 2550 4700,
   hkEntry 2 0 1 0 1 2 520 930,
   hkEntry 40 0 15 0 1 2 0xFD30 2240,
   hkEntry 41 3 3 0 0 0 0 0,
   hkEntry 7 0 1 0 0 0 0 0,
   hkEntry 34 0 1 0 0 0 0 0,
   hkEntry 35 0 1 0 0 0 0 0,
   hkEntry 3 0 3 3 0 0 0 0,
   hkEntry 4 0 3 3 0 0 0 0,
   hkEntry 5 0 3 3 0 0 0 0,
   hkEntry 36 0 3 3 0 0 0 0,
   hkEntry 0 0 31 6 0 0 0 0,
   hkEntry 1 0 31 6 0 0 0 0,
   hkEntry 32 0 63 7 0 0 0 0,
   hkEntry 33 0 63 7 0 0 0 0]

/-- The severities of LIMIT0 to LIMIT15 that a sequence gives (R348): INFO beyond its entries. -/
def hkSevs (seq : List (BitVec 64)) : List Nat :=
  (List.range 16).map (fun e => fld (seq.getD e 0) 20 2)

/-- Default severities of a block's sources, source 0 first: 0 INFO, 1 MINOR, 2 MAJOR, 3 CRITICAL. -/
def srcSevs : Nat → List Nat
  | 0 => [3, 2, 0]
  | 1 => [0, 1, 0, 1, 0, 0, 2, 2, 2]
  | 2 => [0, 2, 2, 2, 3, 2]
  | 3 => [1, 1, 0, 0, 1, 2, 2, 1, 0]
  | 4 => [0, 1, 2, 1, 1, 2]
  | 5 => [0, 1, 1, 0, 1, 0, 1, 1, 0, 0, 1]
  | 6 => [2, 2, 3, 1, 2, 1, 1, 1]
  | 7 => [0, 2, 2, 1, 1]
  | 8 => [0, 2, 2, 0, 1, 1, 1, 0, 1]
  | 9 => [1, 2, 2, 1, 2, 2, 0, 1, 2, 2, 3, 3, 3, 1, 0, 2]
  | 10 => [1, 1, 1, 1, 1, 0, 1, 1, 1, 2, 1, 2, 1]
  | 11 => hkSevs hkDefault ++ [2, 0]
  | 12 => [2, 3, 2, 3, 0, 1, 1, 1, 2, 2, 3]
  | 13 => [3, 3, 3, 0, 1, 0, 1, 2, 1, 2, 2, 3, 1, 2]
  | 14 => [0, 1]
  | 15 => [1, 2, 1, 1, 2, 0, 1]
  | _ => []

/-- Whether a block has a source. -/
def srcExists (blk src : Nat) : Bool := decide (src < (srcSevs blk).length)

/-- The default severity of a source; 0 where the source does not exist. -/
def srcSev (blk src : Nat) : Nat := (srcSevs blk).getD src 0

/-- The word of FLT_SEV0 (half 0) or FLT_SEV1 (half 1) that holds severities (R400). -/
def sevWord (sevs : List Nat) (half : Nat) : Word :=
  BitVec.ofNat 32 (((List.range 16).map (fun i => sevs.getD (16 * half + i) 0 * 4 ^ i)).foldl (· + ·) 0)

/-- Tally slots at reset: source, n, w_ms (R410). Unused slots have source 31. -/
def tallyDefaults : Nat → List (Nat × Nat × Nat)
  | 3 => [(0, 64, 1000), (1, 3, 10000)]
  | 7 => [(4, 3, 1000)]
  | 9 => [(0, 64, 100)]
  | 10 => [(6, 3, 1000), (7, 3, 10000)]
  | 13 => [(6, 3, 1000), (8, 3, 1000), (12, 3, 1000)]
  | _ => []

/-- The four slots of a block. -/
def tallySlots (blk : Nat) : List (Nat × Nat × Nat) :=
  (tallyDefaults blk ++ List.replicate 4 (31, 0, 0)).take 4

/-- A tally keeps one history for each unit: LANE_ERR per lane, SLICE_RESID per slice (R410). -/
def tallyPerUnit (blk src : Nat) : Bool := (blk == 3 && src == 0) || (blk == 10 && src == 7)

/-- Severity of the event that reaches a tally, where its source has the default severity (R410). -/
def tallySev (blk src : Nat) : Nat := if (blk == 3) || (blk == 10 && src == 7) then 1 else 2

end Sys2Proof.Machine
end

