-- ==== Sys2Proof/Machine/State.lean ====
section
/-!
DEFINITION. The state of the UZ1536, block by block (R24), as plain data, and State.reset. Register words that have no
state of their own stand in State.regs by address; an address not listed reads its reset value.
-/
namespace Sys2Proof.Machine

/-- No command of the UZ1536 stops the block with a fault: a violation is an event of the block (R177, R400). Nothing raises one. -/
inductive Fault where
  deriving DecidableEq, Repr

/-- Reasons for which a command has no meaning in the model. -/
inductive Refusal where
  /-- an arm of exec without a meaning; safe. No arm raises it. -/
  | notModelled (mnemonic : String)
  deriving DecidableEq, Repr

/-- The device states, in the order of their codes (R51). -/
inductive DevState where
  | off | standby | boot | ready | lit | still | degraded | gong | service
  deriving DecidableEq, Repr, Inhabited

/-- Condition of a power domain (R46). -/
inductive PdCond where
  | off | on | ret
  deriving DecidableEq, Repr, Inhabited

/-- SYS: state, pins, supplies, boot status, domains (R51 to R87, R482, R565, R581). -/
structure Sys where
  st : DevState
  prev : DevState
  gongCause : BitVec 4
  gongCapable : Bool
  profileL : Bool
  profSel : Bool
  testmode : Bool
  ordL1 : Bool
  vaon : Bool
  wake : Bool
  rstN : Bool
  limpN : Bool
  lphFltN : Bool
  vio : Bool
  vana : Bool
  ledStage : Bool
  coreStage : Bool
  /-- supplies were removed in a powered state and no reset has followed (R572) -/
  supplyLost : Bool
  /-- a rising edge of WAKE since the straps were sampled, while RST_N was low (R565) -/
  wakeEdge : Bool
  limpEarly : Bool
  bootPhase : BitVec 4
  fwImage : BitVec 2
  limpSrc : BitVec 2
  cfgCopy : Bool
  cfgFactory : Bool
  bistFail : Bool
  mirrorX : Bool
  mirrorY : Bool
  tGongcap : Word
  tReady : Word
  /-- what SYS_T_READY will report once READY is entered (R84) -/
  tReadyObs : Word
  /-- microseconds from the start of the cold boot to the start of Tabor 3 (R59, R80, R84) -/
  tTabor : Word
  /-- step 11 done; READY waits for step 10 (R60) -/
  readyWaits : Bool
  /-- first READY since the cold boot has been entered (R540) -/
  readySeen : Bool
  /-- the GONG in force was entered from BOOT (R372) -/
  gongFromBoot : Bool
  standbyEntry : Bool
  wakeLatched : Bool
  rstLast : BitVec 4
  rstLastCold : BitVec 4
  warmCount : BitVec 16
  /-- time-base periods since VAON was applied; SYS_KEEPER counts 32.768 kHz cycles (R87, log entry 2) -/
  keeper : Nat
  pd : List PdCond
  /-- condition each domain is commanded to (R483) -/
  pdWant : List PdCond
  tap : TapInstr
  /-- an accepted FW_ACTIVATE asks for its cold reset (R542) -/
  coldDue : Bool
  /-- units whose BIST at unfence is running (R220, R308, R340) -/
  bist : List BistUnit
  deriving DecidableEq, Repr

/-- One entry of a block's event queue (R402, R403). -/
structure FltEvent where
  src : Nat
  sev : Nat
  tick : Nat
  unit : Word
  value : Word
  first : Bool
  second : Bool
  coincident : Bool
  tally : Bool
  masked : Bool
  coalesced : Bool
  injected : Bool
  count : Nat
  state : DevState
  deriving DecidableEq, Repr

/-- What FLT_FIRST or FLT_SECOND holds of an event (R400). -/
structure FltHeld where
  src : Nat
  sev : Nat
  tally : Bool
  injected : Bool
  deriving DecidableEq, Repr

/-- One tally slot (R400, R409): its histories are ticks, newest first, by unit. -/
structure Tally where
  src : Nat
  n : Nat
  wMs : Nat
  hist : List (Nat × List Nat)
  reached : Nat
  deriving DecidableEq, Repr, Inhabited

/-- The fault registers of one block (R400). -/
structure FltBlock where
  stat : Word
  /-- sources set in stat of which an event was recorded at MAJOR above their own severity (R302, R315, R406) -/
  raised : Word
  mask : Word
  sev0 : Word
  sev1 : Word
  first : Option FltHeld
  second : Option FltHeld
  firstTs : Nat
  coincident : Bool
  deltaUs : Nat
  fltNSev : Nat
  logInfo : Bool
  queue : List FltEvent
  lost : Nat
  tallies : List Tally
  deriving DecidableEq, Repr

/-- A command packet after steps 1 and 2 of R150, and what its check needs: the covered bytes and the MAC. -/
structure CmdPkt where
  profL : Bool
  path : Path
  auth : Bool
  ackReq : Bool
  expert : Bool
  opcode : BitVec 16
  tag : BitVec 16
  seq : BitVec 32
  slot : BitVec 8
  params : Bytes
  covered : Bytes
  mac : Bytes
  /-- step 2 passed; else the offset of the field that failed -/
  bad : Option (BitVec 16)
  deriving DecidableEq, Repr

/-- What an accepted command that completes later waits for (R155, R156). -/
inductive LongKind where
  | lightOn | lightOff | stillEnter (boundaries : Nat) | stillExit | gongExit (toLit : Bool)
  | calLane (lane : Nat) | calSlice (slice : Nat) | calHk (left : Nat) | calBase | calGain | calXo
  | restore (mask : BitVec 8)
  | schedule (tabor : Nat) (target : Nat) (opcode : BitVec 16) (params : Bytes) (late : Bool)
  | scan
  deriving DecidableEq, Repr

/-- A command under execution: its packet, Ledger entry and the SCHEDULE_AT that embeds it (R173). -/
structure Ctx where
  pkt : CmdPkt
  ledger : Option Word
  replayed : Bool
  /-- embedded in a SCHEDULE_AT: Tabor 3 count at execution, and whether it is late -/
  outer : Option (BitVec 64 × Bool)
  deriving DecidableEq, Repr

structure LongCmd where
  ctx : Ctx
  kind : LongKind
  deriving DecidableEq, Repr

/-- One Ledger entry (R158 to R164). State: 0 journalled, 1 complete, 2 delivered. -/
structure LedgerEntry where
  lseq : Word
  pkt : CmdPkt
  state : Nat
  status : Nat
  detail : BitVec 16
  data : Bytes
  tAccept : BitVec 64
  epoch : BitVec 16
  restarts : Nat
  /-- RESET_WARM: the reply after the restart is the first delivery (R161) -/
  firstDue : Bool
  deriving DecidableEq, Repr

/-- What waits in the Clapper's queue (R154): a packet, or a SCHEDULE_AT whose target has been reached. -/
inductive QWhat where
  | pkt (p : CmdPkt)
  | due (lseq : Word)
  deriving DecidableEq, Repr

/-- One element of the queue: arrival time (Tabor 3 ns), rank of its path (R154), and what it is. -/
structure QItem where
  t : Nat
  rank : Nat
  what : QWhat
  /-- pool 0 credits that a packet from the link holds until the Clapper takes it (R122) -/
  units : Nat
  deriving DecidableEq, Repr

/-- One EVT record (R178). -/
structure EvtRec where
  blk : Nat
  sev : Nat
  code : Nat
  data : Bytes
  seq : BitVec 16
  epoch : BitVec 16
  time : BitVec 64
  /-- order of creation among replies and events (R113) -/
  born : Nat
  deriving DecidableEq, Repr

/-- A record waiting for the Clapper's pass: kinds other than FAULT (R421, R422). -/
structure LogItem where
  kind : Nat
  blk : Nat
  src : Nat
  sev : Nat
  tick : Nat
  state : DevState
  detail : Bytes
  /-- events a coalesced record stands for; 0 for a record of one event -/
  coal : Nat
  deriving DecidableEq, Repr

/-- The current second of the rate limit of one source and kind (R422). -/
structure RateWin where
  blk : Nat
  kind : Nat
  src : Nat
  start : Nat
  n : Nat
  surplus : Nat
  lastTick : Nat
  deriving DecidableEq, Repr

/-- CLAP: queue, long commands, Ledger, events, fault log (R154 to R181, R421). -/
structure Clap where
  queue : List QItem
  /-- a command that is not long and has passed step 11 only in part (R155, R169) -/
  held : Option LongCmd
  restarting : Bool
  cause : BitVec 4
  dumpDone : Option Nat
  long : List LongCmd
  /-- commands kept over a restart (R586) -/
  retained : List Ctx
  ledger : List LedgerEntry
  ledgerSeq : Word
  seqU : BitVec 32
  evtQ : List EvtRec
  evtSeq : BitVec 16
  evtLost : Bool
  evtDiscarded : Nat
  log : List Bytes
  logSeq : Word
  logPend : List LogItem
  rates : List RateWin
  pixLogged : Nat
  pixOver : Nat
  irqHeld : Bool
  deriving DecidableEq, Repr

/-- A table version: its generation and the entries that differ from the table's delivered contents. -/
structure TabVer where
  gen : Word
  ents : List (Nat × BitVec 64)
  deriving DecidableEq, Repr, Inhabited

/-- The light-path tables that are stored (R585), with the custom field of MALLET_SCORE_CTRL. -/
structure Tabs where
  floor : TabVer
  keepout : TabVer
  score : TabVer
  custom : Bool
  derate : TabVer
  coef : TabVer
  deriving DecidableEq, Repr, Inhabited

/-- Contents of a configuration copy (R44, R461, R462, R585). -/
structure CfgData where
  /-- configuration registers by address -/
  regs : List (Nat × Word)
  cuts : List (Nat × Word)
  limpCrc : Word
  hasLimpCrc : Bool
  /-- the limp CRC is the one written at manufacture, over the bitmap written then (log entry 4) -/
  limpBuilt : Bool
  bootCount : BitVec 16
  tabs : Tabs
  /-- newest number issued for FLOOR, KEEPOUT, SCORE, DERATE and SCALER_COEF (R588) -/
  issued : List Word
  /-- Ledger number of the newest accepted KEEPOUT_SET (R585) -/
  keepSeq : Option Word
  calGen : Word
  /-- generation numbers of the column-trim table and of the limp bitmap (R159) -/
  colGen : Word
  limpGen : Word
  colDelta : List (Nat × Int)
  /-- accepted changes of each segment's deltas, and the time and epoch of the last (R466, R480) -/
  colCount : List Nat
  colTime : List (BitVec 64 × BitVec 16)
  gainTime : BitVec 64 × BitVec 16
  gainQ0 : Nat
  /-- largest D and result codes need the aging terms: tile to D (R475) -/
  aging : List (Nat × Int)
  /-- tile to (V0, Tb) (R474) -/
  baseline : List (Nat × (Nat × Int))
  hasBaseline : Bool
  factoryOk : Bool
  deriving DecidableEq, Repr, Inhabited

structure CfgCopy where
  gen : Word
  bad : Bool
  data : CfgData
  deriving DecidableEq, Repr

/-- A dump slot (R425, R426): header bytes and sections; context index for the bytes the spec leaves open. -/
structure DumpSlot where
  state : Nat
  hdr : Bytes
  tabors : Bytes
  regs : List (Nat × Word)
  log : List Bytes
  ctxIdx : Nat
  ledger : Bytes
  deriving DecidableEq, Repr

/-- NVM: MRAM (R43, R44). Bytes of the images not written since delivery are the delivered ones. -/
structure Nvm where
  /-- bytes written into the image regions; an unlisted byte is the delivered one -/
  mem : List Host.Cell
  /-- regions A and B still hold what was delivered: A an intact image, B none -/
  delivered : Bool × Bool
  /-- regions that FW_STAGE has written since FW_ACTIVATE last named them: no boot fallback (R541, log entry 107) -/
  staged : BitVec 2
  /-- entries that differ from Config: factory gain, limp rows; user deltas that are not 0 -/
  gainF : List (Nat × BitVec 10)
  gainU : List (Nat × Int)
  floorRegion : List (Nat × BitVec 64)
  limp : List (Nat × BitVec 1536)
  cfgA : CfgCopy
  cfgB : CfgCopy
  /-- the configuration in force -/
  cur : CfgData
  dumps : List DumpSlot
  dumpSeq : Word
  deriving DecidableEq, Repr

/-- LINK states of LINK_STAT.ls_state (R137). -/
inductive LinkState where
  | down | detect | config | step | adapt | linkUp | active | recovery | refclkWait
  deriving DecidableEq, Repr, Inhabited

/-- One Envex lane (R96 to R108, R139). -/
structure Lane where
  locked : Bool
  polInv : Bool
  preset : BitVec 2
  frozen : Bool
  fenced : Bool
  training : Bool
  drops : BitVec 16
  eyeH : BitVec 12
  eyeW : BitVec 10
  freezes : BitVec 16
  frozenMs : BitVec 16
  dropped : Bool
  /-- own receiver meets the eye minimum, EQ_DONE received, both in ADAPT (R102, R130) -/
  ready : Bool
  partnerReady : Bool
  /-- the rejoin hold of R130 has passed -/
  holdOver : Bool
  acks : Nat
  advLanes : BitVec 4
  advGrade : BitVec 4
  advLocked : Bool
  lowMs : Nat
  goodWins : Nat
  frozenNs : Nat
  /-- token of the last TRAIN message received, which acknowledgements echo (R99) -/
  rxToken : BitVec 8
  /-- ages in blocks of the invalid sync headers of the last 1,024 blocks, newest first (R96) -/
  invHdrs : List Nat
  /-- LINK_QUAL_CFG as it acts on the window in progress (R107) -/
  qual : Word
  /-- CTLE and three DFE coefficients (R105) -/
  coef : List Word
  deriving DecidableEq, Repr, Inhabited

/-- A lane at reset. -/
def laneReset : Lane := { (default : Lane) with qual := 0x4D335A4D, coef := [0, 0, 0, 0] }

/-- What a waiting or sent packet stands for: the reply of a Ledger entry (R161), or that of a command which is not journalled and
has passed step 6 (R586). -/
inductive TxTag where
  | none | reply (lseq : Word) | again (p : CmdPkt)
  deriving DecidableEq, Repr

/-- A packet towards the host (R109, R110). -/
structure TxPkt where
  cls : BitVec 4
  seq : BitVec 16
  payload : Bytes
  tag : TxTag
  born : Nat
  deriving DecidableEq, Repr

/-- What the UZ1536 puts on the lands of the link, in order (R94, R95, R109): the same control block on each of some lanes, a
LINKCTL block or a packet in the stream that is striped over the active lanes. Machine/Wire.lean gives the blocks of each lane. -/
inductive TxOut where
  | ctrl (lanes : BitVec 4) (b : BitVec 64)
  | link (active : BitVec 4) (b : BitVec 64)
  | pkt (active : BitVec 4) (replay : Bool) (p : TxPkt)
  deriving DecidableEq, Repr

/-- Corrections of one lane (R479, R480): count, time of the last, and whether the last attempt was not applied. -/
structure CalMark where
  count : Nat
  last : BitVec 64 × BitVec 16
  failed : Bool
  deriving DecidableEq, Repr, Inhabited

/-- LINK (R88 to R140). -/
structure Link where
  ls : LinkState
  refclkOk : Bool
  /-- LINK_CFG as the bring-up in force took it (R135) -/
  cfg : Word
  grade : BitVec 3
  /-- highest grade of the attempt: lowered by a fallback (R102) -/
  cap : BitVec 4
  maxPartner : BitVec 4
  active : BitVec 4
  agreed : BitVec 4
  /-- lanes that come first when the active lanes of a new set are chosen (R132) -/
  prefer : BitVec 4
  /-- lanes over which the partner stripes its stream, as its last ALIGN or LANE_SWITCH says (R97) -/
  rxActive : BitVec 4
  width : BitVec 3
  attempts : BitVec 8
  lanes : List Lane
  token : BitVec 8
  txSeq : BitVec 16
  expSeq : BitVec 16
  /-- packets waiting for credits, oldest first -/
  outq : List TxPkt
  retry : List TxPkt
  stalls : Nat
  gapNak : Bool
  sinceAck : Nat
  /-- packets accepted that no ACK or NAK has reported (R121) -/
  rxUnacked : Nat
  hostLimit : List (BitVec 16)
  hostUsed : List (BitVec 16)
  hostSeen : List Bool
  ownLimit : List (BitVec 16)
  ownUsed : List (BitVec 16)
  /-- pool 0 credits held back until the Ledger replay has finished (R124) -/
  heldCredits : BitVec 16
  linkUpSent : Bool
  linkUpGot : Bool
  /-- own LANE_DROP not yet answered -/
  dropSent : Bool
  /-- lanes agreed for rejoin, switched at the next ALIGN (R130) -/
  rejoinSet : BitVec 4
  wasDown : Bool
  lostTx : Nat
  lostRx : Nat
  marker : BitVec 24
  /-- blocks sent on each lane since the last ALIGN, in 1/128 block (R97) -/
  blkPhase : Nat
  cal : List CalMark
  born : Nat
  tx : List TxOut
  deriving DecidableEq, Repr

/-- A packet queued on CAN FD: identifier offset and its remaining frames (R390, R394). -/
structure CanTx where
  off : Nat
  frames : List Bytes
  tag : TxTag
  tsy : Option (Fin 2)
  deriving DecidableEq, Repr

structure Reasm where
  id : Nat
  next : Nat
  last : Nat
  data : Bytes
  deriving DecidableEq, Repr

/-- CAN (R387 to R399). -/
structure Can where
  txErr : Nat
  rxErr : Nat
  busOff : Bool
  recovering : Bool
  stb : Bool
  txq : List CanTx
  /-- frames already sent, oldest first: identifier and data -/
  sent : List (Nat × Bytes)
  reasm : List Reasm
  /-- identifiers under which a discard has been recorded since the last index 0 -/
  broken : List Nat
  deriving DecidableEq, Repr

/-- An exchange of time messages under way (R444). -/
structure Exch where
  seqId : BitVec 16
  master : BitVec 16
  envex : Bool
  replayed : Bool
  t2 : Int
  t1 : Int
  t3 : Int
  stage : Nat
  /-- lane set in use and rate of change of the Tabor when the exchange began -/
  lanes : BitVec 4
  epoch : BitVec 16
  /-- asymmetry registers of the port when the exchange began: ingress, egress, path, in 1/16 ns (R441) -/
  ingress : Int
  egress : Int
  path : Int
  /-- key slots that its messages have used (R528) -/
  slots : List Nat
  broken : Bool
  deriving DecidableEq, Repr

/-- One Tabor (R432 to R457). The count carries 32 fractional bits. -/
structure Tabor where
  running : Bool
  count : Nat
  epoch : BitVec 16
  offs : List Int
  rate : Int
  f : Int
  p : Int
  state : BitVec 3
  clamped : Bool
  consistent : Nat
  last : Int
  master : BitVec 16
  port : BitVec 2
  holdSince : Option Nat
  exch : Option Exch
  /-- exchanges of the acquisition: (t1, t2, theta), oldest first -/
  hist : List (Int × Int × Int)
  candidate : BitVec 16
  /-- the last accepted seq_id of each master: (port, master_id, seq_id) (R444, R446) -/
  lastSeq : List (Nat × BitVec 16 × BitVec 16)
  conflictAt : Option Nat
  lastAccept : Option Nat
  deriving DecidableEq, Repr, Inhabited

/-- TABOR (R432 to R459, R473). -/
structure TaborBlk where
  t : List Tabor
  onCrystal : Bool
  ratioValid : Bool
  xtalPpb : Int
  xtalHist : List Int
  xtalCount : Nat
  xtalLast : BitVec 64 × BitVec 16
  camT1 : Int
  camT3 : Nat
  camE0 : Option Int
  camK : Nat
  camLastEdge : Option Int
  camAccepted : Nat
  /-- what is left of the phase shift of a MANUAL apply on Tabor 2, in 2^-32 ns (R439, R452) -/
  t2Shift : Int
  deriving DecidableEq, Repr

/-- A buffer index of the Layer Store (R183 to R186, R512). -/
structure Buf where
  live : Bool
  gen : BitVec 8
  start : Nat
  grans : Nat
  extent : Nat
  pendFree : Bool
  snoop : Nat
  next : Nat
  acc : Word
  deriving DecidableEq, Repr, Inhabited

inductive FenceSt where
  | free | armed | signalled | timedOut
  deriving DecidableEq, Repr, Inhabited

structure Fence where
  st : FenceSt
  timeout : Nat
  /-- count of Tabor 2 at which it was signalled (R207) -/
  since : Nat
  deriving DecidableEq, Repr, Inhabited

/-- A FREE fence. -/
def fenceFree : Fence := { st := .free, timeout := 0, since := 0 }

/-- An open shadow generation (R588): table ID, number, contents. -/
structure OpenGen where
  id : Nat
  ver : TabVer
  deriving DecidableEq, Repr

/-- A commit entry (R199 to R206). -/
structure QEntry where
  lseq : Word
  sh : List (Nat × Word)
  tabs : List OpenGen
  changed : BitVec 8
  /-- once latched: the layers still waiting and the boundaries since its latch -/
  latched : Bool
  waiting : BitVec 8
  age : Nat
  lateAny : Bool
  /-- count of Tabor 2 at which its completion record was written (R207) -/
  since : Nat
  deriving DecidableEq, Repr

/-- A frame record (R213). -/
structure FrameRec where
  index : Word
  lseq : Word
  enabled : BitVec 8
  waiting : BitVec 8
  late : BitVec 8
  union : Bool
  caps : Bool
  fcUsed : Bool
  wbActive : Bool
  seqA : Word
  seqB : Word
  floorGen : Word
  keepGen : Word
  calGen : Word
  derGen : Word
  derCrc : Word
  gov : BitVec 17
  compSig : Word
  driveSig : Word
  tShown : BitVec 64
  tEpoch : BitVec 16
  repeats : Nat
  layers : List (BitVec 16 × Bool × Word)
  deriving DecidableEq, Repr, Inhabited

/-- STORE (R183 to R216). SH words are keyed by register address. -/
structure Store where
  mem : List Host.Cell
  bufs : List Buf
  zeroing : List (Nat × Nat)
  banksOut : BitVec 4
  bankUe : BitVec 4
  fences : List Fence
  shadow : List (Nat × Word)
  openGens : List OpenGen
  timingIssued : Word
  queue : List QEntry
  committed : List (Nat × Word)
  commitSeq : Word
  /-- tables in force -/
  tabs : Tabs
  /-- a KEEPOUT_SET accepted since the last latch, with its Ledger number (R231) -/
  keepNext : Option (Word × TabVer)
  recs : List FrameRec
  shown : Option Word
  viol : Nat
  violAddr : Word
  violHandle : BitVec 16
  violSeq : BitVec 16
  deriving DecidableEq, Repr

/-- A frame under composition and processing, with its latched inputs (R26, R419). -/
structure Job where
  index : Word
  sh : List (Nat × Word)
  tabs : Tabs
  zonesA : List (BitVec 64)
  zonesB : List (BitVec 64)
  caps : List (BitVec 64)
  derate : List (Nat × Byte)
  derCrc : Word
  gov : BitVec 17
  gainBank : Bool
  fcOn : Bool
  wbWrite : Bool
  wbSkipped : Bool
  rewritten : Bool
  /-- compose lane busy with a band -/
  lanes : List (Option Nat)
  nextBand : Nat
  redo : List Nat
  /-- outputs by composed band, before the clamps, and the accumulator after the prefix -/
  outs : List (Nat × List (BitVec 16))
  sat : List (Nat × Nat)
  words : List (Nat × List (BitVec 12))
  clamped : List (Nat × List (BitVec 16))
  pixSat : List (Nat × Nat)
  readback : List (Nat × List (BitVec 12))
  passed : Bool
  failed : Bool
  /-- no OVERRUN is recorded for this frame (R28) -/
  quiet : Bool
  overran : Bool
  wbRow : Nat
  upstreamRow : Nat
  deriving DecidableEq, Repr

/-- CARL (R217 to R253). -/
structure Carl where
  inService : BitVec 4
  fenced : BitVec 4
  job : Option Job
  /-- the inputs of the frame on show, from which it is processed again where its bank reads wrong (R276) -/
  lastJob : Option Job
  frameIndex : Word
  composeUs : Nat
  marginUs : Nat
  margins : List Nat
  loadK : Nat
  outSig : Word
  satPix : Nat
  prefixLen : Nat
  dirtyCount : Nat
  fcVals : List (Nat × BitVec 24)
  fcClean : List (Nat × Bool)
  /-- prefix held by the cache: layer number and its record words, bottom first; keep-out contents -/
  fcPrefix : List (Nat × List Word)
  fcKeep : TabVer
  /-- scaler coefficients that the cached tiles were composed with (R39, log entry 99) -/
  fcCoef : TabVer
  wbStat : Word
  wbUp : Word
  /-- mode 2 has written its frame (R245) -/
  wbDone : Bool
  deriving DecidableEq, Repr

/-- PIX (R254 to R278). Bank rows: key (bank * 12 + plane) * 768 + row. -/
structure Pix where
  rows : List (Nat × BitVec 1536)
  active : Bool
  inactive : Nat
  bandsDone : Nat
  gainBank : Bool
  rebuild : Bool
  rebuilt : Bool
  gainF0 : List (Nat × BitVec 10)
  gainU0 : List (Nat × Int)
  gainGen : Word
  derGen : Word
  gov : BitVec 17
  govNext : BitVec 17
  assist : Nat
  driveSig : Word
  rbCrc : Word
  satPix : Nat
  demand : Nat
  segDemand : List Nat
  cutDemand : List Nat
  tileDemand : List (Nat × Nat)
  shownSegDemand : List Nat
  shownCutDemand : List Nat
  shownDerate : List (Nat × Byte)
  conflict : Option (Nat × Nat × Bool)
  floorDer : Option (Nat × Nat)
  sbBad : Bool
  /-- SH words of the frame on show -/
  shownSh : List (Nat × Word)
  /-- Damper zones A and B and high-beam caps of the frame on show (R31) -/
  shownDamper : List (List (BitVec 64))
  deriving DecidableEq, Repr

/-- What one Mallet has done in the beat (R297 to R303). -/
structure MalletSt where
  writes : Nat
  nextSlot : Nat
  inOrder : Bool
  lastParity : Option Nat
  deriving DecidableEq, Repr, Inhabited

/-- MALLET (R279 to R315). Latch rows: key physical row * 3 + (0 duty, 1 tier bit 0, 2 tier bit 1). Limp bits: by physical row. -/
structure Mal where
  beat : Nat
  fenced : BitVec 9
  bistOut : BitVec 9
  spareSeg : Option Nat
  scanning : Bool
  stopDue : Bool
  gongSegs : BitVec 8
  timerExpired : BitVec 8
  frozen : Bool
  latch : List (Nat × BitVec 1536)
  record : List (Nat × BitVec 1536)
  /-- rows whose plane-9 write was missed in this beat (R284) -/
  dark : List Nat
  mallets : List MalletSt
  struck : BitVec 8
  slot : Nat
  hits : List Nat
  rbPtr : List Nat
  rbConfirm : List (Nat × Nat)
  /-- segments in the Gong pattern until Mallet 8 has completed a clean beat (R305) -/
  repair : List (Nat × Bool)
  cutSw : List (Nat × Word)
  cutReq : List (Nat × Nat)
  limpBits : List (Nat × BitVec 1536)
  /-- user column deltas loaded into the trim DACs (R465) -/
  trim : List (Nat × Int)
  scale : List Nat
  scaleStill : List Bool
  /-- segments held at 128 until the first newly composed bank is swapped in (R295) -/
  held128 : BitVec 8
  takeover : Option (Nat × Nat × Nat × Nat)
  /-- segments with DL_MISS, Gong pattern or takeover in the frame (R377) -/
  skipLb : BitVec 8
  /-- no frame has been shown since LIGHT_ON or GONG_EXIT: nothing is recorded as late (R28) -/
  firstFrame : Bool
  /-- the next frame is the first after LIGHT_ON, GONG_EXIT or STILL (R377) -/
  lbFirst : Bool
  /-- STILL has been left in the frame in progress: the next frame is the first after its exit (R377) -/
  lbExit : Bool
  deriving DecidableEq, Repr

/-- Measurement kinds (R321). -/
inductive SenseKind where
  | skip | darkOn | own (tier : Fin 4) | off | pulse
  deriving DecidableEq, Repr, Inhabited

structure Slice where
  o : Int
  g : Int
  rms : Nat
  count : Nat
  tLast : BitVec 64 × BitVec 16
  /-- the last attempt was not applied (R479) -/
  failed : Bool
  deriving DecidableEq, Repr, Inhabited

/-- SENSE (R316 to R341, R349). Pixel keys are y * 1536 + x. -/
structure Sense where
  roll : Word
  rollMap : List (Nat × BitVec 3)
  cand : List (Nat × BitVec 3)
  normals : List (Nat × Nat)
  measured : List (Nat × Nat)
  measuredPrev : List (Nat × Nat)
  refs : List (Nat × BitVec 16)
  /-- tiles whose tier-2 reference was formed at the end of the last Roll (R474) -/
  fresh2 : List (Nat × Bool)
  samples : List (Nat × List Nat)
  rollUpd : List (Nat × Word)
  latchHit : List (Nat × Bool)
  latchCand : List (Nat × Bool)
  unmeas : Nat
  row : Nat
  paused : BitVec 8
  /-- segments that were scanned and out of their Gong pattern at slot 0 of the beat: those sensed in it (R317) -/
  sensed : BitVec 8
  /-- the threshold words that act in the beat: SENSE_THR0 and SENSE_THR1 as they stood at its start -/
  thr : Word × Word
  kinds : List (Nat × List SenseKind)
  comply : List (Nat × BitVec 1536)
  slices : List Slice
  fenced : BitVec 64
  lost : BitVec 64
  spareMode : Nat
  spareOn : Nat
  newCorr : Option (Nat × Int × Int)
  stim : List Nat
  /-- zones latched for the frame in progress (R323) -/
  zones : List (BitVec 64)
  /-- columns of each segment whose latches changed since before the strobe (R324) -/
  unsettled : List (Nat × BitVec 1536)
  deriving DecidableEq, Repr

/-- HK (R342 to R352, R472). -/
structure Hk where
  seq : List (BitVec 64)
  nextSeq : Option (List (BitVec 64))
  staging : List (BitVec 64)
  running : Bool
  rep : Nat
  ptrT : Nat
  ptrI : Nat
  bandgap : List Nat
  refdac : List Nat
  o : Int
  g : Int
  nextCorr : Option (Int × Int)
  updates : Nat
  tLast : BitVec 64 × BitVec 16
  rms : Nat
  refBad : Bool
  /-- the last attempt was not applied (R479) -/
  failed : Bool
  outN : List Nat
  inN : List Nat
  out : BitVec 16
  ch : List (Nat × Word)
  /-- beat mean of each segment in 1/16 mA taken in this beat; held means of the frame -/
  beatMean : List (Option Nat)
  held : List (List (Option Nat))
  iseg : List Word
  temps : List (List (Int × Bool × Nat))
  stim : List (Nat × Nat)
  deriving DecidableEq, Repr

/-- PWR (R482 to R506). Setpoints as register codes: VLED in 5 mV, VCORE in 2.5 mV; the pairs are those in force. -/
structure Pwr where
  owner : Nat
  phases : Nat
  fenced : Bool
  offUntilLit : Bool
  vledCode : Nat
  vcoreCode : Nat
  vledArm : Word × Word
  vledNext : Option (Word × Word)
  vcoreArm : Word × Word
  paceHold : Bool
  goodFrames : Nat
  derate : List (Nat × Byte)
  derGen : Word
  derSet : Bool
  kept : List (Word × List (Nat × Byte) × Word)
  excl : BitVec 16
  tempLost : Bool
  tjHighArmed : Bool
  tjCritArmed : Bool
  tjMax : Nat × Int
  tjs : List (Nat × Int)
  derMin : Nat × Nat
  heads : List Word
  headShortDone : Bool
  vledMaxDone : Bool
  vcoreMaxDone : Bool
  deriving DecidableEq, Repr

/-- A Damper set (R365). -/
structure DSet where
  seq : Word
  zones : List (BitVec 64)
  deriving DecidableEq, Repr, Inhabited

/-- A pending entry of the comparator (R363): the copy that opened it. -/
structure Pend where
  seq : Word
  envex : Bool
  kind : Nat
  body : Bytes
  slot : Nat
  opened : Nat
  deriving DecidableEq, Repr

/-- SAFE (R358 to R386). -/
structure Safe where
  setA : Option DSet
  setB : Option DSet
  /-- set A is the Envex copy of a disagreeing pair -/
  disagree : Bool
  beamAdb : Bool
  pend : List Pend
  causes : BitVec 7
  /-- one more than the highest number that has opened an entry; 0 while none has (R362) -/
  seqOpen : Nat
  seqHigh : Word
  dualDone : Bool
  tVerified : BitVec 64
  tEpoch : BitVec 16
  mmE : Word
  mmC : Word
  mmSeq : Word
  cleanSkew : Nat
  cleanMis : Nat
  lbClean : List Nat
  refreshArmed : Bool
  refreshAt : Nat
  degAt : Option Nat
  degUsed : Nat
  degLeft : Option Nat
  auditPix : Word
  auditWord : Word
  lb : List Word
  lbFailed : BitVec 8
  lbSkipped : BitVec 8
  /-- measured less predicted current, and predicted current, of the last 256 checked frames (R466) -/
  lbResid : List (List (Int × Nat))
  /-- the frame that has ended and awaits its check, by segment: demand, cut demand, assist, skipped (R376, R377) -/
  lbFrame : List (Nat × Nat × Nat × Bool)
  auditBad : Bool
  deriving DecidableEq, Repr

/-- A CV5 scan under way (R515 to R518). -/
structure Scan where
  space : Nat
  start : Nat
  len : Nat
  poly : Nat
  buf : Nat
  disturbed : Bool
  /-- SCAN_DISTURBED has been recorded -/
  told : Bool
  deriving DecidableEq, Repr

/-- Result counters of one check-value unit (R520). -/
structure CvUnit where
  a : Nat
  b : Nat
  c : Word
  d : Word
  t : BitVec 64
  epoch : BitVec 16
  deriving DecidableEq, Repr, Inhabited

/-- CV (R507 to R522). -/
structure Cv where
  units : List CvUnit
  scan : Option Scan
  last : Scan
  lastAborted : Bool
  lastResult : Word
  /-- a handle has been written to CV_SIG_SEL since the cold reset (R514) -/
  sigChosen : Bool
  deriving DecidableEq, Repr

inductive SlotState where
  | empty | active | retired
  deriving DecidableEq, Repr, Inhabited

structure KeySlot where
  st : SlotState
  key : Bytes
  rights : BitVec 16
  keyId : Word
  last : BitVec 32
  deriving DecidableEq, Repr, Inhabited

/-- SEC (R523 to R546). -/
structure Sec where
  slots : List KeySlot
  fails : List Nat
  lockAt : Option Nat
  stage : Nat
  stageEnd : Nat
  arGen : Word
  active : Bool
  minSvn : BitVec 16
  revoked : Bool
  deriving DecidableEq, Repr

/-- Service SPI port (R578 to R580): waiting replies and what they stand for. -/
structure Spi where
  replies : List (Bytes × TxTag)
  frameErr : Bool
  lastLen : Nat
  lastStatus : Byte
  lastOut : Bytes
  deriving DecidableEq, Repr

/-- The whole state of the UZ1536, the queue of waiting commands, and the model's own counter of free values. -/
structure State where
  sys : Sys
  flt : List FltBlock
  clap : Clap
  nvm : Nvm
  link : Link
  can : Can
  tab : TaborBlk
  store : Store
  carl : Carl
  pix : Pix
  mal : Mal
  sense : Sense
  hk : Hk
  pwr : Pwr
  safe : Safe
  cv : Cv
  sec : Sec
  spi : Spi
  regs : List (Nat × Word)
  /-- high words latched by reads of low words, by address (R19) -/
  latches : List (Nat × Word)
  /-- stimuli armed by FLT_INJECT (R429): block, source, parameter -/
  stims : List (Nat × Nat × Nat)
  /-- the MODEL's own counter of free values (log entry 11) -/
  freeIdx : Nat
  pending : List Instr
  deriving DecidableEq, Repr

/-! Updates of one field of State. -/

def State.onSys (s : State) (f : Sys → Sys) : State := { s with sys := f s.sys }
def State.onFlt (s : State) (f : List FltBlock → List FltBlock) : State := { s with flt := f s.flt }
def State.onClap (s : State) (f : Clap → Clap) : State := { s with clap := f s.clap }
def State.onNvm (s : State) (f : Nvm → Nvm) : State := { s with nvm := f s.nvm }
def State.onLink (s : State) (f : Link → Link) : State := { s with link := f s.link }
def State.onCan (s : State) (f : Can → Can) : State := { s with can := f s.can }
def State.onTab (s : State) (f : TaborBlk → TaborBlk) : State := { s with tab := f s.tab }
def State.onStore (s : State) (f : Store → Store) : State := { s with store := f s.store }
def State.onCarl (s : State) (f : Carl → Carl) : State := { s with carl := f s.carl }
def State.onPix (s : State) (f : Pix → Pix) : State := { s with pix := f s.pix }
def State.onMal (s : State) (f : Mal → Mal) : State := { s with mal := f s.mal }
def State.onSense (s : State) (f : Sense → Sense) : State := { s with sense := f s.sense }
def State.onHk (s : State) (f : Hk → Hk) : State := { s with hk := f s.hk }
def State.onPwr (s : State) (f : Pwr → Pwr) : State := { s with pwr := f s.pwr }
def State.onSafe (s : State) (f : Safe → Safe) : State := { s with safe := f s.safe }
def State.onCv (s : State) (f : Cv → Cv) : State := { s with cv := f s.cv }
def State.onSec (s : State) (f : Sec → Sec) : State := { s with sec := f s.sec }
def State.onSpi (s : State) (f : Spi → Spi) : State := { s with spi := f s.spi }
def State.onRegs (s : State) (f : List (Nat × Word) → List (Nat × Word)) : State := { s with regs := f s.regs }
def State.onLatches (s : State) (f : List (Nat × Word) → List (Nat × Word)) : State := { s with latches := f s.latches }
def State.onStims (s : State) (f : List (Nat × Nat × Nat) → List (Nat × Nat × Nat)) : State := { s with stims := f s.stims }
def State.onFreeIdx (s : State) (f : Nat → Nat) : State := { s with freeIdx := f s.freeIdx }
def State.onPending (s : State) (f : List Instr → List Instr) : State := { s with pending := f s.pending }

/-! State.reset: the module held in a cold reset by RST_N, WAKE high (R78, R81; log entry 1). -/

/-- The fault registers of a block at reset (R400, R410). -/
def fltReset (b : Nat) : FltBlock :=
  { stat := 0, raised := 0, mask := 0, sev0 := sevWord (srcSevs b) 0, sev1 := sevWord (srcSevs b) 1, first := none, second := none,
    firstTs := 0, coincident := false, deltaUs := 0, fltNSev := 2, logInfo := true, queue := [], lost := 0,
    tallies := (tallySlots b).map (fun t => { src := t.1, n := t.2.1, wMs := t.2.2, hist := [], reached := 0 }) }

def sysReset : Sys :=
  { st := .boot, prev := .standby, gongCause := 0, gongCapable := false, profileL := false, profSel := false,
    testmode := false, ordL1 := false, vaon := true, wake := true, rstN := false, limpN := true, lphFltN := true,
    vio := true, vana := true, ledStage := true, coreStage := true, supplyLost := false, wakeEdge := false,
    limpEarly := false, bootPhase := 0, fwImage := 3, limpSrc := 3, cfgCopy := false, cfgFactory := false,
    bistFail := false, mirrorX := false, mirrorY := false, tGongcap := 0xFFFFFFFF, tReady := 0xFFFFFFFF,
    tReadyObs := 0, tTabor := 0,
    readyWaits := false, readySeen := false, gongFromBoot := false, standbyEntry := false, wakeLatched := false,
    rstLast := 0, rstLastCold := 0, warmCount := 0, keeper := 0, pd := .on :: List.replicate 11 .off,
    pdWant := .on :: List.replicate 11 .off,
    tap := .reset, coldDue := false, bist := [] }

/-- The stored tables as delivered (R585). -/
def tabsDelivered : Tabs :=
  { floor := ⟨0, []⟩, keepout := ⟨0, []⟩, score := ⟨0, []⟩, custom := false, derate := ⟨0, []⟩, coef := ⟨0, []⟩ }

/-- A configuration copy's contents as delivered (log entry 4). -/
def cfgDelivered : CfgData :=
  { regs := [], cuts := [], limpCrc := Config.limpCrc, hasLimpCrc := true, limpBuilt := true, bootCount := 0, tabs := tabsDelivered,
    issued := [0, 0, 0, 0, 0], keepSeq := none, calGen := 0, colGen := 0, limpGen := 0, colDelta := [], colCount := List.replicate 8 0,
    colTime := List.replicate 8 (0, 0), gainTime := (0, 0), gainQ0 := 0, aging := [], baseline := [],
    hasBaseline := false, factoryOk := true }

def dumpFree : DumpSlot := { state := 0, hdr := [], tabors := [], regs := [], log := [], ctxIdx := 0, ledger := [] }

/-- MRAM as delivered (log entries 4, 5, 6). -/
def nvmDelivered : Nvm :=
  { mem := [], delivered := (true, true), staged := 0, gainF := [], gainU := [], floorRegion := [], limp := [],
    cfgA := ⟨0, false, cfgDelivered⟩, cfgB := ⟨0, false, cfgDelivered⟩, cur := cfgDelivered,
    dumps := [dumpFree, dumpFree], dumpSeq := 0 }

def clapReset : Clap :=
  { queue := [], held := none, restarting := false, cause := 0, dumpDone := none, long := [], retained := [],
    ledger := [], ledgerSeq := 0xFFFFFFFF, seqU := 0, evtQ := [], evtSeq := 0, evtLost := false, evtDiscarded := 0,
    log := [], logSeq := 0, logPend := [], rates := [], pixLogged := 0, pixOver := 0, irqHeld := false }

def linkReset : Link :=
  { ls := .down, refclkOk := false, cfg := 0, grade := 0, cap := 0, maxPartner := 0, active := 0, agreed := 0, prefer := 0,
    rxActive := 0, width := 0, attempts := 0, lanes := List.replicate 4 laneReset, token := 0, txSeq := 0, expSeq := 0, outq := [], retry := [], stalls := 0,
    gapNak := false, sinceAck := 0, rxUnacked := 0, hostLimit := [0, 0, 0], hostUsed := [0, 0, 0],
    hostSeen := [false, false, false], ownLimit := [128, 64, 320], ownUsed := [0, 0, 0], heldCredits := 0,
    linkUpSent := false, linkUpGot := false, dropSent := false, rejoinSet := 0, wasDown := false, lostTx := 0,
    lostRx := 0, marker := 0, blkPhase := 0, cal := List.replicate 4 default, born := 0, tx := [] }

def canReset : Can :=
  { txErr := 0, rxErr := 0, busOff := false, recovering := false, stb := true,
    txq := [], sent := [], reasm := [], broken := [] }

/-- A Tabor at reset; Tabor 3 runs free (R457). -/
def taborReset (n : Nat) : Tabor :=
  { running := n == 3, count := 0, epoch := 0, offs := [0], rate := 0, f := 0, p := 0, state := if n = 3 then 4 else 0,
    clamped := false, consistent := 0, last := 0, master := 0, port := 0, holdSince := none, exch := none, hist := [],
    candidate := 0, lastSeq := [], conflictAt := none, lastAccept := none }

def taborBlkReset : TaborBlk :=
  { t := (List.range 4).map taborReset, onCrystal := true, ratioValid := false, xtalPpb := 0, xtalHist := [],
    xtalCount := 0, xtalLast := (0, 0), camT1 := 0, camT3 := 0, camE0 := none, camK := 0, camLastEdge := none,
    camAccepted := 0, t2Shift := 0 }

/-- No buffer is live; every index has generation 1 (R185). -/
def bufReset : Buf :=
  { live := false, gen := 1, start := 0, grans := 0, extent := 0, pendFree := false, snoop := 0, next := 0, acc := 0 }

def storeReset (tabs : Tabs) : Store :=
  { mem := [], bufs := List.replicate 256 bufReset, zeroing := [], banksOut := 0, bankUe := 0,
    fences := List.replicate 64 fenceFree, shadow := [], openGens := [], timingIssued := 0, queue := [],
    committed := [], commitSeq := 0, tabs := tabs, keepNext := none, recs := [], shown := none, viol := 0,
    violAddr := 0, violHandle := 0, violSeq := 0 }

def carlReset : Carl :=
  { inService := 0xF, fenced := 0, job := none, lastJob := none, frameIndex := 0, composeUs := 0, marginUs := 0, margins := [],
    loadK := 0, outSig := 0, satPix := 0, prefixLen := 0, dirtyCount := 9216, fcVals := [], fcClean := [],
    fcPrefix := [], fcKeep := ⟨0, []⟩, fcCoef := ⟨0, []⟩, wbStat := 0xFFFFFFFF, wbUp := 0xFFFFFFFF, wbDone := false }

def pixReset : Pix :=
  { rows := [], active := false, inactive := 0, bandsDone := 0, gainBank := false, rebuild := false, rebuilt := false,
    gainF0 := [], gainU0 := [], gainGen := 0, derGen := 0, gov := 65536, govNext := 65536, assist := 256,
    driveSig := 0, rbCrc := 0, satPix := 0, demand := 0, segDemand := List.replicate 8 0,
    cutDemand := List.replicate 8 0, tileDemand := [], shownSegDemand := List.replicate 8 0,
    shownCutDemand := List.replicate 8 0, shownDerate := [], conflict := none, floorDer := none, sbBad := false,
    shownSh := [], shownDamper := [] }

def malReset : Mal :=
  { beat := 0, fenced := 0, bistOut := 0, spareSeg := none, scanning := false, stopDue := false,
    gongSegs := 0, timerExpired := 0, frozen := false, latch := [], record := [], dark := [],
    mallets := List.replicate 9 default, struck := 0, slot := 0, hits := [], rbPtr := List.replicate 8 0, rbConfirm := [],
    repair := [], cutSw := [], cutReq := [], limpBits := [], trim := [], scale := List.replicate 8 256,
    scaleStill := List.replicate 8 false, held128 := 0, takeover := none, skipLb := 0, firstFrame := false, lbFirst := false, lbExit := false }

/-- A slice at reset: o = 0 and g = 0x8000 (R349). -/
def sliceReset : Slice := { o := 0, g := 0x8000, rms := 0, count := 0, tLast := (0, 0), failed := false }

def senseReset : Sense :=
  { roll := 0, rollMap := [], cand := [], normals := [], measured := [], measuredPrev := [], refs := [],
    fresh2 := [], samples := [], rollUpd := [], latchHit := [], latchCand := [], unmeas := 0, row := 0,
    paused := 0, sensed := 0, thr := (0x006404B0, 0x04078190), kinds := [], comply := [], slices := List.replicate 65 sliceReset, fenced := 0, lost := 0,
    spareMode := 0, spareOn := 0x7F, newCorr := none, stim := [], zones := [], unsettled := [] }

def hkReset : Hk :=
  { seq := hkDefault, nextSeq := none, staging := List.replicate 16 0, running := false, rep := 0, ptrT := 0, ptrI := 0,
    bandgap := [], refdac := [], o := 0, g := 32768, nextCorr := none, updates := 0, tLast := (0, 0), rms := 0,
    refBad := false, failed := false, outN := List.replicate 16 0, inN := List.replicate 16 0, out := 0, ch := [],
    beatMean := List.replicate 8 none, held := List.replicate 8 [], iseg := List.replicate 8 0,
    temps := List.replicate 16 [], stim := [] }

def pwrReset : Pwr :=
  { owner := 0, phases := 0, fenced := false, offUntilLit := false, vledCode := 0, vcoreCode := 300,
    vledArm := (0x348, 0x32E6258), vledNext := none, vcoreArm := (0x12C, 0x66D104), paceHold := false, goodFrames := 0,
    derate := [], derGen := 0, derSet := false, kept := [], excl := 0, tempLost := false, tjHighArmed := true,
    tjCritArmed := true, tjMax := (0, 0), tjs := [], derMin := (0, 255),
    heads := List.replicate 8 0x20, headShortDone := false, vledMaxDone := false, vcoreMaxDone := false }

def safeReset : Safe :=
  { setA := none, setB := none, disagree := false, beamAdb := false, pend := [], causes := 0, seqOpen := 0, seqHigh := 0,
    dualDone := false, tVerified := 0, tEpoch := 0, mmE := 0, mmC := 0, mmSeq := 0, cleanSkew := 0, cleanMis := 0,
    lbClean := List.replicate 8 0, refreshArmed := false, refreshAt := 0, degAt := none, degUsed := 0,
    degLeft := none, auditPix := 0, auditWord := 0, lb := List.replicate 8 0, lbFailed := 0,
    lbSkipped := 0, lbResid := List.replicate 8 [], lbFrame := [], auditBad := false }

def cvReset : Cv :=
  { units := List.replicate 6 default, scan := none, last := ⟨0, 0, 0, 0, 0, false, false⟩, lastAborted := false,
    lastResult := 0, sigChosen := false }

/-- The 16 key bytes of a factory key (R525, log entry 10). -/
def factoryKey (n : Nat) : Bytes := (List.range 16).map (Config.keyByte n)

/-- Rights bits (R524): CMD 0, SMSG 1, TSY 2, KEY 3, FW 4, FACTORY 5, LOCK 6, SERVICE 7. -/
def slotA (n : Nat) : KeySlot :=
  match n with
  | 0 => { st := .active, key := factoryKey 0, rights := 0xF8, keyId := Config.keyId 0, last := 0 }
  | 1 => { st := .active, key := factoryKey 1, rights := 0x07, keyId := Config.keyId 1, last := 0 }
  | _ => { st := .empty, key := [], rights := 0, keyId := 0, last := 0 }

/-- The L key set of R525. -/
def slotL (n : Nat) : KeySlot :=
  match n with
  | 0 => slotA 0
  | 1 => { slotA 1 with rights := 0x01 }
  | 2 => { st := .active, key := factoryKey 2, rights := 0x02, keyId := Config.keyId 2, last := 0 }
  | 3 => { st := .active, key := factoryKey 3, rights := 0x04, keyId := Config.keyId 3, last := 0 }
  | _ => slotA n

/-- The key store of a module delivered under ordering code L1 (else A1). -/
def secDelivered (ordL1 : Bool) : Sec :=
  { slots := (List.range 16).map (if ordL1 then slotL else slotA), fails := [], lockAt := none, stage := 0, stageEnd := 0, arGen := 0,
    active := false, minSvn := Config.deliveredSvn, revoked := Config.deliveredRevoke }

def spiReset : Spi := { replies := [], frameErr := false, lastLen := 0, lastStatus := 0, lastOut := [] }

/-- The machine right after a cold reset with a delivered UZ1536-A1, RST_N still low (R78, R81, log entry 1). -/
def State.reset : State :=
  { sys := sysReset, flt := (List.range 16).map fltReset, clap := clapReset, nvm := nvmDelivered, link := linkReset,
    can := canReset, tab := taborBlkReset, store := storeReset tabsDelivered, carl := carlReset, pix := pixReset,
    mal := malReset, sense := senseReset, hk := hkReset, pwr := pwrReset, safe := safeReset, cv := cvReset,
    sec := secDelivered false, spi := spiReset, regs := [], latches := [], stims := [], freeIdx := 0, pending := [] }

/-- The same with a delivered UZ1536-L1, which differs as R5 gives: the pull of PROF_SEL, so the Profile, and the key set. -/
def State.resetL1 : State :=
  { State.reset with sys := { sysReset with ordL1 := true, profSel := true, profileL := true }, sec := secDelivered true }

end Sys2Proof.Machine
end

