-- ==== Sys2Proof/Machine/Ops.lean ====
section
/-!
DEFINITION. The named operations over State that the commands share: time, register words, what goes out on the paths,
replies, events, the Ledger, the recording of faults, and the change of device state with the entry into GONG.
-/
namespace Sys2Proof.Machine

/-! Time (R80, R401). -/

/-- Count of a Tabor in ns, without its fraction. -/
def Tabor.ns (t : Tabor) : Nat := t.count / 2 ^ 32 % 2 ^ 64

def State.tabor (s : State) (n : Nat) : Tabor := s.tab.t.getD n default

/-- Tabor 3 in ns, which times faults, commands and limits (R80). -/
def State.now (s : State) : Nat := (s.tabor 3).ns

def State.epoch (s : State) : BitVec 16 := (s.tabor 3).epoch

/-- Capture tick of an event detected now: the first multiple of 8 ns after it (R401). -/
def State.tick (s : State) : Nat := (s.now / 8 + 1) * 8

/-- Tabor 3 count and epoch, as records hold them. -/
def State.stamp (s : State) : BitVec 64 × BitVec 16 := (BitVec.ofNat 64 s.now, s.epoch)

/-! Device states (R51, R166). -/

def DevState.code : DevState → Nat
  | .off => 0
  | .standby => 1
  | .boot => 2
  | .ready => 3
  | .lit => 4
  | .still => 5
  | .degraded => 6
  | .gong => 7
  | .service => 8

/-- State set Any. -/
def DevState.any : DevState → Bool
  | .off => false
  | .standby => false
  | _ => true

/-- State set Run. -/
def DevState.run : DevState → Bool
  | .off => false
  | .standby => false
  | .boot => false
  | _ => true

/-- State set Lit. -/
def DevState.lights : DevState → Bool
  | .lit => true
  | .still => true
  | .degraded => true
  | _ => false

/-- Composed frames or a frozen bank on show: Lit, or SERVICE while lit (R51). -/
def State.isLit (s : State) : Bool := s.sys.st.lights || (decide (s.sys.st = .service) && s.mal.scanning)

/-- States in which the module is powered. -/
def State.powered (s : State) : Bool := s.sys.st.any

/-- VIO is present: without it no control land is driven or read (R572, log entry 108). -/
def State.lands (s : State) : Bool := s.sys.vio

/-! Register words and power domains (R19, R46, R551). -/

/-- The stored word of a register; its reset value where nothing is listed. -/
def State.reg (s : State) (a : Nat) : Word := spGet (regReset a) s.regs a

def State.setReg (s : State) (a : Nat) (v : Word) : State := s.onRegs (fun m => spSet (regReset a) m a v)

/-- A field of a stored register word. -/
def State.rfld (s : State) (a lo n : Nat) : Nat := fld (s.reg a) lo n

/-- A word with a field replaced. -/
def putBits (w : Word) (lo n v : Nat) : Word :=
  BitVec.ofNat 32 (w.toNat - bitsN w.toNat lo n * 2 ^ lo + v % 2 ^ n * 2 ^ lo)

def State.setFld (s : State) (a lo n v : Nat) : State := s.setReg a (putBits (s.reg a) lo n v)

/-- A saturating count in a field of a register. -/
def State.bump (s : State) (a lo n k : Nat) : State := s.setFld a lo n (Nat.min (2 ^ n - 1) (s.rfld a lo n + k))

/-- Word of an SH register as committed (in force). -/
def State.inForce (s : State) (a : Nat) : Word := spGet (regReset a) s.store.committed a

def State.pdIs (s : State) (d : Nat) (c : PdCond) : Bool := decide (s.sys.pd.getD d .off = c)

/-- The domain of a block (R551). -/
def pdOf : Nat → Nat
  | 0 => 0
  | 1 => 1
  | 2 => 2
  | 3 => 3
  | 4 => 4
  | 5 => 5
  | 6 => 6
  | 7 => 7
  | 8 => 8
  | 9 => 9
  | 10 => 10
  | 11 => 10
  | 12 => 11
  | 13 => 8
  | 14 => 1
  | _ => 1

def State.blockOn (s : State) (blk : Nat) : Bool := s.pdIs (pdOf blk) .on

/-! Configuration registers that other operations read. -/

def State.canEnabled (s : State) : Bool := s.rfld 0x40000 0 1 == 1
/-- Start-up has passed step 9, which applies the configuration (R59). -/
def State.fwRuns (s : State) : Bool := decide (9 ≤ s.sys.bootPhase.toNat) && decide (s.sys.bootPhase.toNat ≤ 12)
def State.evtMinSev (s : State) : Nat := s.rfld 0x10018 0 2
/-- 0 left, 1 right (R382). -/
def State.side (s : State) : Nat := s.rfld 0xD0010 3 1
def State.locked (s : State) : Bool := s.rfld 0xD0010 4 1 == 1
def State.mirrorX (s : State) : Bool := s.sys.mirrorX

/-- Word of a free value, and the counter advanced (log entry 11). -/
def State.freeWord (s : State) : Word := Config.freeWord s.freeIdx
def State.freeNext (s : State) : State := s.onFreeIdx (· + 1)

/-! Sending (R109 to R124, R142, R389 to R394, R580). -/

/-- SYS_STATE.link_up: trained; RECOVERY keeps it until it fails (R82, R121). -/
def State.linkUp (s : State) : Bool := decide (s.link.ls = .active) || decide (s.link.ls = .recovery)

/-- Credit pool of a class (R110). -/
def poolOf (cls : Nat) : Nat :=
  match cls with
  | 1 => 0
  | 2 => 0
  | 8 => 0
  | 5 => 1
  | 6 => 1
  | _ => 2

/-- Credits of a packet of payload length n (R122). -/
def creditsOf (n : Nat) : Nat := (n + 12 + 63) / 64

/-- Length on the link of a packet of payload length n (R109). -/
def pktLen (n : Nat) : Nat := 8 + 8 * ((n + 4 + 7) / 8)

/-- The host's credits for the pool cover the packet (R124). -/
def State.hasCredit (s : State) (pool units : Nat) : Bool :=
  decide (units ≤ (s.link.hostLimit.getD pool 0 - s.link.hostUsed.getD pool 0).toNat)

/-- The 32 KiB retry buffer has room (R118). -/
def State.retryRoom (s : State) (n : Nat) : Bool :=
  decide (pktLen n + sumL (s.link.retry.map (fun p => pktLen p.payload.length)) ≤ 32768)

/-- The link is ACTIVE and the host's credits cover a packet (R124). -/
def State.creditsFor (s : State) (p : TxPkt) : Bool :=
  decide (s.link.ls = .active) && s.hasCredit (poolOf p.cls.toNat) (creditsOf p.payload.length)

def State.canSendLink (s : State) (p : TxPkt) : Bool := s.creditsFor p && s.retryRoom p.payload.length

/-- The last event of a check-value unit (R520). -/
def cvEvent (u : Nat) (f : CvUnit → CvUnit) (s : State) : State :=
  s.onCv (fun c => { c with units := modAt c.units u (fun x => { f x with t := BitVec.ofNat 64 s.now, epoch := s.epoch }) })

def max32 : Nat := 0xFFFFFFFF

/-- A packet checked by CV0 or CV2 (R507, R520, R521). -/
def cvCheck (u : Nat) (good : Bool) (s : State) : State :=
  let s := cvEvent u (fun x => { x with a := satAdd max32 x.a 1, b := satAdd max32 x.b (bit01 !good) }) s
  if good then s else s.bump (if u = 0 then 0xE0030 else 0xE0034) 0 32 1

/-- Send a packet now: the next link sequence number, the retry buffer, the lands (R115, R118). -/
def sendPkt (p : TxPkt) (s : State) : State :=
  let q := { p with seq := s.link.txSeq }
  let u := BitVec.ofNat 16 (creditsOf p.payload.length)
  let pool := poolOf p.cls.toNat
  cvEvent 1 (fun x => { x with a := satAdd max32 x.a 1 })
    (s.onLink (fun l => { l with txSeq := l.txSeq + 1, retry := l.retry ++ [q], tx := l.tx ++ [.pkt l.active false q],
                                 hostUsed := modAt l.hostUsed pool (· + u) }))

/-- Queue a packet for the link. -/
def queuePkt (cls : Nat) (payload : Bytes) (tag : TxTag) (s : State) : State :=
  s.onLink (fun l => { l with outq := l.outq ++ [⟨BitVec.ofNat 4 cls, 0, payload, tag, l.born⟩], born := l.born + 1 })

/-- A control block on lanes (R94). -/
def sendCtrl (lanes : BitVec 4) (b : BitVec 64) (s : State) : State :=
  s.onLink (fun l => { l with tx := l.tx ++ [.ctrl lanes b] })

/-- An EVT record as sent (R178). -/
def evtBytes (e : EvtRec) (lost : Bool) : Bytes :=
  [0x31, BitVec.ofNat 8 (e.blk + e.sev * 16 + bit01 lost * 64)] ++ natLe 2 e.code ++ leOf 2 e.seq ++ leOf 2 e.epoch ++
  leOf 8 e.time ++ e.data

/-- Position of the first element that satisfies p. -/
def findIdx? {α : Type} (p : α → Bool) : List α → Option Nat
  | [] => none
  | a :: t => if p a then some 0 else (findIdx? p t).map (· + 1)

/-- What waits to be sent: a packet of the queue, or the oldest event record as a packet. -/
inductive TxNext where
  | queued (p : TxPkt)
  | event (p : TxPkt)

def TxNext.pkt : TxNext → TxPkt
  | .queued p => p
  | .event p => p

/-- The next packets of each kind, in the order of R113: TSY first, then replies and events in order of creation, then write-back
rows. -/
def State.txNext (s : State) : List TxNext :=
  let first (cls : Nat) : List TxNext := ((s.link.outq.find? (fun p => p.cls.toNat == cls)).map TxNext.queued).toList
  let evt : List TxNext :=
    if s.clap.restarting then []
    else (s.clap.evtQ.head?.map (fun e => TxNext.event ⟨8, 0, evtBytes e s.clap.evtLost, .none, e.born⟩)).toList
  let own := match first 2, evt with
    | r :: _, e :: _ => if r.pkt.born < e.pkt.born then [r] else [e]
    | rs, es => rs ++ es
  first 6 ++ own ++ first 7

/-- The first of them that the host's credits cover is sent; while the retry buffer lacks room for it nothing is (R113, R118, R124). -/
def pumpOne (s : State) : State :=
  match s.txNext.find? (fun x => s.creditsFor x.pkt) with
  | none => s
  | some x =>
    if !s.retryRoom x.pkt.payload.length then s
    else match x with
      | .queued p => sendPkt p (s.onLink (fun l => { l with outq := l.outq.erase p }))
      | .event p => sendPkt p (s.onClap (fun c => { c with evtQ := c.evtQ.drop 1, evtLost := false }))

/-- Send what waits and may go. -/
def pump (s : State) : State := iter (s.link.outq.length + s.clap.evtQ.length) pumpOne s

/-- The CAN FD path carries traffic: enabled, PD4 on, not bus-off, its lands supplied (R47, R396, R572). -/
def State.canOn (s : State) : Bool := s.canEnabled && s.pdIs 4 .on && !s.can.busOff && s.lands

/-- Base of the identifiers (R389). -/
def State.canBase (s : State) : Nat := if s.sys.profileL then 0x320 else s.rfld 0x40004 0 11

/-- Smallest FD data length that holds n bytes (R390). -/
def fdLen (n : Nat) : Nat :=
  if n ≤ 8 then n else if n ≤ 12 then 12 else if n ≤ 16 then 16 else if n ≤ 20 then 20 else if n ≤ 24 then 24
  else if n ≤ 32 then 32 else if n ≤ 48 then 48 else 64

/-- Fragments of a packet (R390). -/
def fragments (bs : Bytes) : List Bytes :=
  let last := (bs.length - 1) / 63
  (List.range (last + 1)).map (fun i =>
    let d := BitVec.ofNat 8 (i + last * 16) :: sliceB bs (63 * i) 63
    padTo (fdLen d.length) d)

/-- Queue a packet on CAN FD under an identifier offset. A packet beyond 567 bytes cannot be carried (R390, R393). -/
def queueCan (off : Nat) (bs : Bytes) (tag : TxTag) (s : State) : State :=
  if s.canOn && decide (bs.length ≤ 567) then
    s.onCan (fun c => { c with txq := c.txq ++ [⟨off, fragments bs, tag, none⟩] })
  else s

/-- An EVT record goes on CAN FD while the link is down (R394). -/
def State.evtOnCan (s : State) (e : EvtRec) : Bool :=
  !s.linkUp && s.rfld 0x40000 2 1 == 1 && s.canOn && (decide (2 ≤ e.sev) || e.code == 1)

/-- Records that go on CAN FD leave the event queue (R394). -/
def flushCan (s : State) : State :=
  if s.clap.restarting || s.linkUp then s else
    let go := s.clap.evtQ.filter s.evtOnCan
    let stay := s.clap.evtQ.filter (fun e => !s.evtOnCan e)
    let s1 := s.onClap (fun c => { c with evtQ := stay, evtLost := c.evtLost && go.isEmpty })
    (go.foldl (fun (acc : State × Bool) e => (queueCan (8 + s.side) (evtBytes e acc.2) .none acc.1, false)) (s1, s.clap.evtLost)).1

def flush (s : State) : State := pump (flushCan s)

/-! Replies (R142 to R146, R528, R531). -/

/-- The key of an ACTIVE slot. -/
def State.keyOf (s : State) (slot : Nat) : Option Bytes :=
  match s.sec.slots[slot]? with
  | some k => if k.st = .active then some k.key else none
  | none => none

/-- Rights of an ACTIVE slot hold bit r (R523, R524). -/
def State.hasRight (s : State) (slot r : Nat) : Bool :=
  match s.sec.slots[slot]? with
  | some k => decide (k.st = .active) && k.rights.getLsbD r
  | none => false

def serialBytes : Bytes := leOf 8 Config.serial

/-- Profile L opcode (R146). -/
def lOpcode (op : BitVec 16) : Nat := fld op 8 8 % 16 * 16 + fld op 0 4

/-- A reply packet (R142, R144). None where Profile L has no key for its MAC (R528). -/
def replyBytes (p : CmdPkt) (status : Nat) (detail : BitVec 16) (data : Bytes) (replayed : Bool) (s : State) : Option Bytes :=
  let key := if p.auth then s.keyOf p.slot.toNat else none
  let mac (body : Bytes) (k : Bytes) := macOf k 2 s.sys.profileL serialBytes body
  if p.profL then
    match key with
    | none => none
    | some k =>
      let body := [BitVec.ofNat 8 (lOpcode p.opcode), BitVec.ofNat 8 (status % 64 + bit01 replayed * 128)] ++
        natLe 2 data.length ++ leOf 4 p.seq ++ data
      let body := body ++ mac body k
      some (body ++ leOf 2 (crcP2 body))
  else
    let body := [0x21, BitVec.ofNat 8 (bit01 key.isSome + bit01 replayed * 8)] ++ leOf 2 p.opcode ++ leOf 2 p.tag ++
      natLe 2 data.length ++ leOf 4 p.seq ++ [p.slot, BitVec.ofNat 8 status] ++ leOf 2 detail ++ data
    let body := match key with
      | some k => body ++ mac body k
      | none => body
    some (body ++ leOf 4 (crcP1 body))

/-- A write of n MRAM bytes from offset a: a scan of them is disturbed (R517); settle records it. -/
def touchMram (a n : Nat) (s : State) : State :=
  match s.cv.scan with
  | some c =>
    if c.space = 1 ∧ c.start < a + n ∧ a < c.start + c.len then s.onCv (fun v => { v with scan := some { c with disturbed := true } }) else s
  | none => s

/-- The Ledger journal is written (R44); the place in its ring is not told apart (log entry 5). -/
def touchLedger (s : State) : State := touchMram 0x4D4000 0x40000 s

/-- Change a Ledger entry. -/
def modEntry (lseq : Word) (f : LedgerEntry → LedgerEntry) (s : State) : State :=
  (touchLedger s).onClap (fun c => { c with ledger := c.ledger.map (fun e => if e.lseq = lseq then f e else e) })

/-- A reply has been delivered (R161). -/
def markDelivered (tag : TxTag) (s : State) : State :=
  match tag with
  | .none => s
  | .again _ => s
  | .reply l => modEntry l (fun e => if e.state = 1 then { e with state := 2 } else e) s

/-- CV2 appends the check value of a reply on CAN FD and SPI (R507, R520). -/
def cvAppend2 (s : State) : State :=
  cvEvent 2 (fun x => { x with c := BitVec.ofNat 32 (satAdd max32 x.c.toNat 1) }) s

/-- Put a reply on the path its command came by. -/
def putReply (path : Path) (bs : Bytes) (tag : TxTag) (s : State) : State :=
  match path with
  | .can => queueCan (6 + s.side) bs tag (cvAppend2 s)
  | .spi => (cvAppend2 s).onSpi (fun p => { p with replies := p.replies ++ [(bs, tag)] })
  | _ => flush (queuePkt 2 bs tag s)

/-- Send a reply; one that Profile L cannot authenticate is not sent and counts as delivered (R528). -/
def sendReply (p : CmdPkt) (path : Path) (status : Nat) (detail : BitVec 16) (data : Bytes) (replayed : Bool)
    (tag : TxTag) (s : State) : State :=
  match replyBytes p status detail data replayed s with
  | some bs => putReply path bs tag s
  | none => markDelivered tag s

/-! Recording a fault (R400 to R410). -/

def State.flts (s : State) (b : Nat) : FltBlock := s.flt.getD b (fltReset b)

def onFlts (b : Nat) (f : FltBlock → FltBlock) (s : State) : State := s.onFlt (fun l => l.set b (f (l.getD b (fltReset b))))

/-- Severity of a source as FLT_SEV gives it (R400). -/
def FltBlock.sev (f : FltBlock) (src : Nat) : Nat := if src < 16 then fld f.sev0 (2 * src) 2 else fld f.sev1 (2 * src - 32) 2

def FltHeld.key (h : FltHeld) : Nat × Nat := (3 - h.sev, h.src)

/-- Order of events of one tick: higher severity first, then lower source bit (R402). -/
def heldLt (a b : FltHeld) : Bool :=
  decide (b.sev < a.sev) || (decide (a.sev = b.sev) && decide (a.src < b.src))

/-- The event queue takes an event: when full, it replaces the newest entry that holds the event of neither FLT_FIRST nor FLT_SECOND,
as both stand now (R403). -/
def queueEvt (e : FltEvent) (f : FltBlock) : FltBlock :=
  if f.queue.length < 16 then { f with queue := f.queue ++ [e] }
  else
    match (f.queue.reverse.find? (fun x => !((x.first || x.second) && decide (f.firstTs ≤ x.tick)))) with
    | none => { f with queue := f.queue ++ [e] }
    | some old =>
      { f with queue := ((f.queue.reverse.erase old).reverse) ++ [{ e with coalesced := true, count := e.count + old.count }],
               lost := Nat.min 65535 (f.lost + 1) }

/-- First element that satisfies p changed by f. -/
def modFirst {α : Type} (p : α → Bool) (f : α → α) : List α → List α
  | [] => []
  | a :: t => if p a then f a :: t else a :: modFirst p f t

def FltEvent.holds (e : FltEvent) (h : FltHeld) (t : Nat) : Bool :=
  decide (e.tick = t) && decide (e.src = h.src) && decide (e.sev = h.sev) && e.tally == h.tally && e.injected == h.injected

/-- FLT_FIRST and FLT_SECOND take an event at its capture tick (R402): the events of the tick that filled FLT_FIRST are
kept in the order of R402. -/
def holdEvt (h : FltHeld) (t : Nat) (f : FltBlock) : FltBlock :=
  match f.first with
  | none => { f with first := some h, firstTs := t, second := none, coincident := false, deltaUs := 0 }
  | some a =>
    if t = f.firstTs then
      let rest := match f.second with
        | some b => if f.coincident then [b] else []
        | none => []
      let (x, y) := if heldLt h a then (h, a) else (a, h)
      let y := match rest with
        | b :: _ => if x = h then (if heldLt b a then b else a) else (if heldLt y b then y else b)
        | [] => y
      { f with first := some x, second := some y, coincident := true, deltaUs := 0 }
    else
      match f.second with
      | some _ => f
      | none => { f with second := some h, coincident := false, deltaUs := Nat.min 0xFFFF ((t - f.firstTs) / 1000) }

/-- The queue's entries carry first and second as the registers hold them. -/
def markHeld (t : Nat) (f : FltBlock) : FltBlock :=
  if t ≠ f.firstTs then f else
    let q := f.queue.map (fun e => if e.tick = t then { e with first := false, second := false, coincident := f.coincident } else e)
    let q := match f.first with
      | some h => modFirst (fun e => e.holds h t) (fun e => { e with first := true }) q
      | none => q
    let q := match f.second with
      | some h => if f.coincident then modFirst (fun e => e.holds h t && !e.first) (fun e => { e with second := true }) q else q
      | none => q
    { f with queue := q }

/-- The history of a tally takes an event: whether the tally is reached (R409). -/
def tallyEvent (unit : Nat) (t : Nat) (y : Tally) : Tally × Bool :=
  let h := t :: spGet [] y.hist unit
  if decide (y.n ≤ h.length) && decide (t - h.getD (y.n - 1) t ≤ y.wMs * 1000000) then
    ({ y with hist := spSet [] y.hist unit [], reached := Nat.min 65535 (y.reached + 1) }, true)
  else ({ y with hist := spSet [] y.hist unit (h.take 255) }, false)

/-- Slot of a source's tally. -/
def FltBlock.slot (f : FltBlock) (src : Nat) : Option Nat := findIdx? (fun y => y.src == src) f.tallies

/-- What an event brings with it besides its block and source. -/
structure FltArg where
  unit : Word
  value : Word
  injected : Bool
  /-- least severity at which the event is recorded (R302, R315) -/
  minSev : Nat
  deriving DecidableEq, Repr

/-- An event without a unit (R421). -/
def noUnit : FltArg := { unit := 0xFFFFFFFF, value := 0, injected := false, minSev := 0 }
def atUnit (u : Nat) : FltArg := { noUnit with unit := BitVec.ofNat 32 u }
def atUnitVal (u v : Nat) : FltArg := { noUnit with unit := BitVec.ofNat 32 u, value := BitVec.ofNat 32 v }
def withVal (v : Nat) : FltArg := { noUnit with value := BitVec.ofNat 32 v }

/-- Record an event in its block's registers (R402 to R404, R409), without the reaction of its severity: the state, the
severity recorded, and whether a tally was reached. -/
def recordBase (b src : Nat) (x : FltArg) (s : State) : State × Nat × Bool :=
  let f := s.flts b
  let t := s.tick
  let base := Nat.max x.minSev (f.sev src)
  let (ts, hit) := match f.slot src with
    | some k =>
      let r := tallyEvent (if tallyPerUnit b src then x.unit.toNat else 0) t (f.tallies.getD k default)
      (f.tallies.set k r.1, r.2)
    | none => (f.tallies, false)
  let sev := if hit then Nat.max base (tallySev b src) else base
  let masked := f.mask.getLsbD src && decide (sev < 2)
  let h : FltHeld := { src := src, sev := sev, tally := hit, injected := x.injected }
  let wasFirst := f.first.isNone
  let wasSecond := f.first.isSome && f.second.isNone && decide (t ≠ f.firstTs)
  let e : FltEvent :=
    { src := src, sev := sev, tick := t, unit := x.unit, value := x.value, first := wasFirst,
      second := wasSecond, coincident := false, tally := hit, masked := masked, coalesced := false,
      injected := x.injected, count := 1, state := s.sys.st }
  let up := if f.sev src < sev ∧ 2 ≤ sev then f.raised ||| BitVec.twoPow 32 src else f.raised
  let f' := markHeld t (queueEvt e (holdEvt h t { f with stat := f.stat ||| BitVec.twoPow 32 src, raised := up, tallies := ts }))
  (onFlts b (fun _ => f') s, sev, hit)

/-! Events (R178 to R180). -/

def isEvtLostRec (e : EvtRec) : Bool := e.blk == 1 && e.code == 2 && byteAt e.data 0 == 5

/-- The oldest INFO or MINOR record of a queue. -/
def oldestMinor (q : List EvtRec) : Option EvtRec :=
  (q.filter (fun e => decide (e.sev < 2))).foldl (fun m e => match m with
    | some a => if e.born < a.born then some e else some a
    | none => some e) none

/-- Create an EVT record at the end of the queue, or at its front (LINK_RESET, R121); the severity of EVT_LOST where one was
recorded, else 0. DESIGN CHOICE (log entry 93): a record that evt_min_sev holds back takes no evt_seq. -/
def postRec (front : Bool) (blk sev code : Nat) (data : Bytes) (s : State) : State × Nat :=
  if sev < s.evtMinSev then (s, 0) else
    let put (q : List EvtRec) (e : EvtRec) : List EvtRec := if front then e :: q else q ++ [e]
    let e : EvtRec :=
      { blk := blk, sev := sev, code := code, data := data, seq := s.clap.evtSeq, epoch := s.epoch,
        time := BitVec.ofNat 64 s.now, born := s.link.born }
    let s := s.onLink (fun l => { l with born := l.born + 1 })
    if s.clap.evtQ.length < 64 then
      (flush (s.onClap (fun c => { c with evtQ := put c.evtQ e, evtSeq := c.evtSeq + 1 })), 0)
    else
      let old := oldestMinor s.clap.evtQ
      let gone := match old with
        | some g => g
        | none => e
      let q := match old with
        | some g => put (s.clap.evtQ.erase g) e
        | none => s.clap.evtQ
      let s := s.onClap (fun c => { c with evtQ := q, evtSeq := c.evtSeq + 1, evtLost := true })
      if isEvtLostRec gone then (flush s, 0)
      else
        let r := recordBase bCLAP 5 noUnit s
        (flush r.1, r.2.1)

/-- Create an EVT record in the order of creation. -/
def postEvent0 (blk sev code : Nat) (data : Bytes) (s : State) : State × Nat := postRec false blk sev code data s

/-! The Ledger (R158 to R164) and the completion of a command. -/

/-- What a command answers: a status of R157, the offset of R142, and the reply data. -/
structure Res where
  status : Nat
  detail : BitVec 16
  data : Bytes
  deriving DecidableEq, Repr

def ok : Res := { status := 0, detail := 0xFFFF, data := [] }
def okData (d : Bytes) : Res := { status := 0, detail := 0xFFFF, data := d }

/-- A refusal with its offset and offending address (R142, R143). -/
def refuse (status detail addr : Nat) : Res :=
  { status := status, detail := BitVec.ofNat 16 detail, data := natLe 4 addr }

/-- A refusal that names neither (R142, R143). -/
def refuse0 (status : Nat) : Res := refuse status 0xFFFF 0xFFFFFFFF

/-- BAD_PARAM at an offset within the parameters. -/
def badParam (off : Nat) : Res := refuse 0x11 off 0xFFFFFFFF

/-- A parameter length that is wrong names no field (log entry 12). -/
def badLen : Res := badParam 0xFFFF

/-- ACCESS_VIOLATION at an address. -/
def accessViol (addr : Nat) : Res := refuse 0x14 0xFFFF addr

/-- What happens after the final reply of a command (R7, R76, R78, R167). -/
inductive Post where
  | none
  | standby
  | warm
  | cold
  | profile (l : Bool)
  deriving DecidableEq, Repr

/-- How step 11 of a command ends: with its final reply, as a long command, or still at step 11 (R155). -/
inductive Ans where
  | done (r : Res) (p : Post)
  | later (k : LongKind)
  | held (k : LongKind)
  deriving DecidableEq, Repr

/-- The meaning of a command's steps 10 and 11. -/
abbrev Body := Ctx → State → State × Ans

/-- A final reply without effect on the state. -/
def answer (r : Res) (s : State) : State × Ans := (s, .done r .none)

/-- A refusal at step 10: nothing has changed. -/
def no (r : Res) (s : State) : State × Ans := (s, .done r .none)

/-- An effect, and a final reply OK. -/
def did (s : State) : State × Ans := (s, .done ok .none)
def didData (d : Bytes) (s : State) : State × Ans := (s, .done (okData d) .none)

/-- The data of a final reply of a SCHEDULE_AT precedes the embedded reply (R172). -/
def outerRes (o : Option (BitVec 64 × Bool)) (r : Res) : Res :=
  match o with
  | none => r
  | some (t, late) =>
    if r.status < 0x10 then { r with status := if r.status = 0 ∧ late = true then 4 else r.status, data := leOf 8 t ++ r.data } else r

/-- Completion record and final reply of a command (R148, R156, R159), without the records of a violation. A command embedded in a
SCHEDULE_AT is answered by the reply of that SCHEDULE_AT (R173). -/
def finish0 (c : Ctx) (r : Res) (s : State) : State :=
  let r := outerRes c.outer r
  let s := match c.ledger with
    | some l => modEntry l (fun e => if e.state = 0 then { e with state := 1, status := r.status, detail := r.detail, data := r.data } else e) s
    | none => s
  let st := if c.replayed && r.status == 0 then 2 else r.status
  let p := if c.outer.isSome then { c.pkt with opcode := 0x502 } else c.pkt
  sendReply p p.path st r.detail r.data c.replayed (match c.ledger with | some l => .reply l | none => .again c.pkt) s

/-- A long command's ctx leaves the list. -/
def dropLong (c : LongCmd) (s : State) : State := s.onClap (fun k => { k with long := k.long.erase c })

/-- The opcode of a long command: that of the embedded command for a SCHEDULE_AT under execution. -/
def Ctx.group (c : Ctx) : Nat := fld c.pkt.opcode 8 8

/-- The command waiting in its unit belongs to the 0x01xx group (R155). -/
def LongKind.isLight : LongKind → Bool
  | .lightOn => true
  | .lightOff => true
  | .stillEnter _ => true
  | .stillExit => true
  | .gongExit _ => true
  | _ => false

/-- Pending 0x01xx commands are abandoned (R58, R155). -/
def abandonLight (s : State) : State :=
  let gone := s.clap.long.filter (fun l => l.kind.isLight)
  let held := match s.clap.held with
    | some l => if l.kind.isLight then [l] else []
    | none => []
  let s := s.onClap (fun c => { c with long := c.long.filter (fun l => !l.kind.isLight),
                                       held := if held.isEmpty then c.held else none })
  (gone ++ held).foldl (fun s l => finish0 l.ctx (refuse0 0x12) s) s

/-! Change of device state (R51 to R58, R82). -/

/-- The converters' owner when the digital controller may not hold VLED (R491, R488). -/
def mayDigital (s : State) : Bool :=
  s.isLit && s.mal.gongSegs == 0 && !s.pwr.fenced && !s.pwr.offUntilLit && s.sys.lphFltN && !s.sys.supplyLost

/-- STANDBY entry has begun and the beat boundary at which the array goes dark is still to come (step 1 of R76). -/
def State.darkening (s : State) : Bool := s.sys.standbyEntry && s.mal.stopDue

/-- A handover to the limp regulator is immediate; one to the digital controller waits for a beat boundary (R491). On STANDBY
entry VLED is held until the array is dark (R76). -/
def syncOwner (s : State) : State :=
  if (!s.powered && !s.darkening) || !s.pdIs 11 .on || s.sys.supplyLost || !s.sys.lphFltN then
    s.onPwr (fun p => { p with owner := 0, phases := 0, vledCode := if s.powered then p.vledCode else 0 })
  else if mayDigital s || s.darkening then s
  else if s.pwr.owner = 1 then s
  else s.onPwr (fun p => { p with owner := 1, phases := 4, vledCode := 880 })

/-- DEGRADE_LIMIT: resumed within 1 s of leaving DEGRADED, else from zero (R374). -/
def degTimer (old new : DevState) (s : State) : State :=
  if old = new then s
  else if new = .degraded then
    s.onSafe (fun f =>
      let resume := match f.degLeft with
        | some t => decide (s.now - t ≤ 1000000000)
        | none => false
      { f with degUsed := if resume then f.degUsed else 0, degAt := some s.now })
  else if old = .degraded then
    s.onSafe (fun f =>
      let used := match f.degAt with
        | some t => f.degUsed + (s.now - t)
        | none => f.degUsed
      { f with degUsed := used, degAt := none, degLeft := some s.now })
  else s

/-- Enter a state: previous state, TAP, timers, refresh, owner of VLED, and EVT STATE_CHANGE (R82, R179, R370, R374, R581). -/
def enterState (n : DevState) (s : State) : State :=
  let old := s.sys.st
  let s := s.onSys (fun y => { y with st := n, prev := old,
                                      tap := if n = .gong ∨ n = .standby ∨ n = .service then .reset else y.tap })
  let s := degTimer old n s
  let s := if n.lights || n == .service then s else s.onSafe (fun f => { f with refreshArmed := false })
  let s := if old = .service then s.onSense (fun e => { e with stim := [] }) else s
  let s := syncOwner s
  (postEvent0 bSYS 0 1 [BitVec.ofNat 8 n.code, BitVec.ofNat 8 old.code, BitVec.ofNat 8 s.sys.gongCause.toNat] s).1

/-- States that a GONG trigger leaves for GONG (R55). BOOT does so only at step 7 of R59. -/
def DevState.toGong : DevState → Bool
  | .ready => true
  | .lit => true
  | .still => true
  | .degraded => true
  | .service => true
  | _ => false

/-- What entering GONG does besides the change of state: nothing is composed, every segment shows its Gong pattern (none before
the Gong-capable point: R53, R66), scanning stops, and domains stay as they are (R46, R58, R208, R285, R300). -/
def gongLight (cause : Nat) (s : State) : State :=
  let s := abandonLight s
  let s := s.onCarl (fun c => { c with job := none, lastJob := none })
  let s := s.onPix (fun p => { p with inactive := 0 })
  let s := s.onMal (fun m => { m with gongSegs := if s.sys.gongCapable then 0xFF else 0, scanning := false, stopDue := false,
                                      frozen := false, firstFrame := false, repair := [] })
  s.onSys (fun y => { y with gongCause := BitVec.ofNat 4 cause })

/-- A GONG trigger (R55, R58): cause 1 LIMP_N, 2 CRITICAL, 3 dead-man timer, 4 DEGRADE_LIMIT, 5 AUTO_LIGHT, 6 GONG_ENTER. -/
def enterGong (cause : Nat) (s : State) : State :=
  if s.sys.st.toGong then
    enterState .gong ((gongLight cause s).onSys (fun y => { y with gongFromBoot := false }))
  else if s.sys.st = .gong ∧ (s.clap.long.any (fun l => l.kind.isLight)) = true then
    (gongLight cause s)
  else s

/-- Record an event with the reaction of its severity (R407, R408): the state, and whether a tally was reached. -/
def recordT (b src : Nat) (x : FltArg) (s : State) : State × Bool :=
  let r := recordBase b src x s
  (if r.2.1 = 3 then enterGong 2 r.1 else r.1, r.2.2)

def record (b src : Nat) (x : FltArg) (s : State) : State := (recordT b src x s).1

/-- Errors that ECC corrected: a counter counts each, and each is recorded at its source. -/
def eccCorrected (n b src reg : Nat) (s : State) : State := iter n (record b src noUnit) (s.bump reg 0 32 n)

/-- Create an EVT record; a lost record may itself be a CRITICAL event (R180, R408). -/
def postEvent (blk sev code : Nat) (data : Bytes) (s : State) : State :=
  let r := postEvent0 blk sev code data s
  if r.2 = 3 then enterGong 2 r.1 else r.1

/-- A record that the Clapper's next pass writes (R421). -/
def logItem (kind blk src sev : Nat) (detail : Bytes) (s : State) : State :=
  s.onClap (fun c => { c with logPend := c.logPend ++ [⟨kind, blk, src, sev, s.tick, s.sys.st, detail, 0⟩] })

/-- Rank and code of a path (R154, R164). -/
def pathCode : Path → Nat
  | .envex => 0
  | .can => 1
  | .spi => 2
  | .sched => 3

/-- The fault-log record of a refusal that names an address (R143, R177). -/
def logRefusal (p : CmdPkt) (status : Nat) (addr : Nat) (s : State) : State :=
  let det := [BitVec.ofNat 8 (pathCode p.path), p.slot] ++ leOf 2 p.opcode ++ leOf 4 p.seq ++ [BitVec.ofNat 8 status, 0] ++ natLe 2 0 ++
    natLe 4 addr ++ natLe 2 0
  logItem 1 bCLAP 1 ((s.flts bCLAP).sev 1) det s

/-- The records of R177: the fault log, the CLAP violation registers, EVT VIOLATION. -/
def violation (p : CmdPkt) (status : Nat) (addr : Nat) (s : State) : State :=
  let pc := BitVec.ofNat 8 (pathCode p.path)
  let sev := (s.flts bCLAP).sev 1
  let s := logRefusal p status addr s
  let s := record bCLAP 1 { noUnit with value := BitVec.ofNat 32 addr } s
  let s := s.bump 0x10008 0 32 1
  let s := s.setReg 0x1000C (BitVec.ofNat 32 ((pathCode p.path) + bit01 p.auth * 4 + p.slot.toNat % 16 * 8 + status * 256 + p.opcode.toNat * 65536))
  let s := s.setReg 0x10010 p.seq
  let s := s.setReg 0x10014 (BitVec.ofNat 32 addr)
  postEvent bCLAP sev 7 ([pc, p.slot] ++ leOf 2 p.opcode ++ leOf 4 p.seq ++ [BitVec.ofNat 8 status, 0, 0, 0] ++ natLe 4 addr) s

/-- The records of a refused WR or FEN, or of a link rule breach: not a command (R125, R179, R189, R421). -/
def violationLink (blk src : Nat) (linkSeq : BitVec 16) (reason : Nat) (handle : BitVec 16) (addr : Nat) (s : State) : State :=
  let sev := (s.flts blk).sev src
  let det := [0, 0, 0, 0] ++ natLe 4 linkSeq.toNat ++ [0xFF, BitVec.ofNat 8 reason] ++ leOf 2 handle ++ natLe 4 addr ++ leOf 2 linkSeq
  let s := logItem 1 blk src sev det s
  let s := record blk src { noUnit with value := BitVec.ofNat 32 addr } s
  postEvent blk sev 7 ([0, 0, 0, 0] ++ natLe 4 linkSeq.toNat ++ [0xFF, 0, 0, 0] ++ natLe 4 addr) s

/-- Completion of a command, with the records of a refusal (R143, R177). -/
def finish (c : Ctx) (r : Res) (s : State) : State :=
  let addr := leNat (r.data.take 4)
  let s := if r.status = 0x14 then violation c.pkt 0x14 addr s
    else if 0x10 ≤ r.status ∧ addr ≠ 0xFFFFFFFF then logRefusal c.pkt r.status addr s
    else s
  finish0 c r s

/-- Completion of a long command. -/
def finishLong (l : LongCmd) (r : Res) (s : State) : State := finish l.ctx r (dropLong l s)

/-- Completion of every long command that satisfies p. -/
def finishAll (p : LongCmd → Bool) (r : Res) (s : State) : State :=
  (s.clap.long.filter p).foldl (fun s l => finishLong l r s) s

/-! Authentication failures and lockout (R535, R536). -/

def State.lockout (s : State) : Bool := s.sec.lockAt.isSome

/-- An authentication failure of a kind (0 command, 1 SMSG, 2 TSY, 3 unlock) on a path: counted outside a lockout; the
sixteenth within 1,000 ms starts one (R535). -/
def authFail (path : Path) (kind slot : Nat) (s : State) : State :=
  if s.lockout then s else
    let s := s.setReg 0xF0018 (BitVec.ofNat 32 (pathCode path % 4 + kind * 4 + slot % 16 * 16))
    let h := (s.now :: s.sec.fails).take 16
    if decide (h.length = 16) && decide (s.now - h.getD 15 0 ≤ 1000000000) then
      let s := s.onSec (fun k => { k with fails := [], lockAt := some s.now })
      record bCLAP 3 noUnit (s.bump 0xF0008 0 32 1)
    else s.onSec (fun k => { k with fails := h.take 15 })

/-! Firmware images (R537 to R540). -/

/-- Byte of the image regions (R44): what was written, over what was delivered. -/
def imgByte (s : State) (a : Nat) : Byte := spGet (if a < 0x100000 then Config.imageByte a else 0) s.nvm.mem a

/-- A number of an image's header; for the image delivered in region A, what the module was delivered with. -/
def imgNum (s : State) (r off n : Nat) : Nat := leNat ((List.range n).map (fun i => imgByte s (r * 0x100000 + off + i)))

def imgDelivered (s : State) (r : Nat) : Bool := decide (r = 0) && s.nvm.delivered.1

def imgRelease (s : State) (r : Nat) : Word := if imgDelivered s r then Config.fwRelease else BitVec.ofNat 32 (imgNum s r 4 4)
def imgSvn (s : State) (r : Nat) : BitVec 16 := if imgDelivered s r then Config.deliveredSvn else BitVec.ofNat 16 (imgNum s r 8 2)
def imgRevokes (s : State) (r : Nat) : Bool := if imgDelivered s r then Config.deliveredRevoke else decide (imgNum s r 11 1 % 2 = 1)
def imgKey (s : State) (r : Nat) : Nat := if imgDelivered s r then Config.deliveredKeyIndex.toNat else imgNum s r 10 1

/-- Release and svn of the image that runs; 0 where none does. -/
def State.release (s : State) : Word := if s.sys.fwImage.toNat < 2 then imgRelease s s.sys.fwImage.toNat else 0
def State.runSvn (s : State) : BitVec 16 := if s.sys.fwImage.toNat < 2 then imgSvn s s.sys.fwImage.toNat else 0

/-- First READY after a cold boot: anti-rollback takes what the running image brings (R540), and SYS_T_READY is set (R84). -/
def firstReady (t : Word) (s : State) : State :=
  if s.sys.readySeen then s else
    let r := s.sys.fwImage.toNat
    let s := s.onSys (fun y => { y with readySeen := true, tReady := t })
    if r < 2 then
      s.onSec (fun k => { k with minSvn := if k.minSvn.toNat < (imgSvn s r).toNat then imgSvn s r else k.minSvn,
                                 revoked := k.revoked || imgRevokes s r })
    else s

/-- Microseconds since the cold boot began: Tabor 3 started from 0 at a time the boot reported (R80, R84). -/
def State.bootUs (s : State) : Word := s.sys.tTabor + BitVec.ofNat 32 (s.now / 1000)

/-- Entry into READY from a state other than BOOT. -/
def toReady (s : State) : State := enterState .ready (firstReady s.bootUs s)

/-- Start-up complete (R60): READY from BOOT; a GONG entered at step 7 stays (R72). -/
def bootReady (s : State) : State :=
  if s.sys.readyWaits then
    let s := s.onSys (fun y => { y with readyWaits := false, bootPhase := 12 })
    if s.sys.st = .boot then enterState .ready (firstReady s.sys.tReadyObs s) else s
  else s

/-! DEGRADED causes (R372, R375). -/

/-- Leaving STILL needs PD6 on and PD7 out of retention; the state changes when they report power-good (R296). -/
def startStillExit (s : State) : State :=
  s.onSys (fun y => { y with pdWant := (y.pdWant.set 6 .on).set 7 .on })

/-- A cause of DEGRADED arises: LIT becomes DEGRADED at once, STILL through its exit sequence (R55, R296, R372). -/
def addCause (bit : Nat) (s : State) : State :=
  let s := s.onSafe (fun f => { f with causes := f.causes ||| BitVec.twoPow 7 bit })
  if s.sys.st = .lit then enterState .degraded s
  else if s.sys.st = .still then startStillExit s
  else s

def clearCause (bit : Nat) (s : State) : State :=
  s.onSafe (fun f => { f with causes := f.causes &&& ~~~(BitVec.twoPow 7 bit) })

/-- Record an event of the SAFE block; a tally that is reached brings its cause (R386, R410). -/
def recordSafe (src : Nat) (x : FltArg) (s : State) : State :=
  let r := recordT bSAFE src x s
  if r.2 then addCause (match src with | 6 => 1 | 8 => 2 | _ => 6) r.1 else r.1

/-- Severity at which a source that is set drives FLT_N and IRQ_N: its own, or MAJOR once an event of it was raised to MAJOR (R406,
log entry 106). -/
def FltBlock.pinSev (f : FltBlock) (i : Nat) : Nat := if f.raised.getLsbD i then Nat.max 2 (f.sev i) else f.sev i

/-- A lane of pins driven by the fault logic: FLT_N is low while an unmasked source at or above flt_n_sev is set (R412). -/
def FltBlock.drives (f : FltBlock) (lvl : Nat) : Bool :=
  (List.range 32).any (fun i => f.stat.getLsbD i && decide (lvl ≤ f.pinSev i) && !(f.mask.getLsbD i && decide (f.pinSev i < 2)))

/-- Level of FLT_N: false is low (R412). -/
def State.fltN (s : State) : Bool := !s.powered || !s.lands || !(s.flt.any (fun f => f.drives f.fltNSev))

/-- Level that IRQ_N takes when the Clapper evaluates it (R413). -/
def State.irqEval (s : State) : Bool :=
  !(s.flt.any (fun f => f.drives (s.rfld 0x1001C 0 2)) || (s.rfld 0x1001C 2 1 == 1 && !s.clap.evtQ.isEmpty))

/-- Level of IRQ_N: held through a warm restart (R413), not driven without VIO (R572). -/
def State.irqN (s : State) : Bool := !s.lands || if s.clap.restarting then !s.clap.irqHeld else s.irqEval

/-! Stimuli of fault injection (R429). -/

def State.hasStim (s : State) (b src p : Nat) : Bool := s.stims.contains (b, src, p)
def dropStim (b src p : Nat) (s : State) : State := s.onStims (fun l => l.erase (b, src, p))

/-- The event of a stimulus carries the injected flag (R428). -/
def FltArg.inj (x : FltArg) (b : Bool) : FltArg := { x with injected := b }

/-- A CRITICAL source is set in some block (R73). -/
def State.criticalSet (s : State) : Bool :=
  s.flt.any (fun f => (List.range 32).any (fun i => f.stat.getLsbD i && f.sev i == 3))

end Sys2Proof.Machine
end

