-- ==== Sys2Proof/Machine/Nvm.lean ====
section
/-!
DEFINITION. The configuration copies of MRAM (R44, R63, R461, R462): writing both with a new generation, and the values
kept in them.
-/
namespace Sys2Proof.Machine

/-- The newest generation of the two copies. -/
def State.cfgGen (s : State) : Nat := Nat.max s.nvm.cfgA.gen.toNat s.nvm.cfgB.gen.toNat

/-- A change of the configuration is written to both copies with a new generation (R462). -/
def saveCfg (f : CfgData → CfgData) (s : State) : State :=
  let d := f s.nvm.cur
  let c : CfgCopy := ⟨BitVec.ofNat 32 (s.cfgGen + 1), false, d⟩
  touchMram 0x4B4000 0x20000 (s.onNvm (fun n => { n with cur := d, cfgA := c, cfgB := c }))

/-- A configuration register is written, and stored in both copies. -/
def storeReg (a : Nat) (v : Word) (s : State) : State :=
  saveCfg (fun d => { d with regs := spSet (regReset a) d.regs a v }) (s.setReg a v)

/-- Word that the configuration in force holds for a register. -/
def State.cfgReg (s : State) (a : Nat) : Word := spGet (regReset a) s.nvm.cur.regs a

/-! Tables held in single MRAM regions (R44, R461). -/

def factGainAt (m : List (Nat × BitVec 10)) (px : Nat) : BitVec 10 := spGet (Config.factGain px) m px
def deltaAt (m : List (Nat × Int)) (px : Nat) : Int := spGet 0 m px
def State.limpAt (s : State) (y : Nat) : BitVec 1536 := spGet (Config.limpRow y) s.nvm.limp y

/-- Byte i of the limp bitmap (R554). -/
def State.limpByte (s : State) (i : Nat) : Nat := fld (s.limpAt (i / 192)) (8 * (i % 192)) 8

/-- Floor map region entry (R585). -/
def State.floorMirror (s : State) (tile : Nat) : BitVec 64 := spGet 0 s.nvm.floorRegion tile

/-- A change of a pixel-gain table starts a rebuild of the inactive working bank (R260). -/
def startRebuild (s : State) : State := s.onPix (fun p => { p with rebuild := true, rebuilt := false })

/-- The calibration table generation advances (R260, R471). -/
def nextCalGen (s : State) : State := startRebuild (saveCfg (fun d => { d with calGen := d.calGen + 1 }) s)

end Sys2Proof.Machine
end

