-- ==== Sys2Proof/Machine/Safe.lean ====
section
/-!
DEFINITION. Safety messages and the dual-path comparator (R358 to R371), DEGRADED (R372 to R375), the safety policy and
its lock (R382, R383), SAFETY_STATUS (R384).
-/
namespace Sys2Proof.Machine

/-! The policy (R382, R385). -/

def State.pathMode (s : State) : Nat := s.rfld 0xD0010 0 2
def State.clearCount (s : State) : Nat := s.rfld 0xD0010 8 8
def State.sourceId (s : State) : Nat := s.rfld 0xD0010 16 16
def State.refreshMs (s : State) : Nat := s.rfld 0xD0014 8 11
def State.smsgMacNeeded (s : State) : Bool := s.rfld 0xD0010 2 1 == 1 || s.sys.profileL

/-- Cap n (R382). -/
def State.cap (s : State) (n : Nat) : BitVec 64 := (s.reg (0xD00A4 + 8 * n)) ++ (s.reg (0xD00A0 + 8 * n))

/-- Caps of the policy. -/
def State.caps (s : State) : List (BitVec 64) := (List.range (s.rfld 0xD0014 19 3)).map s.cap

/-- A Damper zone's fields (R360). -/
def zX0 (z : BitVec 64) : Nat := fld z 0 11
def zX1 (z : BitVec 64) : Nat := fld z 11 11
def zY0 (z : BitVec 64) : Nat := fld z 22 10
def zY1 (z : BitVec 64) : Nat := fld z 32 10
def zCeil (z : BitVec 64) : Nat := fld z 42 16

/-- Bounds, obj_class and reserved bits of a zone word (R360, R361). -/
def zoneOk (z : BitVec 64) : Bool :=
  decide (zX0 z ≤ zX1 z) && decide (zX1 z ≤ 1535) && decide (zY0 z ≤ zY1 z) && decide (zY1 z ≤ 767) &&
  decide (fld z 58 3 ≠ 7) && decide (fld z 62 2 = 0)

/-- A cap carries obj_class and tracked at 0 (R382). -/
def capOk (z : BitVec 64) : Bool := zoneOk z && decide (fld z 58 4 = 0)

/-! Zones in force (R255, R365, R368, R373). -/

/-- The caps act: in DEGRADED, and with the beam LOW in every Lit state and in lit SERVICE. -/
def State.capsAct (s : State) : Bool := s.isLit && (decide (s.sys.st = .degraded) || !s.safe.beamAdb)

def State.zonesA (s : State) : List (BitVec 64) := (s.safe.setA.map (fun (d : DSet) => d.zones)).getD []
def State.zonesB (s : State) : List (BitVec 64) := (s.safe.setB.map (fun (d : DSet) => d.zones)).getD []

/-- What acts on the light: a change of it ends STILL (R32). DESIGN CHOICE (log entry 50): sets are compared by their zones alone, so a
refresh whose interim set B has the zones of set A is a change, from one set to two, and ends STILL. -/
def State.damper (s : State) : List (BitVec 64) × List (BitVec 64) × Bool := (s.zonesA, s.zonesB, s.capsAct)

/-- A change of the Damper set or caps in force starts the STILL exit (R32, R296). -/
def touchDamper (old : List (BitVec 64) × List (BitVec 64) × Bool) (s : State) : State :=
  if s.sys.st = .still ∧ s.damper ≠ old then startStillExit s else s

/-! Checks of a copy (R361, R362). -/

/-- A copy that has passed checks 1 to 6: its number, type, slot, and the bytes that are compared (R363). -/
structure SmsgCopy where
  seq : Word
  kind : Nat
  slot : Nat
  body : Bytes
  deriving DecidableEq, Repr

/-- The bytes of a copy that the comparator compares and hashes: all but bytes 2 and 22 of the header. -/
def smsgBody (raw : Bytes) : Bytes := sliceB raw 0 2 ++ sliceB raw 3 19 ++ sliceB raw 23 (9 + numAt raw 18 2)

/-- Payload within the compared bytes. -/
def payloadOf (body : Bytes) : Bytes := body.drop 30

/-- Zones of a DAMPER_SET. -/
def zonesOf (body : Bytes) : List (BitVec 64) :=
  (List.range (numAt (payloadOf body) 0 1)).map (fun i => BitVec.ofNat 64 (numAt (payloadOf body) (4 + 8 * i) 8))

/-- Beam or request of the other types. -/
def valueOf (body : Bytes) : Nat := numAt (payloadOf body) 0 1

/-- Check 2: the fields of R358 and R359. -/
def smsgFormat (raw : Bytes) : Bool :=
  let typ := numAt raw 1 1
  let auth := numAt raw 2 1 % 2
  let pl := numAt raw 18 2
  let v := numAt raw 32 1
  decide (36 ≤ raw.length) && decide (byteAt raw 0 = 0x41) && decide (1 ≤ typ) && decide (typ ≤ 3) && decide (numAt raw 2 1 < 2) &&
  decide (numAt raw 3 1 = 0) && decide (numAt raw 23 1 = 0) && decide (numAt raw 24 1 < 4) && decide (numAt raw 25 7 = 0) &&
  decide (numAt raw 22 1 < (if auth = 1 then 16 else 1)) && decide (raw.length = 36 + pl + 8 * auth) && decide (4 ≤ pl) &&
  decide (numAt raw 33 3 = 0) &&
  (if typ = 1 then decide (pl = 4 + 8 * v) else decide (pl = 4) && decide (v ≤ (if typ = 2 then 1 else 2)))

/-- The first check of R361 that a copy fails on a path; 0 when it passes all seven. -/
def smsgCheck (raw : Bytes) (envex : Bool) (s : State) : Nat :=
  let n := raw.length
  let auth := numAt raw 2 1 % 2 = 1
  let slot := numAt raw 22 1
  let cover := 32 + numAt raw 18 2
  let seq := u32At raw 4
  if n < 4 ∨ crcP1 (raw.take (n - 4)) ≠ u32At raw (n - 4) then 1
  else if smsgFormat raw = false then 2
  else if numAt raw 24 1 / 2 ^ s.side % 2 = 0 then 3
  else if numAt raw 20 2 ≠ s.sourceId ∨ (s.pathMode ≠ 0 ∧ s.pathMode ≠ (if envex then 1 else 2)) then 4
  else if (s.smsgMacNeeded = true ∧ ¬ auth) ∨
      (auth ∧ (s.hasRight slot 1 && (match s.keyOf slot with
        | some k => macOf k 3 s.sys.profileL (zeros 8) (raw.take cover) == sliceB raw cover 8
        | none => false)) = false) then 5
  else if numAt raw 1 1 = 1 ∧ (64 < numAt raw 32 1 ∨ (zonesOf (smsgBody raw)).all zoneOk = false) then 6
  else
    match s.safe.pend.find? (fun e => e.seq = seq) with
    | some e => if e.envex = envex then 7 else 0
    | none => if seq.toNat < s.safe.seqOpen then 7 else 0

/-! The comparator (R363 to R370). -/

/-- A SAFE_REQ DEGRADED or GONG acts (R369). -/
def safeRequest (v : Nat) (s : State) : State :=
  match v with
  | 1 => addCause 4 (record bSAFE 10 noUnit s)
  | 2 => record bSAFE 11 noUnit s
  | _ => s

/-- The refresh timer restarts while it is armed (R370). -/
def restartRefresh (s : State) : State :=
  s.onSafe (fun f => if f.refreshArmed then { f with refreshAt := s.now } else f)

def armRefresh (s : State) : State := s.onSafe (fun f => { f with refreshArmed := true, refreshAt := s.now })

/-- A pending entry leaves (R363). -/
def closePend (e : Pend) (s : State) : State := s.onSafe (fun f => { f with pend := f.pend.erase e })

/-- The window of an entry ends with one copy (step 4 of R363, R372). -/
def expirePend (e : Pend) (s : State) : State :=
  let s := (closePend e s).onSafe (fun f => { f with cleanSkew := 0 })
  addCause 0 (record bSAFE 7 noUnit s)

/-- Earlier entries close when a later number is verified (step 5 of R363). -/
def supersede (seq : Word) (s : State) : State :=
  (s.safe.pend.filter (fun e => decide (e.seq.toNat < seq.toNat))).foldl (fun s e =>
    recordSafe 8 noUnit ((closePend e s).onSafe (fun f => { f with cleanSkew := 0 }))) s

/-- clear_count clean messages in a row remove SKEW, SUPERSEDED and MISMATCH (R372). -/
def clearByCount (s : State) : State :=
  let s := if s.clearCount ≤ s.safe.cleanSkew then clearCause 2 (clearCause 0 s) else s
  if s.clearCount ≤ s.safe.cleanMis then clearCause 1 s else s

/-- A message is verified: by both paths when dual (steps 2 and 5 of R363, R367, R369, R370). -/
def verify (m : SmsgCopy) (dual : Bool) (s : State) : State :=
  let s := supersede m.seq s
  let s := s.bump 0xD0090 0 32 1
  let s := s.onSafe (fun f =>
    { f with seqHigh := if f.seqHigh.toNat < m.seq.toNat then m.seq else f.seqHigh, tVerified := BitVec.ofNat 64 s.now,
             tEpoch := s.epoch, cleanMis := f.cleanMis + 1 })
  let s := match m.kind with
    | 1 =>
      let older := s.safe.disagree && decide (m.seq.toNat < ((s.safe.setA.map (fun (d : DSet) => d.seq)).getD 0).toNat)
      let s := s.onSafe (fun f =>
        { f with setA := if older then f.setA else some ⟨m.seq, zonesOf m.body⟩,
                 disagree := older,
                 setB := match f.setB with
                   | some b => if b.seq.toNat ≤ m.seq.toNat then none else some b
                   | none => none,
                 dualDone := f.dualDone || dual, cleanSkew := f.cleanSkew + bit01 dual })
      clearCause 3 (restartRefresh s)
    | 2 => s.onSafe (fun f => { f with beamAdb := decide (valueOf m.body = 1) })
    | _ => if valueOf m.body = 0 then clearCause 4 s else if dual then s else safeRequest (valueOf m.body) s
  clearByCount s

/-- The first copy of a number opens an entry (step 1 of R363, R364, R365). -/
def openPend (m : SmsgCopy) (envex : Bool) (s : State) : State :=
  let s := match s.safe.pend with
    | e :: _ => if 8 ≤ s.safe.pend.length then expirePend e s else s
    | [] => s
  let s := s.onSafe (fun f =>
    { f with pend := f.pend ++ [⟨m.seq, envex, m.kind, m.body, m.slot, s.now⟩], seqOpen := Nat.max f.seqOpen (m.seq.toNat + 1) })
  match m.kind with
  | 1 => s.onSafe (fun f => { f with setB := some ⟨m.seq, zonesOf m.body⟩ })
  | 2 => if valueOf m.body = 0 then s.onSafe (fun f => { f with beamAdb := false }) else s
  | _ => safeRequest (valueOf m.body) s

/-- Set B holds the copy of a later message that is still pending (step 3 of R363). -/
def State.laterB (s : State) (seq : Word) : Bool :=
  match s.safe.setB with
  | some b => decide (seq.toNat < b.seq.toNat) && s.safe.pend.any (fun e => decide (e.seq = b.seq))
  | none => false

/-- The copies of a message disagree (step 3 of R363). -/
def mismatch (e : Pend) (m : SmsgCopy) (s : State) : State :=
  let eBody := if e.envex then e.body else m.body
  let cBody := if e.envex then m.body else e.body
  let s := closePend e s
  let s := if e.kind = 1 ∧ m.kind = 1 then
      (if s.laterB m.seq then s.onSafe (fun f => { f with cleanSkew := 0 })
      else s.onSafe (fun f => { f with setA := some ⟨m.seq, zonesOf eBody⟩, setB := some ⟨m.seq, zonesOf cBody⟩, disagree := true,
                                       cleanSkew := 0 }))
    else s
  let s := if e.kind = 2 ∨ m.kind = 2 then s.onSafe (fun f => { f with beamAdb := false }) else s
  let done := if e.kind = 3 then valueOf e.body else 0
  let s := if m.kind = 3 ∧ done < valueOf m.body then safeRequest (valueOf m.body) s else s
  let s := s.onSafe (fun f => { f with mmSeq := m.seq, mmE := crcP1 eBody, mmC := crcP1 cBody, cleanMis := 0 })
  recordSafe 6 noUnit s

/-- A copy that has passed every check (R363, R367). -/
def compareCopy (m : SmsgCopy) (envex : Bool) (s : State) : State :=
  if s.pathMode ≠ 0 then
    verify m false (s.onSafe (fun f => { f with seqOpen := Nat.max f.seqOpen (m.seq.toNat + 1) }))
  else
    match s.safe.pend.find? (fun e => e.seq = m.seq) with
    | none => openPend m envex s
    | some e => if e.body = m.body then verify m true (closePend e s) else mismatch e m s

/-- A copy that fails a check is discarded (R361). -/
def refuseCopy (chk : Nat) (raw : Bytes) (envex : Bool) (s : State) : State :=
  let src := if chk = 1 then 3 else if chk = 7 then 5 else 4
  let known := decide (2 ≤ chk) && decide (36 ≤ raw.length)
  let h := if known then leOf 4 (crcP1 (smsgBody raw)) else zeros 4
  let seq := if known then sliceB raw 4 4 else zeros 4
  let s := s.bump 0xD0094 0 32 1
  let s := if chk = 5 then authFail (if envex then .envex else .can) 1 (numAt raw 22 1) s else s
  let s := logItem 4 bSAFE src ((s.flts bSAFE).sev src)
    ([BitVec.ofNat 8 chk, BitVec.ofNat 8 (if envex then 0 else 1)] ++ seq ++ (if envex then h ++ zeros 4 else zeros 4 ++ h)) s
  record bSAFE src noUnit s

/-- An SMSG copy arrives: checked and handed to the comparator while PD8 is on (R361, R371, R372). -/
def smsgEvent (raw : Bytes) (envex : Bool) (s : State) : State :=
  if s.pdIs 8 .on = false then s else
    let old := s.damper
    let chk := smsgCheck raw envex s
    let s := cvCheck 2 (decide (chk ≠ 1)) s
    let s := match chk with
      | 0 => compareCopy ⟨u32At raw 4, numAt raw 1 1, numAt raw 22 1, smsgBody raw⟩ envex s
      | 3 => s.bump 0xD0098 0 32 1
      | k => refuseCopy k raw envex s
    touchDamper old s

/-- The skew window of a pending entry expires (step 4 of R363). -/
def skewTimeoutEvent (seq : Word) (s : State) : State :=
  match s.safe.pend.find? (fun e => e.seq = seq) with
  | some e => expirePend e s
  | none => s

/-- The refresh timer runs out (R370). -/
def refreshToEvent (s : State) : State :=
  if s.safe.refreshArmed = true ∧ s.refreshMs ≠ 0 then addCause 3 (record bSAFE 9 noUnit s) else s

/-- The DEGRADE_LIMIT timer expires (R374). -/
def degLimitEvent (s : State) : State :=
  if s.sys.st = .degraded then enterGong 4 (record bSAFE 13 noUnit s) else s

/-- At each LIGHT_ON the sets are cleared and the beam is LOW; the refresh timer is armed (R368, R370). -/
def safeLightOn (s : State) : State :=
  armRefresh (s.onSafe (fun f => { f with setA := none, setB := none, disagree := false, beamAdb := false, dualDone := false }))

/-- DEGRADED is left for LIT at the first latching boundary without a cause; a cause left in LIT leads back (R372, R375). -/
def degradedAtLatch (s : State) : State :=
  if s.sys.st = .degraded ∧ s.safe.causes = 0 then enterState .lit s else s

/-! Column cuts (R312, R332). -/

/-- A column cut of a segment is open (R312). -/
def State.isCut (s : State) (seg x : Nat) : Bool := (spGet 0 s.mal.cutSw (seg * 48 + x / 32)).getLsbD (x % 32)

/-- Number of cut columns of a segment. -/
def State.cutCount (s : State) (seg : Nat) : Nat := (selN 1536 (s.isCut seg)).length

/-- The cut limit is exceeded in some segment (R332). -/
def State.cutsOver (s : State) : Bool := (List.range 8).any (fun seg => decide (s.rfld 0xA0018 0 12 < s.cutCount seg))

/-! SAFETY_STATUS (R384). -/

def State.assurance (s : State) : Nat :=
  if s.pdIs 8 .on = false then 0
  else if s.pathMode = 0 then (if s.safe.dualDone then 2 else 0)
  else if s.safe.setA.isSome && !s.safe.disagree then 1 else 0

/-- The Roll's coverage is reduced: columns stand without a slice (R340, R357), or the cut limit is exceeded (R332). -/
def State.rollReduced (s : State) : Bool := decide (s.sense.lost ≠ 0) || s.cutsOver

def State.safeFlags (s : State) : Nat :=
  bit01 s.safe.setB.isSome + bit01 s.capsAct * 2 + bit01 (!s.safe.beamAdb) * 4 + bit01 s.locked * 8 +
    bit01 s.rollReduced * 16

def State.seqA (s : State) : Word := (s.safe.setA.map (fun (d : DSet) => d.seq)).getD 0
def State.seqB (s : State) : Word := (s.safe.setB.map (fun (d : DSet) => d.seq)).getD 0

/-- DEGRADE_LIMIT that remains, in ms (R374). -/
def State.degRemain (s : State) : Nat :=
  let used := match s.safe.degAt with
    | some t => s.safe.degUsed + (s.now - t)
    | none => (match s.safe.degLeft with
      | some t => if s.now - t ≤ 1000000000 then s.safe.degUsed else 0
      | none => 0)
  s.rfld 0xD0018 0 16 - used / 1000000

def safetyRecord (s : State) : Bytes :=
  [BitVec.ofNat 8 s.sys.st.code, BitVec.ofNat 8 s.assurance, BitVec.ofNat 8 s.pathMode, BitVec.ofNat 8 s.safeFlags] ++
  natLe 2 (if s.pdIs 8 .on then s.safe.causes.toNat else 0) ++ zeros 2 ++ leOf 4 s.seqA ++ leOf 4 s.seqB ++ natLe 4 s.degRemain ++
  natLe 4 s.safe.pend.length ++ leOf 8 s.safe.tVerified ++ leOf 2 s.safe.tEpoch ++ zeros 2 ++ leOf 4 s.safe.mmSeq ++
  leOf 4 s.safe.mmE ++ leOf 4 s.safe.mmC

def bodySafetyStatus : Body := fun c s =>
  if c.pkt.params.length ≠ 0 then no badLen s else didData (safetyRecord s) s

/-! SAFETY_POLICY_SET and DEGRADE_LIMIT_SET (R382, R383, R374). -/

/-- First offset of a pair list whose flag is set. -/
def firstBad (l : List (Nat × Bool)) : Option Nat := (l.find? (fun e => e.2)).map (·.1)

/-- Check 4 of R382: reserved bits, ranges, path_mode 0 without CAN FD, mac_required in Profile L (R532). -/
def policyBad (ps : Bytes) (s : State) : Option Nat :=
  let skew := numAt ps 4 2
  let refr := numAt ps 6 2
  let z (n : Nat) : Bool := !capOk (BitVec.ofNat 64 (numAt ps (16 + 8 * n) 8))
  firstBad [(0, decide (3 ≤ numAt ps 0 1) || (decide (numAt ps 0 1 = 0) && !s.canEnabled)),
    (1, decide (8 ≤ numAt ps 1 1) || (decide (numAt ps 1 1 % 2 = 0) && s.sys.profileL)),
    (4, decide (skew < 1) || decide (200 < skew)), (6, decide (refr ≠ 0) && (decide (refr < 20) || decide (2000 < refr))),
    (8, decide (numAt ps 8 1 < 1) || decide (16 < numAt ps 8 1)), (9, byteAt ps 9 != 0), (10, byteAt ps 10 != 0),
    (11, byteAt ps 11 != 0), (12, decide (4 < numAt ps 12 1)), (13, byteAt ps 13 != 0), (14, byteAt ps 14 != 0),
    (15, byteAt ps 15 != 0), (16, z 0), (24, z 1), (32, z 2), (40, z 3)]

/-- Values of the record that are expert-only, by offset (R382). -/
def policyExpert (ps : Bytes) : Option Nat :=
  firstBad [(0, decide (numAt ps 0 1 % 4 = 1) || decide (numAt ps 0 1 % 4 = 2)), (4, decide (50 < numAt ps 4 2)), (6, decide (numAt ps 6 2 = 0))]

/-- The policy record in force and in both copies. -/
def setPolicy (ps : Bytes) (s : State) : State :=
  let b1 := numAt ps 1 1
  let p0 := numAt ps 0 1 + b1 % 2 * 4 + b1 / 4 % 2 * 8 + b1 / 2 % 2 * 16 + numAt ps 8 1 * 256 + numAt ps 2 2 * 65536
  let p1 := numAt ps 4 2 + numAt ps 6 2 * 2 ^ 8 + numAt ps 12 1 * 2 ^ 19
  let ws := [(0xD0010, BitVec.ofNat 32 p0), (0xD0014, BitVec.ofNat 32 p1)] ++
    (List.range 8).map (fun i => (0xD00A0 + 4 * i, u32At ps (16 + 4 * i)))
  let s := ws.foldl (fun s w => s.setReg w.1 w.2) s
  saveCfg (fun d => { d with regs := ws.foldl (fun m w => spSet (regReset w.1) m w.1 w.2) d.regs }) s

def bodySafetyPolicySet : Body := fun c s =>
  let ps := c.pkt.params
  let lock := decide (numAt ps 1 1 / 2 % 2 = 1)
  let slot := c.pkt.slot.toNat
  let refuseAt (off : Nat) : State × Ans := no (refuse 0x14 off 0xD0010) s
  if ps.length ≠ 48 then no badLen s
  else if lock && s.locked then refuseAt 1
  else if lock != s.locked && !s.hasRight slot 6 then refuseAt 1
  else if (lock == s.locked || (c.pkt.expert && (policyExpert ps).isSome)) && !s.hasRight slot 0 then
    refuseAt (if lock == s.locked then 0xFFFF else (policyExpert ps).getD 0xFFFF)
  else
    match (if c.pkt.expert then none else policyExpert ps) with
    | some off => refuseAt off
    | none =>
      (match policyBad ps s with
      | some off => no (badParam off) s
      | none => did (setPolicy ps s))

def bodyDegradeLimitSet : Body := fun c s =>
  let v := numAt c.pkt.params 0 4
  if c.pkt.params.length ≠ 4 then no badLen s
  else if s.locked then no (refuse 0x14 0 0xD0018) s
  else if v < 100 ∨ 60000 < v then no (badParam 0) s
  else did (storeReg 0xD0018 (BitVec.ofNat 32 v) s)

end Sys2Proof.Machine
end

