-- ==== Sys2Proof/Machine/Tables.lean ====
section
/-!
DEFINITION. The light-path tables: their delivered contents (R585), the entries in force, and the rules that a version of
each must pass (R229, R238, R288, R290, R291, R502).
-/
namespace Sys2Proof.Machine

/-! Table IDs (R552). -/
abbrev tSCORE : Nat := 1
abbrev tFLOOR : Nat := 6
abbrev tDERATE : Nat := 8
abbrev tCOEF : Nat := 9
abbrev tKEEPOUT : Nat := 10
abbrev tTIMING : Nat := 14

/-- The default derate curve (R502): temperature in 1/16 degree and code. -/
def derateDefault : List (Nat × Nat) :=
  [(1760, 255), (1840, 242), (1920, 229), (2000, 216), (2080, 204), (2240, 153), (2400, 102), (2560, 63)]

/-- Entry e of SCALER_COEF as delivered: the NEAREST preset in every set (R238). -/
def coefDelivered (e : Nat) : Nat :=
  let dir := e / 384 % 2
  let ph := e / 6 % 64
  let k := e % 6
  if dir = 0 then (if k = (if ph < 32 then 2 else 3) then 0x200 else 0)
  else if k = 0 then 0x200 else 0

/-- A plane slot (R281). -/
def planeSlot (n : Nat) : Bool := decide (n % 16 ≠ 15)

/-- Entry e of the vendor Score of a release, the same in every segment (R287): its rows and planes are not listed, and are free within
rules 1 and 2 of R288. DESIGN CHOICE, log entry 101: rules 3 to 5 are not imposed, since no table meets them beside rule 2. -/
def vendorEntry (release : Word) (e : Nat) : Nat :=
  let w := Config.vendorScore release (e % 1024)
  if planeSlot (e % 1024) then 1 + fld w 0 8 % 10 * 16 + fld w 8 8 % 96 * 256 else 0

/-- Entry of a table as delivered; TIMING as after reset. -/
def tabDelivered (id e : Nat) : BitVec 64 :=
  match id with
  | 1 => BitVec.ofNat 64 (vendorEntry Config.fwRelease e)
  | 8 => (match derateDefault[e]? with
    | some (t, c) => BitVec.ofNat 64 (t + c * 2 ^ 16)
    | none => 0)
  | 9 => BitVec.ofNat 64 (coefDelivered e)
  | 10 => 0xFFFFFFFFFFFFFFFF
  | 14 => (regReset (if e = 0 then 0x90020 else 0x90024)).setWidth 64
  | _ => 0

/-- Entry e of a version of a table. -/
def tabAt (id : Nat) (v : TabVer) (e : Nat) : BitVec 64 := spGet (tabDelivered id e) v.ents e

def tabPut (id : Nat) (v : TabVer) (e : Nat) (x : BitVec 64) : TabVer := { v with ents := spSet (tabDelivered id e) v.ents e x }

/-- A stored table by its ID. -/
def Tabs.get (t : Tabs) : Nat → TabVer
  | 1 => t.score
  | 6 => t.floor
  | 8 => t.derate
  | 9 => t.coef
  | _ => t.keepout

def Tabs.put (t : Tabs) (v : TabVer) : Nat → Tabs
  | 1 => { t with score := v }
  | 6 => { t with floor := v }
  | 8 => { t with derate := v }
  | 9 => { t with coef := v }
  | 10 => { t with keepout := v }
  | _ => t

/-- Place of a stored table's count in CfgData.issued. -/
def issuedIdx : Nat → Nat
  | 6 => 0
  | 10 => 1
  | 1 => 2
  | 8 => 3
  | _ => 4

/-! Keep-out rectangles (R229, R230). -/

def keepUnused : BitVec 64 := 0xFFFFFFFFFFFFFFFF

/-- The byte offset of the first fault of a rectangle. -/
def keepBad (w : BitVec 64) : Option Nat :=
  let x0 := fld w 0 16
  let x1 := fld w 16 16
  let y0 := fld w 32 16
  let y1 := fld w 48 16
  if 1535 < x0 then some 0
  else if 1535 < x1 ∨ x1 < x0 then some 2
  else if 767 < y0 then some 4
  else if 767 < y1 ∨ y1 < y0 then some 6
  else none

/-- A rectangle covers a pixel. -/
def keepCovers (w : BitVec 64) (x y : Nat) : Bool :=
  w != keepUnused && decide (fld w 0 16 ≤ x) && decide (x ≤ fld w 16 16) && decide (fld w 32 16 ≤ y) && decide (y ≤ fld w 48 16)

def keepRects (v : TabVer) : List (BitVec 64) := ((List.range 16).map (tabAt tKEEPOUT v)).filter (· != keepUnused)

/-- First failing entry of a KEEPOUT version. -/
def keepoutBad (v : TabVer) : Option Nat :=
  (List.range 16).find? (fun e => tabAt tKEEPOUT v e != keepUnused && (keepBad (tabAt tKEEPOUT v e)).isSome)

/-! Floor, derate curve, coefficients. -/

/-- Floor of a tile (R256). -/
def floorAt (t : Tabs) (tile : Nat) : Nat := fld (tabAt tFLOOR t.floor tile) 0 16

/-- Entry of the derate curve: temperature in 1/16 degree and code (R502). -/
def derateEntry (v : TabVer) (e : Nat) : Int × Nat :=
  let w := tabAt tDERATE v e
  (sgn 16 (fld w 0 16), fld w 16 8)

def derateBad (v : TabVer) : Option Nat :=
  (List.range 8).find? (fun e =>
    let (t, c) := derateEntry v e
    let (pt, pc) := derateEntry v (e - 1)
    fld (tabAt tDERATE v e) 24 8 != 0 || decide (t < -640) || decide (2800 < t) || (decide (0 < e) && (decide (t ≤ pt) || decide (pc < c))))

/-- A coefficient code (R235). -/
def coefVal (c : Nat) : Int :=
  let v := c % 1024
  if v = 0x200 then 512 else if v < 0x200 then v else (v : Int) - 1024

/-- First entry of the first failing phase of a custom set (R238). -/
def coefBad (v : TabVer) (layer dir taps : Nat) : Option Nat :=
  let base := layer * 768 + dir * 384
  ((List.range 64).find? (fun ph =>
    let ws := (List.range 6).map (fun k => fld (tabAt tCOEF v (base + ph * 6 + k)) 0 16)
    ws.any (fun w => decide (1024 ≤ w)) || decide ((ws.map coefVal).foldl (· + ·) 0 ≠ 512) ||
      (decide (dir = 1) && (List.range 6).any (fun k => decide (taps ≤ k) && decide (ws.getD k 0 ≠ 0))))).map (fun ph => base + ph * 6)

/-! Score (R286 to R289). -/

/-- Entry n of segment g: op, plane, row. -/
def scOp (w : Nat) : Nat := w % 16
def scPlane (w : Nat) : Nat := bitsN w 4 4
def scRow (w : Nat) : Nat := bitsN w 8 7


/-- The slots after n, up to and including the next write of the row, cyclically, slot 1023 excluded (rule 5 of R288). -/
def scWeight (tab : Nat → Nat) (n row : Nat) : Nat :=
  let hit (m : Nat) : Bool := decide (scOp (tab m) = 1) && decide (scRow (tab m) = row)
  match (List.range (1023 - n)).find? (fun i => hit (n + 1 + i)) with
  | some i => i + 1
  | none => (match (List.range (n + 1)).find? hit with
    | some m => 1023 - n + m
    | none => 0)

/-- Entry n of one segment's table breaks a rule of R288. -/
def scEntryBad (tab : Nat → Nat) (n : Nat) : Bool :=
  let w := tab n
  if !planeSlot n then decide (w ≠ 0)
  else
    let row := scRow w
    let k := scPlane w
    let before (p : Nat → Bool) : Bool := (List.range n).any (fun m => decide (scOp (tab m) = 1) && decide (scRow (tab m) = row) && p m)
    decide (scOp w ≠ 1) || decide (95 < row) || decide (9 < k) || decide (2 ^ 15 ≤ w) ||
      before (fun m => decide (scPlane (tab m) = k)) ||
      (decide (k ≠ 9) && !before (fun _ => true)) ||
      decide (scWeight tab n row ≠ 2 ^ k)

/-- First failing entry of a SCORE version. -/
def scoreBad (v : TabVer) : Option Nat :=
  (List.range 8192).find? (fun e => scEntryBad (fun n => fld (tabAt tSCORE v (e / 1024 * 1024 + n)) 0 16) (e % 1024))

/-- The custom table is in force (R287). -/
def State.custom (s : State) : Bool := (s.inForce 0x90030).getLsbD 0

/-- Entry of the Score in force. -/
def State.scoreAt (s : State) (e : Nat) : Nat :=
  if s.custom then fld (tabAt tSCORE s.store.tabs.score e) 0 16 else vendorEntry s.release e

/-! Scan timing (R290, R291). -/

def hTimingOk (w : Word) : Bool :=
  let a := fld w 0 8
  let l := fld w 8 8
  let t := fld w 16 8
  let y := fld w 24 8
  decide (a = 48) && decide (2 ≤ l) && decide (l ≤ 8) && decide (2 ≤ t) && decide (t ≤ 8) && decide (6 ≤ y) && decide (y ≤ 12) &&
  decide (a + l + t + y ≤ 64)

def vTimingOk (w : Word) : Bool :=
  let p := fld w 8 4
  let y := fld w 16 4
  decide (fld w 0 7 = 96) && decide (4 ≤ p) && decide (p ≤ 8) && decide (4 ≤ y) && decide (y ≤ 12)

/-! Shadow generations (R588). -/

def State.openGen (s : State) (id : Nat) : Option TabVer := (s.store.openGens.find? (fun g => g.id == id)).map (·.ver)

/-- The version that a new shadow generation copies (R588). -/
def State.newestVer (s : State) (id : Nat) : TabVer :=
  if id = tTIMING then
    match s.store.queue.reverse.find? (fun e => e.tabs.any (fun g => g.id == tTIMING)) with
    | some e => ((e.tabs.find? (fun g => g.id == tTIMING)).map (·.ver)).getD ⟨0, []⟩
    | none => tabPut 14 (tabPut 14 ⟨s.store.timingIssued, []⟩ 0 ((s.inForce 0x90020).setWidth 64)) 1 ((s.inForce 0x90024).setWidth 64)
  else s.nvm.cur.tabs.get id

/-- Number of the next generation of a table, which counts as issued. -/
def issueGen (id : Nat) (s : State) : State × Word :=
  if id = tTIMING then
    (s.onStore (fun t => { t with timingIssued := t.timingIssued + 1 }), s.store.timingIssued + 1)
  else
    let g := s.nvm.cur.issued.getD (issuedIdx id) 0 + 1
    (s.onNvm (fun n => { n with cur := { n.cur with issued := n.cur.issued.set (issuedIdx id) g } }), g)

/-- Entries written into the open shadow generation of a table, which opens with the first write (R588): its number. -/
def writeShadow (id first : Nat) (vals : List (BitVec 64)) (s : State) : State × Word :=
  let (s, v) := match s.openGen id with
    | some v => (s, v)
    | none =>
      let (s', g) := issueGen id s
      (s', { s.newestVer id with gen := g })
  let v := (vals.zipIdx).foldl (fun v e => tabPut id v (first + e.2) e.1) v
  (s.onStore (fun t => { t with openGens := t.openGens.filter (fun g => g.id != id) ++ [⟨id, v⟩] }), v.gen)

end Sys2Proof.Machine
end

