-- ==== Sys2Proof/Machine/Store.lean ====
section
/-!
DEFINITION. The Layer Store: buffers (R183 to R186, R210, R211), WR and FEN packets (R187 to R189, R197), the CV3 snoop
(R512), fences (R196, R197), and the end of scans that a release aborts (R518).
-/
namespace Sys2Proof.Machine

/-! Layer Store bytes: keys are offsets from 0x1000_0000; a byte not listed reads 0 (R184, log entry 5). -/

def storeBase : Nat := 0x10000000
def granule : Nat := 4096

/-- The canonical form of the Layer Store's memory: addresses strictly rising, no byte listed that reads 0 anyway. -/
abbrev Memory.wf (m : List Host.Cell) : Bool := spWf 0 m

def State.storeByte (s : State) (a : Nat) : Byte := spGet 0 s.store.mem a
def State.storeBytes (s : State) (a n : Nat) : Bytes := spGetRun 0 s.store.mem a n
def writeStore (a : Nat) (bs : Bytes) (s : State) : State := s.onStore (fun t => { t with mem := spSetRun 0 t.mem a bs })

/-! Layer records in the SH words of a layer (R193, R252). -/

abbrev ShMap := List (Nat × Word)

def shGet (m : ShMap) (a : Nat) : Word := spGet (regReset a) m a
def shPut (m : ShMap) (a : Nat) (v : Word) : ShMap := spSet (regReset a) m a v

/-- Address of word k of layer n. -/
def lyAddr (n k : Nat) : Nat := 0x60100 + 0x20 * n + 4 * k

/-- The eight words of layer n. -/
def recOf (m : ShMap) (n : Nat) : List Word := (List.range 8).map (fun k => shGet m (lyAddr n k))
def putRec (m : ShMap) (n : Nat) (r : List Word) : ShMap :=
  (List.range 8).foldl (fun m k => shPut m (lyAddr n k) (r.getD k 0)) m

def lyEnable (r : List Word) : Bool := (r.getD 0 0).getLsbD 0
def lyPremult (r : List Word) : Bool := (r.getD 0 0).getLsbD 1
def lyStatic (r : List Word) : Bool := (r.getD 0 0).getLsbD 2
def lySymbol (r : List Word) : Bool := (r.getD 0 0).getLsbD 3
def lyFormat (r : List Word) : Nat := fld (r.getD 0 0) 8 4
def lyZ (r : List Word) : Nat := fld (r.getD 0 0) 16 3
def lyAlpha (r : List Word) : Nat := fld (r.getD 0 0) 24 8
def lyHandle (r : List Word) : BitVec 16 := (r.getD 1 0).setWidth 16
def lyFence (r : List Word) : Nat := fld (r.getD 1 0) 16 6
/-- The layer waits on its fence; of a disabled record the field is never read (R194). -/
def lyFenceEn (r : List Word) : Bool := lyEnable r && (r.getD 1 0).getLsbD 31
def lyOffset (r : List Word) : Nat := (r.getD 2 0).toNat
def lyStride (r : List Word) : Nat := fld (r.getD 3 0) 0 16
def lySrcW (r : List Word) : Nat := fld (r.getD 3 0) 16 16
def lySrcH (r : List Word) : Nat := fld (r.getD 4 0) 0 16
def lyDstX (r : List Word) : Int := sgn 16 (fld (r.getD 4 0) 16 16)
def lyDstY (r : List Word) : Int := sgn 16 (fld (r.getD 5 0) 0 16)
def lyDstW (r : List Word) : Nat := fld (r.getD 5 0) 16 16
def lyDstH (r : List Word) : Nat := fld (r.getD 6 0) 0 16
def lyHFilter (r : List Word) : Nat := fld (r.getD 6 0) 16 8
def lyVFilter (r : List Word) : Nat := fld (r.getD 6 0) 24 8
def lyTaps (r : List Word) : Nat := fld (r.getD 7 0) 0 3

/-- A record without bytes 6 and 7 (R199). -/
def lyKey (r : List Word) : List Word := r.set 1 ((r.getD 1 0) &&& 0xFFFF)

/-- The layers whose records differ (R199). -/
def changedOf (old new : ShMap) : BitVec 8 :=
  BitVec.ofNat 8 (sumL ((selN 8 (fun n => lyKey (recOf old n) != lyKey (recOf new n))).map (2 ^ ·)))

/-! The write-back route (R243). -/

def wbMode (m : ShMap) : Nat := fld (shGet m 0x60030) 0 2
def wbRoute (m : ShMap) : Nat := fld (shGet m 0x60030) 2 2
def wbLum8 (m : ShMap) : Bool := (shGet m 0x60030).getLsbD 4
def wbDecim (m : ShMap) : Nat := fld (shGet m 0x60030) 8 3
def wbHandle (m : ShMap) : BitVec 16 := (shGet m 0x60034).setWidth 16
def wbOffset (m : ShMap) : Nat := (shGet m 0x60038).toNat
def wbStride (m : ShMap) : Nat := fld (shGet m 0x6003C) 0 16
def wbMem (m : ShMap) : Bool := decide (wbMode m ≠ 0) && decide (wbRoute m % 2 = 1)
def wbUpstream (m : ShMap) : Bool := decide (wbMode m ≠ 0) && decide (2 ≤ wbRoute m)
def wbRowBytes (m : ShMap) : Nat := if wbLum8 m then 1536 else 3072

/-! Buffers (R183 to R186). -/

def State.buf (s : State) (i : Nat) : Buf := s.store.bufs.getD i bufReset
def onBuf (i : Nat) (f : Buf → Buf) (s : State) : State := s.onStore (fun t => { t with bufs := t.bufs.set i (f (t.bufs.getD i bufReset)) })

def handleOf (i : Nat) (b : Buf) : BitVec 16 := BitVec.ofNat 16 (i + 256 * b.gen.toNat)

/-- The index of a current handle (R185). -/
def State.current (s : State) (h : BitVec 16) : Option Nat :=
  let i := fld h 0 8
  let b := s.buf i
  if b.live = true ∧ b.gen.toNat = fld h 8 8 then some i else none

/-- A handle is current and no free is pending on its buffer. -/
def State.usable (s : State) (h : BitVec 16) : Bool :=
  match s.current h with
  | some i => !(s.buf i).pendFree
  | none => false

/-- Offset of a buffer in the Layer Store, and its writable extent (R186). -/
def Buf.base (b : Buf) : Nat := b.start * granule

def bankMask (m : BitVec 4) : List Nat := selN 4 (fun n => m.getLsbD n)

/-- Runs of granules that are not free (R183, R184). -/
def State.usedRuns (s : State) : List (Nat × Nat) :=
  (s.store.bufs.filter (fun b => b.live)).map (fun b => (b.start, b.grans)) ++ s.store.zeroing ++
  (bankMask s.store.banksOut).map (fun n => (1024 * n, 1024))

/-- Start of the next used run at or after g; 4096 where there is none. -/
def nextUsed (runs : List (Nat × Nat)) (g : Nat) : Nat :=
  runs.foldl (fun m r => if g ≤ r.1 ∧ r.1 < m then r.1 else m) 4096

/-- The free runs of granules, in no order: each begins at 0 or where a used run ends. -/
def State.freeRuns (s : State) : List (Nat × Nat) :=
  let runs := s.usedRuns
  let starts := (0 :: runs.map (fun r => r.1 + r.2)).eraseDups
  (starts.filter (fun g => decide (g < 4096) && runs.all (fun r => decide (g < r.1) || decide (r.1 + r.2 ≤ g)))).map
    (fun g => (g, nextUsed runs g - g))

/-- The lowest free run of at least n granules. -/
def State.firstFit (s : State) (n : Nat) : Option Nat :=
  (s.freeRuns.filter (fun r => decide (n ≤ r.2))).foldl (fun b r =>
    match b with
    | some g => if r.1 < g then some r.1 else b
    | none => some r.1) none

def bodyBufAlloc : Body := fun c s =>
  let size := numAt c.pkt.params 0 4
  let n := (size + granule - 1) / granule
  if c.pkt.params.length ≠ 4 then no badLen s
  else if size < 1 ∨ 16777216 < size then no (badParam 0) s
  else
    match s.firstFit n, (List.range 256).find? (fun i => !(s.buf i).live) with
    | some g, some i =>
      let b : Buf := { s.buf i with live := true, start := g, grans := n, extent := (size + 3) / 4 * 4, pendFree := false,
                                    snoop := 0, next := 0, acc := 0 }
      didData (leOf 2 (handleOf i b) ++ natLe 4 (storeBase + b.base)) (onBuf i (fun _ => b) s)
    | _, _ => no (refuse0 0x20) s

/-! References to buffers (R188, R210). -/

/-- A set of SH words names a buffer: in an enabled layer, or as the target of its route. -/
def shNames (m : ShMap) (h : BitVec 16) : Bool :=
  (List.range 8).any (fun n => lyEnable (recOf m n) && lyHandle (recOf m n) == h) || (wbMem m && wbHandle m == h)

/-- The latched frame whose bank has not been swapped in names a buffer. -/
def State.jobNames (s : State) (h : BitVec 16) : Bool :=
  match s.carl.job with
  | some j => shNames j.sh h
  | none => false

/-- Something refers to a buffer (R210). -/
def State.referred (s : State) (h : BitVec 16) : Bool :=
  shNames s.store.shadow h || s.store.queue.any (fun e => shNames e.sh h) || shNames s.store.committed h || s.jobNames h

def State.fence (s : State) (n : Nat) : Fence := s.store.fences.getD n fenceFree
def setFence (n : Nat) (f : Fence) (s : State) : State := s.onStore (fun t => { t with fences := t.fences.set n f })

/-- An ARMED fence is SIGNALLED now (R196, R207). -/
def signalFence (n : Nat) (s : State) : State := setFence n { s.fence n with st := .signalled, since := (s.tabor 2).count } s

/-- A buffer is locked (R188). -/
def State.bufLocked (s : State) (h : BitVec 16) : Bool :=
  shNames s.store.committed h || s.jobNames h ||
  s.store.queue.any (fun e => (List.range 8).any (fun n =>
    let r := recOf e.sh n
    e.changed.getLsbD n && lyEnable r && lyHandle r == h && (!lyFenceEn r || decide ((s.fence (lyFence r)).st = .signalled))))

/-! The CV3 snoop (R512, R519, R520). -/

/-- A buffer's signature becomes INVALID. -/
def snoopInvalid (i : Nat) (s : State) : State :=
  if (s.buf i).snoop = 0 then s
  else cvEvent 3 (fun x => { x with b := satAdd max32 x.b 1 }) (onBuf i (fun b => { b with snoop := 0 }) s)

/-- A write of the STORE block into a buffer, from offset rel (R512). -/
def snoopWrite (i rel : Nat) (bs : Bytes) (s : State) : State :=
  if s.rfld 0xE0000 0 1 = 0 then s else
    let b := s.buf i
    let take (acc : Word) : State :=
      let e := rel + bs.length
      if e = b.extent then
        cvEvent 3 (fun x => { x with a := satAdd max32 x.a 1, c := (handleOf i b).setWidth 32, d := crcP1End acc })
          (onBuf i (fun b => { b with snoop := 2, next := e, acc := acc }) s)
      else onBuf i (fun b => { b with snoop := 1, next := e, acc := acc }) s
    if rel = 0 then take (crcP1Ext crcP1Start bs)
    else if b.snoop = 1 ∧ b.next = rel then take (crcP1Ext b.acc bs)
    else snoopInvalid i s

/-- The signature of a buffer, as CV_SIG and frame records report it; while it is not VALID the spec states no value, and the k-th
free value stands (log entry 11). -/
def State.sigOf (s : State) (k : Nat) (b : Buf) : Word := if b.snoop = 2 then crcP1End b.acc else Config.freeWord (s.freeIdx + k)

/-! Scans (R515 to R518). -/

/-- A write into the scanned range (R517). -/
def disturbScan (space a n : Nat) (s : State) : State :=
  match s.cv.scan with
  | some c =>
    if c.space = space ∧ c.start < a + n ∧ a < c.start + c.len ∧ c.disturbed = false then
      record bCV 0 noUnit (s.onCv (fun v => { v with scan := some { c with disturbed := true, told := true } }))
    else s
  | none => s

/-- A scan ends early: SCAN_ABORT and the final reply (R518). -/
def abortScan (r : Res) (s : State) : State :=
  match s.cv.scan with
  | some c =>
    let s := s.onCv (fun v => { v with scan := none, last := c, lastAborted := true })
    let s := cvEvent 5 (fun x => { x with b := satAdd max32 x.b 1, d := BitVec.ofNat 32 c.start }) s
    let s := record bCV 1 noUnit s
    finishAll (fun l => match l.kind with
      | .scan => true
      | _ => false) r s
  | none => s

/-! Release (R185, R210, R211). -/

/-- A buffer is released. -/
def releaseBuf (i : Nat) (s : State) : State :=
  let b := s.buf i
  let lo := b.base
  let hi := lo + b.grans * granule
  let s := onBuf i (fun b => { b with live := false, gen := if b.gen = 255 then 1 else b.gen + 1, pendFree := false, snoop := 0, next := 0, acc := 0 }) s
  let s := s.onStore (fun t => { t with zeroing := t.zeroing ++ [(b.start, b.grans)],
                                        mem := t.mem.filter (fun e => decide (e.1 < lo) || decide (hi ≤ e.1)) })
  match s.cv.scan with
  | some c => if c.space = 0 ∧ c.buf = i then abortScan (accessViol c.start) s else s
  | none => s

/-- Deferred buffers to which nothing refers any more are released (R210). -/
def sweepBufs (s : State) : State :=
  forN 256 0 (fun i s =>
    let b := s.buf i
    if b.live && b.pendFree && !s.referred (handleOf i b) then releaseBuf i s else s) s

/-- Zeroing of the granules from start completes (R184). -/
def granuleZeroedEvent (start : Nat) (s : State) : State :=
  s.onStore (fun t => { t with zeroing := t.zeroing.filter (fun r => r.1 != start) })

def bodyBufFree : Body := fun c s =>
  let h := u16At c.pkt.params 0
  if c.pkt.params.length ≠ 2 then no badLen s
  else
    match s.current h with
    | none => no (refuse 0x14 0 0xFFFFFFFF) s
    | some i =>
      if (s.buf i).pendFree || s.referred h then (onBuf i (fun b => { b with pendFree := true }) s, .done { ok with status := 3 } .none)
      else did (releaseBuf i s)

/-! WR and FEN packets (R187 to R189, R197). -/

/-- A refused WR or FEN (R189, R197). -/
def wrViol (reason addr : Nat) (h linkSeq : BitVec 16) (s : State) : State :=
  let s := (s.onStore (fun t => { t with viol := reason, violAddr := BitVec.ofNat 32 addr, violHandle := h, violSeq := linkSeq })).bump 0x7003C 0 32 1
  violationLink bSTORE 3 linkSeq reason h addr s

/-- The reason of R187 for which a WR is refused; 0 when it is written. -/
def wrReason (addr : Nat) (h : BitVec 16) (n : Nat) (s : State) : Nat :=
  if addr % 4 ≠ 0 ∨ n % 4 ≠ 0 then 6
  else
    match s.current h with
    | none => 1
    | some i =>
      let b := s.buf i
      if b.pendFree then 2
      else if addr < storeBase + b.base ∨ storeBase + b.base + b.extent < addr + n then 3
      else if s.bufLocked h then 4
      else 0

/-- A WR packet handed over by the link layer (R111, R187). DESIGN CHOICE (log entry 50): one that comes while PD7 is off or in retention,
where there is no access (R46), is consumed and writes nothing. -/
def wrEvent (pl : Bytes) (linkSeq : BitVec 16) (s : State) : State :=
  let addr := numAt pl 0 4
  let h := u16At pl 4
  let bs := pl.drop 8
  if !s.pdIs 7 .on then s
  else match wrReason addr h bs.length s with
  | 0 =>
    let i := fld h 0 8
    let a := addr - storeBase
    let s := disturbScan 0 addr bs.length (writeStore a bs s)
    snoopWrite i (a - (s.buf i).base) bs s
  | r => wrViol r addr h linkSeq s

/-- A FEN packet (R196, R197). -/
def fenEvent (pl : Bytes) (linkSeq : BitVec 16) (s : State) : State :=
  let n := numAt pl 0 1 % 64
  match (s.fence n).st with
  | .armed => signalFence n s
  | .timedOut => setFence n fenceFree s
  | _ => wrViol 5 0xFFFFFFFF (BitVec.ofNat 16 n) linkSeq s

/-- A fence is named by a changed layer of a queued entry. -/
def State.fenceQueued (s : State) (n : Nat) : Bool :=
  s.store.queue.any (fun e => (List.range 8).any (fun k =>
    e.changed.getLsbD k && lyFenceEn (recOf e.sh k) && lyFence (recOf e.sh k) == n))

def bodyFenceArm : Body := fun c s =>
  let n := numAt c.pkt.params 0 1
  let t := numAt c.pkt.params 1 1
  if c.pkt.params.length ≠ 2 then no badLen s
  else if 64 ≤ n then no (badParam 0) s
  else if s.fenceQueued n then no (badParam 0) s
  else did (setFence n ⟨.armed, if t = 0 then 3 else t, 0⟩ s)

def bodyFenceSignal : Body := fun c s =>
  let n := numAt c.pkt.params 0 1
  if c.pkt.params.length ≠ 1 then no badLen s
  else if 64 ≤ n then no (badParam 0) s
  else
    match (s.fence n).st with
    | .armed => did (signalFence n s)
    | .timedOut => (setFence n fenceFree s, .done (refuse0 0x19) .none)
    | _ => no (badParam 0) s

end Sys2Proof.Machine
end

