-- ==== Sys2Proof/Machine/Time.lean ====
section
/-!
DEFINITION. The four Tabors (R432 to R459): their advance, corrections, modes, holdover, CAMSYNC, the crystal windows,
TIME_CONFIG, TIME_QUERY and SCHEDULE_AT.
-/
namespace Sys2Proof.Machine

/-! Registers of Tabor n (R457). -/

def tbA (n off : Nat) : Nat := 0x50000 + 0x40 * n + off
def State.tMode (s : State) (n : Nat) : Nat := s.rfld (tbA n 0x38) 0 3
def State.tPort (s : State) (n : Nat) : Nat := s.rfld (tbA n 0x38) 3 2
def State.tAlign (s : State) (n : Nat) : Nat := s.rfld (tbA n 0x38) 5 2
def State.lossMs (s : State) (n : Nat) : Nat := s.rfld (tbA n 0x3C) 0 14
def State.consistNs (s : State) (n : Nat) : Nat := s.rfld (tbA n 0x3C) 14 14 * 10

def onTabor (n : Nat) (f : Tabor → Tabor) (s : State) : State := s.onTab (fun b => { b with t := modAt b.t n f })

/-- EPOCH_OFFSET of the current epoch (R437). -/
def Tabor.off (t : Tabor) : Int := t.offs.headD 0

/-- Tabor time: count plus offset (R437). -/
def Tabor.time (t : Tabor) : Int := (t.ns : Int) + t.off

/-- Limit of the rate register, and of the phase term (R436, R438). -/
def rateLimit : Int := 21474836
def phaseLimit : Int := 2147483

/-- Put a frequency and a phase term in force: the rate within R436; RATE_RANGE when clamped. -/
def setRate (n : Nat) (f p : Int) (s : State) : State :=
  let r := clampI (-rateLimit) rateLimit (f + p)
  let s := onTabor n (fun t => { t with f := f, p := p, rate := r, clamped := decide (r ≠ f + p) }) s
  if r ≠ f + p then record bTABOR 6 (atUnit n) s else s

/-- Frames of F beats (R280, R314). -/
def fBeats (code : Nat) : Nat := 10 * 2 ^ (code % 4)
def State.frameBeats (s : State) : Nat := fBeats (s.rfld 0x90010 0 2)

/-! Tabor 2 (R450 to R452). -/

/-- The alignment period A in 1/3 ns. -/
def State.alignPeriod (s : State) : Nat :=
  match s.tAlign 2 with
  | 0 => 1250000
  | 1 => s.frameBeats * 1250000
  | _ => 300000000

/-- A value reduced into [-a/2, a/2). -/
def reduceMid (v : Int) (a : Nat) : Int :=
  let m := v % (a : Int)
  if 2 * m < (a : Int) then m else m - a

/-- The Tabor that Tabor 2 is slaved to. -/
def State.t2Source (s : State) : Option Nat :=
  match s.tMode 2 with
  | 1 => some 0
  | 2 => some 1
  | _ => none

/-- The phase error of Tabor 2 in 1/3 ns: its count less its target; under MANUAL, what is left of the shift. -/
def State.t2Phi (s : State) : Int :=
  match s.t2Source with
  | some n => reduceMid (3 * (((s.tabor 2).ns : Int) - (s.tabor n).time - (s.rfld 0x5011C 0 27 : Int))) s.alignPeriod
  | none => -(rhe (3 * s.tab.t2Shift) (2 ^ 32))

/-- The phase term of Tabor 2: clamp(-phi / 1 s, 500 ppm), in 2^-32. -/
def State.t2Pull (s : State) : Int := clampI (-phaseLimit) phaseLimit (rhe (-(s.t2Phi) * 2 ^ 32) 3000000000)

/-- The rate of Tabor 2. -/
def State.t2Rate (s : State) : Int :=
  match s.t2Source with
  | some n => clampI (-rateLimit) rateLimit ((s.tabor n).rate + s.t2Pull)
  | none => if s.tMode 2 = 3 then clampI (-rateLimit) rateLimit ((s.tabor 2).f + s.t2Pull) else (s.tabor 2).f

/-- The rate of any Tabor; Tabor 3 always 0 (R436). -/
def State.tRate (s : State) (n : Nat) : Int := if n = 3 then 0 else if n = 2 then s.t2Rate else (s.tabor n).rate

/-- The state code of any Tabor (R435, R450). -/
def State.tState (s : State) (n : Nat) : BitVec 3 :=
  if n = 2 then
    (match s.t2Source with
    | some k => if -300 ≤ s.t2Phi ∧ s.t2Phi ≤ 300 then 2 else if (s.tabor k).state = 3 then 3 else 1
    | none => if s.tMode 2 = 3 then (if -300 ≤ s.t2Phi ∧ s.t2Phi ≤ 300 then 2 else 1) else 0)
  else (s.tabor n).state

/-- What a Tabor adds to its count in one time-base period, in 2^-32 ns (R432). -/
def tickStep (rate : Int) : Nat := (4 * ((2 ^ 32 : Int) + rate)).toNat

/-- One period of the time base: every running Tabor advances (R432), and the keeper runs while VAON is applied (R87). -/
def tickTime (s : State) : State :=
  let adv (n : Nat) : Tabor :=
    let t := s.tabor n
    if t.running then { t with count := t.count + tickStep (s.tRate n), rate := if n = 2 then s.t2Rate else t.rate } else t
  let used := if s.tMode 2 = 3 && (s.tabor 2).running then 4 * s.t2Pull else 0
  let s := s.onTab (fun b => { b with t := (List.range 4).map adv, t2Shift := b.t2Shift - used })
  if s.sys.vaon then s.onSys (fun y => { y with keeper := y.keeper + 1 }) else s

/-! Corrections (R438). -/

/-- Pending SCHEDULE_AT commands whose targets a step has skipped run at once, late, by target and then Ledger order (R454). -/
def LongCmd.target (l : LongCmd) : Nat :=
  match l.kind with
  | .schedule _ g _ _ _ => g
  | _ => 0

def insertBy {α : Type} (lt : α → α → Bool) (a : α) : List α → List α
  | [] => [a]
  | b :: t => if lt a b then a :: b :: t else b :: insertBy lt a t

def sortBy {α : Type} (lt : α → α → Bool) (l : List α) : List α := l.foldl (fun acc a => insertBy lt a acc) []

/-- Order of the queue: arrival time, then path (R154). -/
def qLt (a b : QItem) : Bool := decide (a.t < b.t) || (decide (a.t = b.t) && decide (a.rank < b.rank))

/-- How long ago the count of the Tabor passed the target of a SCHEDULE_AT, in ns. -/
def State.sinceTarget (s : State) (lseq : Word) : Nat :=
  match s.clap.long.find? (fun l => l.ctx.ledger = some lseq) with
  | some l =>
    (match l.kind with
    | .schedule n g _ _ _ => (s.tabor n).ns - g
    | _ => 0)
  | none => 0

/-- A SCHEDULE_AT's embedded command enters the queue; its arrival time is the instant of its target, and now where it is late already
(R154, R454). -/
def enqueueDue (lseq : Word) (late : Bool) (s : State) : State :=
  let born := if late then s.now else s.now - s.sinceTarget lseq
  s.onClap (fun c =>
    { c with queue := insertBy qLt ⟨born, 3, .due lseq, 0⟩ c.queue,
             long := c.long.map (fun l => match l.kind, l.ctx.ledger with
               | .schedule n g op ps _, some q => if q = lseq then { l with kind := .schedule n g op ps late } else l
               | _, _ => l) })

/-- Pending SCHEDULE_AT of Tabor n with targets in [from, to], by target and then in Ledger order; those that wait in the queue have
come due before. -/
def State.dueIn (s : State) (n : Nat) (frm til : Nat) : List LongCmd :=
  sortBy (fun a b => decide (a.target < b.target)) (s.clap.long.filter (fun l => match l.kind, l.ctx.ledger with
    | .schedule k g _ _ _, some q => decide (k = n) && decide (frm ≤ g) && decide (g ≤ til) && !s.clap.queue.any (fun x => x.what = .due q)
    | _, _ => false))

/-- Targets up to the count at which a forward step is taken come due before the step, late by more than 100 us (R454). -/
def runReached (n : Nat) (s : State) : State :=
  (s.dueIn n 0 (s.tabor n).ns).foldl (fun s l => match l.ctx.ledger with
    | some q => enqueueDue q (decide (l.target + 100000 < (s.tabor n).ns)) s
    | none => s) s

/-- Targets of Tabor n in (from, to], which a forward step skips, come due at once and late (R454). -/
def runSkipped (n : Nat) (frm til : Nat) (s : State) : State :=
  (s.dueIn n (frm + 1) til).foldl (fun s l => match l.ctx.ledger with
    | some q => enqueueDue q true s
    | none => s) s

/-- An exchange under way does not survive a step, an epoch change or an apply (R444). -/
def breakExch (n : Nat) (s : State) : State :=
  onTabor n (fun t => { t with exch := t.exch.map (fun e => { e with broken := true }) }) s

/-- The epoch increases by 1 with a new offset (R437, R438, R452). -/
def nextEpoch (n : Nat) (off : Int) (s : State) : State :=
  let s := onTabor n (fun t => { t with epoch := t.epoch + 1, offs := (off :: t.offs).take 8 }) s
  record bTABOR 1 (atUnitVal n (off % 2 ^ 32).toNat) s

/-- Apply a correction c in ns to Tabor 0 or 1 (R438). -/
def correct (n : Nat) (c : Int) (s : State) : State :=
  let s := onTabor n (fun t => { t with last := c }) s
  let t := s.tabor n
  if 1000000 < c then
    let s := runReached n s
    let s := breakExch n (setRate n t.f 0 (onTabor n (fun t => { t with count := t.count + c.toNat * 2 ^ 32 }) s))
    runSkipped n t.ns (t.ns + c.toNat) (record bTABOR 0 (atUnitVal n (c.toNat / 1000)) s)
  else if c < -1000000 then
    nextEpoch n (t.off + c) (breakExch n (setRate n t.f 0 s))
  else setRate n t.f (clampI (-phaseLimit) phaseLimit (rhe (c * 2 ^ 32) 1000000000)) s

/-- The frequency estimate takes the intervals dm and dl of two successive exchanges or edges (R438). -/
def updateF (n : Nat) (dm dl : Int) (s : State) : State :=
  if dl ≤ 0 then s else
    let r := rhe ((dm - dl) * 2 ^ 32) dl.toNat
    onTabor n (fun t => { t with f := t.f + rhe r 8 }) s

/-! Modes (R435, R447, R449, R455). -/

/-- HOLDOVER: the rate is the frequency estimate; left only by a new acquisition (R447, R449). -/
def holdover (n : Nat) (s : State) : State :=
  let s := setRate n (s.tabor n).f 0 s
  let s := onTabor n (fun t => { t with state := 3, holdSince := some s.now, hist := [], consistent := 0, candidate := 0 }) s
  record bTABOR 2 (atUnit n) s

/-- The port in use in mode NET: 1 Envex, 2 CAN FD (R448). -/
def State.portUsed (s : State) (n : Nat) : Nat :=
  match s.tPort n with
  | 0 => if s.link.ls = .active then 1 else 2
  | p => p

/-- The link has entered or left ACTIVE: with port AUTO the port in use changes (R444, R447, R448). -/
def portChanged (s : State) : State :=
  forN 2 0 (fun n s =>
    if s.tMode n = 1 ∧ s.tPort n = 0 then
      let s := breakExch n s
      if (s.tabor n).state = 2 then holdover n s else s
    else s) s

/-- A new acquisition of Tabor 0 or 1 in the mode its register holds (R446, R455). -/
def newAcquisition (n : Nat) (s : State) : State :=
  let m := s.tMode n
  let acq := decide (m = 1) || decide (m = 2)
  let s := setRate n (s.tabor n).f 0 s
  let s := onTabor n (fun t =>
    { t with state := if acq then 1 else 0, exch := none, hist := [], consistent := 0, candidate := 0, master := 0, port := 0,
             holdSince := none, conflictAt := none, lastAccept := none }) s
  if n = 1 then s.onTab (fun b => { b with camE0 := none, camK := 0, camLastEdge := none, camAccepted := 0 }) else s

/-- The configuration of Tabor n changed (R452, R455). -/
def taborCfgChanged (n : Nat) (s : State) : State :=
  if n = 2 then
    nextEpoch 2 0 (s.onTab (fun b => { b with t2Shift := 0 }))
  else newAcquisition n s

/-- A change of F changes the alignment period of Tabor 2 under align FRAME (R452). -/
def frameCfgChanged (s : State) : State := if s.tAlign 2 = 1 then nextEpoch 2 0 s else s

/-- Apply of RATE_ARM and ADJ_ARM in mode MANUAL (R439). -/
def taborApply (n : Nat) (s : State) : State :=
  let rate := sgn 32 (s.reg (tbA n 0x18)).toNat
  let adj := sgn 64 ((s.reg (tbA n 0x20)).toNat + (s.reg (tbA n 0x24)).toNat * 2 ^ 32)
  if n = 2 then
    let s := setRate 2 (clampI (-rateLimit) rateLimit rate) 0 s
    let s := if rate < -rateLimit ∨ rateLimit < rate then record bTABOR 6 (atUnit 2) s else s
    let phi := reduceMid (-(3 * adj)) s.alignPeriod
    nextEpoch 2 0 (s.onTab (fun b => { b with t2Shift := rhe (-phi * 2 ^ 32) 3 }))
  else correct n adj (breakExch n (setRate n rate 0 s))

/-! The time base and the crystal (R433, R473). -/

/-- The time base moves to the crystal or back (R433). -/
def timeBase (crystal : Bool) (s : State) : State :=
  if s.tab.onCrystal = crystal then s
  else record bTABOR 9 noUnit (s.onTab (fun b => { b with onCrystal := crystal }))

def sumI (l : List Int) : Int := l.foldl (· + ·) 0

/-- End of a 1 s window that measured a deviation in ppb (R473). -/
def xtalWindow (ppb : Int) (s : State) : State :=
  let h := s.tab.xtalHist
  let near := decide (-5000 * (16 : Int) ≤ 16 * ppb - sumI h) && decide (16 * ppb - sumI h ≤ 5000 * 16)
  if decide (h.length < 16) || near then
    s.onTab (fun b => { b with xtalPpb := ppb, ratioValid := true, xtalHist := (ppb :: h).take 16,
                               xtalCount := b.xtalCount + 1, xtalLast := s.stamp })
  else s

/-! CAMSYNC (R440, R449). -/

/-- A captured edge in mode CAMSYNC. -/
def camEdge (s : State) : State :=
  let t1 := ((s.tabor 1).ns : Int)
  let per := ((s.reg 0x50120).toNat : Int)
  let win := (s.rfld 0x50124 0 20 : Int)
  match s.tab.camE0 with
  | none =>
    onTabor 1 (fun t => { t with state := if t.state = 3 then 3 else 1, consistent := 0 })
      (s.onTab (fun b => { b with camE0 := some t1, camK := 0, camLastEdge := some t1, camAccepted := 0 }))
  | some e0 =>
    let k := if per ≤ 0 then 0 else (rhe (16 * (t1 - e0)) per.toNat).toNat
    let ek := e0 + rhe ((k : Int) * per) 16
    let prev := s.tab.camLastEdge.getD e0
    let good := decide (-win ≤ t1 - ek) && decide (t1 - ek ≤ win) && decide (per ≤ 32 * (t1 - prev)) && decide (s.tab.camK < k)
    if good then
      let dm := rhe (((k : Int) - s.tab.camK) * per) 16
      let s := updateF 1 dm (t1 - prev) s
      let s := correct 1 (ek - t1) s
      let run := if k = s.tab.camK + 1 then Nat.min 4 (s.tab.camAccepted + 1) else 1
      let s := s.onTab (fun b => { b with camK := k, camLastEdge := some t1, camAccepted := run })
      let s := onTabor 1 (fun t => { t with consistent := run, state := if 3 ≤ run then 2 else t.state,
                                            holdSince := if 3 ≤ run then none else t.holdSince, lastAccept := some s.now }) s
      s.bump 0x50138 0 16 1
    else record bTABOR 8 (atUnit 1) (s.bump 0x50138 16 16 1)

/-- A CAMSYNC edge: the selected edges are captured in every mode (R440, R449). -/
def camsync (falling : Bool) (s : State) : State :=
  if !(s.tabor 1).running || !s.lands || falling != (s.rfld (tbA 1 0x38) 12 1 == 1) then s else
    let s := s.onTab (fun b => { b with camT1 := (s.tabor 1).ns, camT3 := s.now })
    if s.tMode 1 = 2 then camEdge s else s

/-- Three predicted edges have passed without an accepted one (R449). -/
def camLoss (s : State) : State :=
  if s.tMode 1 = 2 ∧ s.tab.camE0.isSome then
    let s := record bTABOR 7 (atUnit 1) s
    holdover 1 (s.onTab (fun b => { b with camE0 := none, camK := 0, camLastEdge := none, camAccepted := 0 }))
  else s

/-- No exchange has been accepted for loss_ms (R447). -/
def netHoldover (n : Nat) (s : State) : State :=
  if s.tMode n = 1 ∧ (s.tabor n).state = 2 then holdover n s else s

/-! TIME_QUERY (R456). -/

def satI32 (v : Int) : Int := clampI (-2147483648) 2147483647 v

/-- What TABORn_LAST_OFFSET and TIME_QUERY give: the last correction, or phi of Tabor 2, in ns. -/
def State.lastOffset (s : State) (n : Nat) : Int := if n = 2 then satI32 (rhe s.t2Phi 3) else satI32 (s.tabor n).last

/-- The rate is at its limit (R436): for a slaved Tabor 2, the sum of its source's rate and its phase term. -/
def State.tClamped (s : State) (n : Nat) : Bool :=
  match (if n = 2 then s.t2Source else none) with
  | some k => let r := (s.tabor k).rate + s.t2Pull; decide (r < -rateLimit) || decide (rateLimit < r)
  | none => (s.tabor n).clamped

def State.slewing (s : State) (n : Nat) : Bool := if n = 2 then decide (s.t2Pull ≠ 0) else decide ((s.tabor n).p ≠ 0)

def taborRecord (s : State) (n : Nat) : Bytes :=
  let t := s.tabor n
  natLe 8 t.ns ++ leOf 2 t.epoch ++
  [BitVec.ofNat 8 (s.tState n).toNat, BitVec.ofNat 8 (bit01 (s.slewing n) + bit01 s.tab.onCrystal * 2 + bit01 (s.tClamped n) * 4)] ++
  leOf 4 (ofSgn 32 (s.tRate n)) ++ leOf 8 (ofSgn 64 t.off) ++ leOf 4 (ofSgn 32 (s.lastOffset n)) ++ leOf 2 t.master ++
  [BitVec.ofNat 8 t.consistent, 0]

def bodyTimeQuery : Body := fun c s =>
  let m := byteAt c.pkt.params 0
  if c.pkt.params.length ≠ 1 then no badLen s
  else if m = 0 ∨ 16 ≤ m.toNat then no (badParam 0) s
  else answer (okData ((selN 4 (fun n => m.getLsbD n)).flatMap (taborRecord s))) s

/-! TIME_CONFIG (R455). -/

/-- Offset of the first field of a TIME_CONFIG record that is out of range or does not apply to its Tabor. -/
def timeConfigBad (ps : Bytes) (profL : Bool) (f : Nat) : Option Nat :=
  let n := numAt ps 0 1
  let mode := numAt ps 1 1
  let b2 := numAt ps 2 1
  let b3 := numAt ps 3 1
  let loss := numAt ps 4 2
  let cons := numAt ps 6 2
  let phase := numAt ps 8 4
  let per := numAt ps 12 4
  let win := numAt ps 16 4
  let cam := decide (n = 1) && decide (mode = 2)
  let a := match bitsN b2 2 2 with
    | 0 => 1250000
    | 1 => f * 1250000
    | _ => 300000000
  let bad2 := if n = 2 then decide (b2 / 16 ≠ 0) || decide (b2 % 4 ≠ 0) || decide (bitsN b2 2 2 = 3)
    else decide (b2 % 4 = 3) || decide (bitsN b2 2 2 ≠ 0) || decide (64 ≤ b2) || (decide (n = 0) && decide (bitsN b2 5 1 = 1)) ||
      (profL && decide (bitsN b2 4 1 = 0))
  if ps.length ≠ 32 then some 0xFFFF
  else if 2 < n then some 0
  else if 3 < mode ∨ (n = 0 ∧ mode = 2) then some 1
  else if bad2 then some 2
  else if (n = 2 ∧ b3 ≠ 0) ∨ 16 ≤ b3 then some 3
  else if (n = 2 ∧ loss ≠ 0) ∨ (n ≠ 2 ∧ (loss < 10 ∨ 10000 < loss)) then some 4
  else if (n = 2 ∧ cons ≠ 0) ∨ (n ≠ 2 ∧ (cons < 1 ∨ 10000 < cons)) then some 6
  else if (n ≠ 2 ∧ phase ≠ 0) ∨ (n = 2 ∧ a < 3 * (phase + 1)) then some 8
  else if (cam = false ∧ per ≠ 0) ∨ (cam = true ∧ (per < 16000000 ∨ 3200000000 < per)) then some 12
  else if (cam = false ∧ win ≠ 0) ∨ (cam = true ∧ (win < 1000 ∨ 500000 < win)) then some 16
  else (findIdx? (fun b => b ≠ 0) (ps.drop 20)).map (· + 20)

def bodyTimeConfig : Body := fun c s =>
  let ps := c.pkt.params
  let n := numAt ps 0 1
  let mode := numAt ps 1 1
  match timeConfigBad ps s.sys.profileL s.frameBeats with
  | some off => no (badParam off) s
  | none =>
    if mode = 3 ∧ c.pkt.expert = false then no (refuse 0x14 1 0xFFFFFFFF) s else
      let b2 := numAt ps 2 1
      let cfg := mode + b2 % 4 * 8 + bitsN b2 2 2 * 32 + bitsN b2 4 1 * 128 + numAt ps 3 1 * 256 + bitsN b2 5 1 * 4096
      let old := s.reg (tbA n 0x38)
      let oldNet := s.reg (tbA n 0x3C)
      let s1 := s.setReg (tbA n 0x38) (BitVec.ofNat 32 cfg)
      let s1 := if n = 2 then s1.setReg 0x5011C (u32At ps 8)
        else s1.setReg (tbA n 0x3C) (BitVec.ofNat 32 (numAt ps 4 2 + numAt ps 6 2 * 2 ^ 14))
      let s1 := if n = 1 ∧ mode = 2 then (s1.setReg 0x50120 (u32At ps 12)).setReg 0x50124 (u32At ps 16) else s1
      let changed := decide (old ≠ s1.reg (tbA n 0x38)) || decide (oldNet ≠ s1.reg (tbA n 0x3C)) ||
        decide (s.reg 0x5011C ≠ s1.reg 0x5011C) || decide (s.reg 0x50120 ≠ s1.reg 0x50120) || decide (s.reg 0x50124 ≠ s1.reg 0x50124)
      did (if changed then taborCfgChanged n s1 else s1)

/-! SCHEDULE_AT (R173, R454). -/

/-- Commands that SCHEDULE_AT may embed: 0x01xx, COMMIT and FENCE_SIGNAL. -/
def mayEmbed (op : Nat) : Bool := (decide (0x100 ≤ op) && decide (op ≤ 0x105)) || decide (op = 0x206) || decide (op = 0x205)

/-- Commands pending under SCHEDULE_AT. -/
def State.scheduled (s : State) : Nat :=
  (s.clap.long.filter (fun l => match l.kind with
    | .schedule _ _ _ _ _ => true
    | _ => false)).length

def bodyScheduleAt : Body := fun c s =>
  let ps := c.pkt.params
  let n := numAt ps 0 1
  let e := u16At ps 2
  let t := s.tabor n
  let back := (t.epoch - e).toNat
  let op := numAt ps 12 2
  if ps.length < 16 then no badLen s
  else if 4 ≤ n then no (badParam 0) s
  else if byteAt ps 1 ≠ 0 then no (badParam 1) s
  else if (n = 3 ∧ back ≠ 0) ∨ t.offs.length ≤ back then no (badParam 2) s
  else if mayEmbed op = false then no (badParam 12) s
  else if numAt ps 14 2 ≠ 0 then no (badParam 14) s
  else if 16 ≤ s.scheduled then no (refuse0 0x20) s
  else
    let target := (numAt ps 4 8 : Int) - t.offs.getD back 0
    let late := decide (target < (t.ns : Int))
    (s, .later (.schedule n target.toNat (u16At ps 12) (ps.drop 16) late))

/-- A pending SCHEDULE_AT whose target has been reached: its embedded command enters the queue; late by more than 100 us (R454). -/
def scheduleDue (lseq : Word) (s : State) : State :=
  match s.clap.long.find? (fun l => l.ctx.ledger = some lseq) with
  | some l =>
    (match l.kind with
    | .schedule n g _ _ late =>
      if s.clap.queue.any (fun q => q.what = .due lseq) then s
      else enqueueDue lseq (late || decide (g + 100000 < (s.tabor n).ns)) s
    | _ => s)
  | none => s

end Sys2Proof.Machine
end

