-- ==== Sys2Proof/Machine/Layers.lean ====
section
/-!
DEFINITION. Layers and commits: LAYER_SET (R192 to R194), LAYER_GROUP (R195), WRITEBACK_SET (R243), COMMIT and its
validation (R199 to R202, R221, R237, R244), the latch (R203 to R208, R231).
-/
namespace Sys2Proof.Machine

/-! Field checks of a layer record (R193, R194). -/

/-- Byte offset and status of the first rule that a record breaks; bytes as LAYER_SET carries them. -/
def recBad (n : Nat) (b : Bytes) (expert : Bool) (s : State) : Option (Nat × Nat) :=
  let r := (List.range 8).map (fun k => u32At b (4 * k))
  let en := lyEnable r
  let video := decide (n < 2)
  let rng (lo hi v : Nat) : Bool := decide (v < lo) || decide (hi < v)
  let irng (lo hi v : Int) : Bool := decide (v < lo) || decide (hi < v)
  let filt (f : Nat) : Bool := if video then decide (3 < f) && decide (f ≠ 0xFF) else decide (f ≠ 0)
  let custom (f : Nat) : Bool := video && decide (f = 0xFF) && !expert
  let rules : List (Nat × Nat × Bool) :=
    [(0, 0x11, decide (16 ≤ numAt b 0 1)),
     (1, 0x11, decide (16 ≤ numAt b 1 1) || (en && rng 0 (if video then 2 else 5) (lyFormat r))),
     (2, 0x11, decide (8 ≤ numAt b 2 1)),
     (4, 0x14, if en then !s.usable (lyHandle r) else decide (lyHandle r ≠ 0)),
     (6, 0x11, decide (64 ≤ numAt b 6 1)), (7, 0x11, decide (numAt b 7 1 % 128 ≠ 0)),
     (8, 0x11, en && decide (lyOffset r % 4 ≠ 0)),
     (12, 0x11, en && (rng 4 65532 (lyStride r) || decide (lyStride r % 4 ≠ 0))),
     (14, 0x11, en && rng 1 (if video then 2048 else 1536) (lySrcW r)),
     (16, 0x11, en && rng 1 (if video then 1024 else 768) (lySrcH r)),
     (18, 0x11, en && irng (-2048) 1535 (lyDstX r)),
     (20, 0x11, en && irng (-1024) 767 (lyDstY r)),
     (22, 0x11, en && (if video then rng 1 12288 (lyDstW r) else decide (lyDstW r ≠ 0))),
     (24, 0x11, en && (if video then rng 1 6144 (lyDstH r) else decide (lyDstH r ≠ 0))),
     (26, if custom (lyHFilter r) then 0x14 else 0x11, en && (filt (lyHFilter r) || custom (lyHFilter r))),
     (27, if custom (lyVFilter r) then 0x14 else 0x11, en && (filt (lyVFilter r) || custom (lyVFilter r))),
     (28, 0x11, decide (8 ≤ numAt b 28 1) || (en && (if video then rng 1 4 (lyTaps r) else decide (lyTaps r ≠ 0)))),
     (29, 0x11, byteAt b 29 != 0), (30, 0x11, byteAt b 30 != 0), (31, 0x11, byteAt b 31 != 0)]
  (rules.find? (fun x => x.2.2)).map (fun x => (x.1, x.2.1))

def onShadow (f : ShMap → ShMap) (s : State) : State := s.onStore (fun t => { t with shadow := f t.shadow })

def bodyLayerSet : Body := fun c s =>
  let ps := c.pkt.params
  let n := numAt ps 0 1
  let b := ps.drop 4
  if ps.length ≠ 36 then no badLen s
  else if 8 ≤ n then no (badParam 0) s
  else
    match findIdx? (fun x => x != 0) (sliceB ps 1 3) with
    | some i => no (badParam (1 + i)) s
    | none =>
      match recBad n b c.pkt.expert s with
      | some (off, st) => no (refuse st (off + 4) (lyAddr n (off / 4))) s
      | none => did (onShadow (fun m => putRec m n ((List.range 8).map (fun k => u32At b (4 * k)))) s)

/-- Group masks (R195, R251). -/
def groupsOf (m : ShMap) : List (BitVec 8) := (List.range 4).map (fun g => (BitVec.ofNat 8 (fld (shGet m 0x60060) (8 * g) 8)))

def bodyLayerGroup : Body := fun c s =>
  let g := numAt c.pkt.params 0 1
  let k : BitVec 8 := byteAt c.pkt.params 1
  if c.pkt.params.length ≠ 2 then no badLen s
  else if 4 ≤ g then no (badParam 0) s
  else
    let gs := ((groupsOf s.store.shadow).map (fun m => m &&& ~~~k)).set g k
    did (onShadow (fun m => shPut m 0x60060 (BitVec.ofNat 32 (leNat gs))) s)

/-! WRITEBACK_SET (R243). -/

/-- Byte offsets of the fields of a route record, and which are out of range (R243). -/
def routeRules (ps : Bytes) : List (Nat × Bool) :=
  let b0 := numAt ps 0 1
  let mode := b0 % 4
  let route := b0 / 4 % 4
  let row := if b0 / 16 % 2 = 1 then 1536 else 3072
  let stride := numAt ps 12 2
  [(0, decide (mode = 3) || (decide (mode ≠ 0) && decide (route = 0)) || decide (32 ≤ b0)), (1, decide (8 ≤ numAt ps 1 1)),
    (2, byteAt ps 2 != 0), (3, byteAt ps 3 != 0), (4, decide (route % 2 = 0) && decide (numAt ps 4 2 ≠ 0)),
    (6, byteAt ps 6 != 0), (7, byteAt ps 7 != 0), (8, decide (numAt ps 8 4 % 4 ≠ 0)),
    (12, decide (stride % 4 ≠ 0) || decide (stride < row)), (14, byteAt ps 14 != 0), (15, byteAt ps 15 != 0)]

def bodyWritebackSet : Body := fun c s =>
  let ps := c.pkt.params
  if ps.length ≠ 16 then no badLen s
  else
    match firstBad (routeRules ps) with
    | some off => no (badParam off) s
    | none =>
      if byteAt ps 1 ≠ 0 ∧ c.pkt.expert = false then no (refuse 0x14 1 0x60030) s
      else
        let ws := [(0x60030, numAt ps 0 2), (0x60034, numAt ps 4 2), (0x60038, numAt ps 8 4), (0x6003C, numAt ps 12 2)]
        did (onShadow (fun m => ws.foldl (fun m w => shPut m w.1 (BitVec.ofNat 32 w.2)) m) s)

/-! Geometry and load (R192, R221, R225). -/

/-- Bits per pixel of a format (R191). -/
def formatBits : Nat → Nat
  | 1 => 16
  | 2 => 16
  | 4 => 1
  | _ => 8

def lyRowBytes (r : List Word) : Nat := (lySrcW r * formatBits (lyFormat r) + 7) / 8

/-- Length of the part of [d, d + n) within [0, m). -/
def clipLen (d : Int) (n m : Nat) : Nat := ((if d + n < (m : Int) then d + n else (m : Int)) - (if d < 0 then 0 else d)).toNat

/-- Width and height that a layer places on the canvas. -/
def lyW (n : Nat) (r : List Word) : Nat := if n < 2 then lyDstW r else lySrcW r
def lyH (n : Nat) (r : List Word) : Nat := if n < 2 then lyDstH r else lySrcH r

/-- Covered canvas pixels of a layer (R221). -/
def covered (n : Nat) (r : List Word) : Nat :=
  if lyEnable r then clipLen (lyDstX r) (lyW n r) 1536 * clipLen (lyDstY r) (lyH n r) 768 else 0

/-- Load of the records in force, in layer-pixels/s (R221). -/
def loadOf (m : ShMap) (f : Nat) : Nat := 2400 / f * sumL ((List.range 8).map (fun n => covered n (recOf m n)))

/-- Capacity of the lanes in service (R221). -/
def State.capacity (s : State) : Nat := 800000000 * (lanesCount s.carl.inService)
where lanesCount (m : BitVec 4) : Nat := (selN 4 (fun n => m.getLsbD n)).length

/-- A layer's fence could still hold it back: it has one and that is not SIGNALLED (R204). -/
def State.fenceOpen (s : State) (r : List Word) : Bool := lyFenceEn r && decide ((s.fence (lyFence r)).st ≠ .signalled)

/-- The records that each layer may have after an entry, from those it may have before it. `cand` are the layers that the entry still
changes for certain; one that may hold an older record changes too (R199). A layer that its own fence or that of a changed mate
could hold back may keep what it had (R204, R205). -/
def keepStep (s : State) (sh : ShMap) (cand : BitVec 8) (only : Bool) (poss : List (List (List Word))) : List (List (List Word)) :=
  let moves (k : Nat) : Bool :=
    cand.getLsbD k || (!only && (poss.getD k []).any (fun r => lyKey r != lyKey (recOf sh k)))
  (List.range 8).map (fun n =>
    let mates := (groupsOf sh).foldl (fun a g => if g.getLsbD n then a ||| g else a) (BitVec.twoPow 8 n)
    let held := (List.range 8).any (fun k => mates.getLsbD k && moves k && s.fenceOpen (recOf sh k))
    if moves n then (if held then poss.getD n [] else []) ++ [recOf sh n] else poss.getD n [])

/-- The records that each layer may have at the latch of a commit of the shadow (R201): of an entry already latched only the waiting
layers are open. -/
def mayHave (sh : ShMap) (s : State) : List (List (List Word)) :=
  let prev := (s.store.queue.getLast?.map (·.sh)).getD s.store.committed
  let start := (List.range 8).map (fun n => [recOf s.store.committed n])
  let q := s.store.queue.foldl (fun p e => keepStep s e.sh (if e.latched then e.waiting else e.changed) e.latched p) start
  keepStep s sh (changedOf prev sh) false q

/-- Load counted as check 8 counts it (R201): a layer that could keep an older record counts at the largest load among its records in
the committed state, in every queued entry and in the shadow. -/
def commitLoad (sh : ShMap) (s : State) : Nat :=
  let all (n : Nat) : List (List Word) := recOf s.store.committed n :: (s.store.queue.map (fun e => recOf e.sh n) ++ [recOf sh n])
  let poss := mayHave sh s
  2400 / s.frameBeats * sumL ((List.range 8).map (fun n =>
    if (poss.getD n []).any (fun r => lyKey r != lyKey (recOf sh n)) then maxL ((all n).map (covered n)) else covered n (recOf sh n)))

/-! COMMIT (R200). -/

/-- The SH words of the shadow as a commit takes them: an open TIMING generation stands for the timing registers. -/
def State.commitSh (s : State) : ShMap :=
  match s.openGen tTIMING with
  | some v => shPut (shPut s.store.shadow 0x90020 ((tabAt 14 v 0).setWidth 32)) 0x90024 ((tabAt 14 v 1).setWidth 32)
  | none => s.store.shadow

/-- Taps that a vertical preset needs (R237). -/
def tapsNeeded : Nat → Nat
  | 0 => 1
  | 1 => 2
  | 2 => 4
  | 3 => 4
  | _ => 0

/-- A custom set that a layer of the shadow names (R238). -/
def coefCheck (sh : ShMap) (v : TabVer) : Option Nat :=
  ((List.range 4).filterMap (fun i =>
    let n := i / 2
    let r := recOf sh n
    if lyEnable r && decide ((if i % 2 = 0 then lyHFilter r else lyVFilter r) = 0xFF) then coefBad v n (i % 2) (lyTaps r) else none)).head?

/-- The table version that the commit carries, or the newest accepted one. -/
def State.verFor (s : State) (id : Nat) : TabVer := (s.openGen id).getD (s.newestVer id)

/-- Check 9 for the write-back route (R244). -/
def routeCheck (sh : ShMap) (s : State) : Option Nat :=
  if wbMem sh then
    let h := wbHandle sh
    if !s.usable h then some 0x60034
    else if (s.buf (fld h 0 8)).extent < wbOffset sh + wbStride sh * 767 + wbRowBytes sh then some 0x60038
    else if (List.range 8).any (fun n =>
        let names (m : ShMap) : Bool := lyEnable (recOf m n) && lyHandle (recOf m n) == h
        names sh || names s.store.committed || s.store.queue.any (fun e => names e.sh)) then some 0x60034
    else none
  else none

/-- Check 9 (R200): the address it names. -/
def check9 (sh : ShMap) (s : State) : Option Nat :=
  let ly := (List.range 2).find? (fun n => lyEnable (recOf sh n) && decide (lyTaps (recOf sh n) < tapsNeeded (lyVFilter (recOf sh n))))
  let gov := fld (shGet sh 0xC0024) 0 14
  match routeCheck sh s with
  | some a => some a
  | none =>
    if let some n := ly then some (lyAddr n 6)
    else if !hTimingOk (shGet sh 0x90020) then some 0x90020
    else if !vTimingOk (shGet sh 0x90024) then some 0x90024
    else if gov < 1000 ∨ 16000 < gov then some 0xC0024
    else if let some e := (s.openGen tSCORE).bind scoreBad then some (0x01000000 + e)
    else if let some e := (s.openGen tDERATE).bind derateBad then some (0x08000000 + e)
    else if let some e := coefCheck sh (s.verFor tCOEF) then some (0x09000000 + e)
    else if let some e := (s.openGen tKEEPOUT).bind keepoutBad then some (0x0A000000 + e)
    else none

/-- The first check of R200 that a shadow fails: its status and the address named. -/
def commitCheck (sh : ShMap) (s : State) : Option (Nat × Nat) :=
  let lit := s.sys.st.lights
  let unlit := decide (s.sys.st = .ready) || (decide (s.sys.st = .service) && !s.mal.scanning)
  let en := selN 8 (fun n => lyEnable (recOf sh n))
  let prev := (s.store.queue.getLast?.map (·.sh)).getD s.store.committed
  let ch := changedOf prev sh
  let score := (s.openGen tSCORE).isSome || (shGet sh 0x90030).getLsbD 0 != (shGet prev 0x90030).getLsbD 0
  if lit = true ∧ fld (shGet sh 0x90020) 0 8 ≠ fld (s.inForce 0x90020) 0 8 then some (0x12, 0x90020)
  else if lit = true ∧ fld (shGet sh 0x90024) 0 7 ≠ fld (s.inForce 0x90024) 0 7 then some (0x12, 0x90024)
  else if score && !unlit then some (0x12, 0x90030)
  else if let some n := en.find? (fun n => !s.usable (lyHandle (recOf sh n))) then some (0x14, lyAddr n 1)
  else if let some (n, k) := (en.filterMap (fun n =>
      let r := recOf sh n
      let row := lyRowBytes r
      if lyStride r < row then some (n, 3)
      else if (s.buf (fld (lyHandle r) 0 8)).extent < lyOffset r + lyStride r * (lySrcH r - 1) + row then some (n, 2)
      else none)).head? then some (0x18, lyAddr n k)
  else if let some (n, k) := (en.filterMap (fun n =>
      let r := recOf sh n
      let okR (d w : Nat) : Bool := decide (w ≤ 4 * d) && decide (d ≤ 8 * w)
      if 2 ≤ n then none
      else if !okR (lyDstW r) (lySrcW r) then some (n, 5)
      else if !okR (lyDstH r) (lySrcH r) then some (n, 6)
      else none)).head? then some (0x18, lyAddr n k)
  else if let some n := en.find? (fun n => decide (n < 2) && decide (6144 < lyTaps (recOf sh n) * lySrcW (recOf sh n))) then
    some (0x13, lyAddr n 7)
  else if let some n := en.find? (fun n => en.any (fun k => decide (k < n) && decide (lyZ (recOf sh k) = lyZ (recOf sh n)))) then
    some (0x18, lyAddr n 0)
  else if let some n := (List.range 8).find? (fun n =>
      let r := recOf sh n
      ch.getLsbD n && lyFenceEn r &&
        (s.fenceQueued (lyFence r) || !(decide ((s.fence (lyFence r)).st = .armed) || decide ((s.fence (lyFence r)).st = .signalled)))) then
    some (0x18, lyAddr n 1)
  else if s.capacity < commitLoad sh s then some (0x18, 0x60014)
  else (check9 sh s).map (fun a => (0x18, a))

/-- Ledger order of two numbers, which wrap (R158). -/
def ledgerBefore (a b : Word) : Bool := a != b && decide ((b - a).toNat < 2 ^ 31)

/-- The stored tables take the versions of an accepted entry (R585). A keep-out table set later in Ledger order stays. -/
def storeTabs (lseq : Word) (gens : List OpenGen) (custom : Bool) (s : State) : State :=
  let old := s.nvm.cur.tabs
  let later := match s.nvm.cur.keepSeq with
    | some k => ledgerBefore lseq k
    | none => false
  let new := { gens.foldl (fun t g => if g.id == tKEEPOUT && later then t else t.put g.ver g.id) old with custom := custom }
  let s := if new = old then s else saveCfg (fun d => { d with tabs := new }) s
  if gens.any (fun g => g.id == tFLOOR) then
    touchMram 0x48B000 0x4800 (s.onNvm (fun n => { n with floorRegion := new.floor.ents }))
  else s

/-- An accepted commit becomes an entry (R200, R585, R588). -/
def acceptCommit (lseq : Word) (s : State) : State :=
  let sh := s.commitSh
  let prev := (s.store.queue.getLast?.map (·.sh)).getD s.store.committed
  let e : QEntry := { lseq := lseq, sh := sh, tabs := s.store.openGens, changed := changedOf prev sh, latched := false, waiting := 0, age := 0,
                      lateAny := false, since := (s.tabor 2).count }
  let s := storeTabs lseq s.store.openGens ((shGet sh 0x90030).getLsbD 0) s
  let s := s.onStore (fun t => { t with queue := t.queue ++ [e], shadow := sh, openGens := [] })
  if s.sys.st = .still then startStillExit s else s

def bodyCommit : Body := fun c s =>
  if c.pkt.params.length ≠ 1 then no badLen s
  else if byteAt c.pkt.params 0 ≠ 0 then no (badParam 0) s
  else if 4 ≤ s.store.queue.length then no (refuse0 0x17) s
  else
    match commitCheck s.commitSh s with
    | some (st, a) => no (refuse st 0xFFFF a) s
    | none =>
      let l := c.ledger.getD 0
      didData (leOf 4 l) (acceptCommit l s)

/-! KEEPOUT_SET (R229, R231). -/

def bodyKeepoutSet : Body := fun c s =>
  let ps := c.pkt.params
  let n := numAt ps 0 1
  let ws := (List.range n).map (fun i => BitVec.ofNat 64 (numAt ps (4 + 8 * i) 8))
  if ps.length < 4 then no badLen s
  else if 16 < n then no (badParam 0) s
  else if numAt ps 1 3 ≠ 0 then no (badParam ((findIdx? (fun x => x != 0) (sliceB ps 1 3)).getD 0 + 1)) s
  else if ps.length ≠ 4 + 8 * n then no badLen s
  else if s.locked then no (refuse 0x14 0xFFFF 0x0A000000) s
  else
    match (ws.zipIdx).findSome? (fun e => (keepBad e.1).map (fun _ => 4 + 8 * e.2)) with
    | some off => no (badParam off) s
    | none =>
      let (s, g) := issueGen tKEEPOUT s
      let v := (ws.zipIdx).foldl (fun v e => tabPut tKEEPOUT v e.2 e.1) ⟨g, []⟩
      let s := saveCfg (fun d => { d with tabs := { d.tabs with keepout := v }, keepSeq := some (c.ledger.getD 0) }) s
      let s := s.onStore (fun t => { t with keepNext := some (c.ledger.getD 0, v) })
      didData (leOf 4 g) (if s.sys.st = .still then startStillExit s else s)

/-! The latch (R203 to R206). -/

/-- The changed layers of the entries that are not latched yet: against the entry before, of the oldest against the committed state
(R199). -/
def renewFrom (prev : ShMap) : List QEntry → List QEntry
  | [] => []
  | e :: q => (if e.latched then e else { e with changed := changedOf prev e.sh }) :: renewFrom e.sh q

def renewQueue (s : State) : State := s.onStore (fun t => { t with queue := renewFrom t.committed t.queue })

/-- An entry retires (R198, R206). -/
def retire (e : QEntry) (s : State) : State :=
  let s := (List.range 8).foldl (fun s n =>
    let r := recOf e.sh n
    if e.changed.getLsbD n && lyFenceEn r && decide ((s.fence (lyFence r)).st ≠ .timedOut) then setFence (lyFence r) fenceFree s else s) s
  let s := renewQueue (s.onStore (fun t => { t with queue := t.queue.drop 1 }))
  let t2 := (s.tabor 2).time
  postEvent bSTORE 0 5 (leOf 4 e.lseq ++ [if e.lateAny then 4 else 0, 0, 0, 0] ++ leOf 8 (ofSgn 64 t2)) s

/-- The records of some layers of an entry come into force. -/
def flip (e : QEntry) (m : BitVec 8) (s : State) : State :=
  s.onStore (fun t => { t with committed := (selN 8 (fun n => m.getLsbD n)).foldl (fun c n => putRec c n (recOf e.sh n)) t.committed })

/-- A fence is SIGNALLED for a boundary now: one signalled at the same Tabor 2 instant counts for the next (R207). -/
def State.signalled (s : State) (k : Nat) : Bool :=
  decide ((s.fence k).st = .signalled) && decide ((s.fence k).since ≠ (s.tabor 2).count)

/-- A layer of an entry whose fence is not yet signalled (R204). -/
def State.holdsLayer (s : State) (e : QEntry) (n : Nat) : Bool :=
  lyFenceEn (recOf e.sh n) && !s.signalled (lyFence (recOf e.sh n))

/-- Tables of a version list come into force (R231, R287). -/
def putTabs (e : QEntry) (s : State) : State :=
  let tabs := e.tabs.foldl (fun t g => t.put g.ver g.id) s.store.tabs
  let custom := (shGet e.sh 0x90030).getLsbD 0
  let s := s.onStore (fun t => { t with tabs := { tabs with custom := custom } })
  match s.store.keepNext with
  | some (l, v) =>
    let own := e.tabs.any (fun g => g.id == tKEEPOUT)
    s.onStore (fun t => { t with keepNext := none, tabs := if own && ledgerBefore l e.lseq then t.tabs else { t.tabs with keepout := v } })
  | none => s

/-- A KEEPOUT_SET acts at the next latch (R171). -/
def putKeepNext (s : State) : State :=
  match s.store.keepNext with
  | some (_, v) => s.onStore (fun t => { t with keepNext := none, tabs := { t.tabs with keepout := v } })
  | none => s

/-- The head entry is latched (R203, R204): the layers that wait. -/
def latchEntry (e : QEntry) (s : State) : State :=
  let own := BitVec.ofNat 8 (sumL ((selN 8 (fun n => e.changed.getLsbD n && s.holdsLayer e n)).map (2 ^ ·)))
  let wait := (groupsOf e.sh).foldl (fun w g => if g &&& own = 0 then w else w ||| (g &&& e.changed)) own
  let old := s.store.committed
  let keep := selN 8 (fun n => wait.getLsbD n)
  let s := s.onStore (fun t =>
    { t with committed := keep.foldl (fun c n => putRec c n (recOf old n)) e.sh, commitSeq := e.lseq,
             queue := match t.queue with
               | _ :: q => { e with latched := true, waiting := wait, age := 0 } :: q
               | [] => [] })
  let s := putTabs e s
  if wait = 0 then retire e s else s

/-- The layers that flip or are late-faulted together with layer n: its group's waiting layers, or itself (R205). -/
def unitOf (e : QEntry) (n : Nat) : BitVec 8 :=
  match (groupsOf e.sh).find? (fun g => g.getLsbD n) with
  | some g => g &&& e.waiting
  | none => BitVec.twoPow 8 n &&& e.waiting

/-- One waiting layer is late-faulted (R205). -/
def lateFault (e : QEntry) (n : Nat) (s : State) : State :=
  let r := recOf e.sh n
  let s := if lyFenceEn r then setFence (lyFence r) { fenceFree with st := .timedOut } s else s
  let s := record bSTORE 4 (atUnit n) s
  postEvent bSTORE ((s.flts bSTORE).sev 4) 6 [BitVec.ofNat 8 (lyFence r), BitVec.ofNat 8 n] s

/-- A latching boundary at which the head entry has layers waiting (R205): the layers late-faulted. -/
def resolveEntry (e : QEntry) (s : State) : State × BitVec 8 :=
  let waiting := selN 8 (fun n => e.waiting.getLsbD n)
  let open_ (n : Nat) : List Nat := (selN 8 (fun k => (unitOf e n).getLsbD k)).filter (s.holdsLayer e)
  let go := waiting.filter (fun n => (open_ n).isEmpty)
  let late := waiting.filter (fun n => (open_ n).any (fun k => decide ((s.fence (lyFence (recOf e.sh k))).timeout ≤ e.age)))
  let mask (l : List Nat) : BitVec 8 := BitVec.ofNat 8 (sumL (l.map (2 ^ ·)))
  let e' := { e with waiting := e.waiting &&& ~~~(mask go) &&& ~~~(mask late), lateAny := e.lateAny || !late.isEmpty }
  let s := flip e (mask go) s
  let s := late.foldl (fun s n => lateFault e n s) s
  let s := s.onStore (fun t => { t with queue := match t.queue with
    | _ :: q => e' :: q
    | [] => [] })
  let s := putKeepNext s
  (if e'.waiting = 0 then retire e' s else s, mask late)

/-- What a latching boundary does to the committed state (R203): the layers late-faulted. -/
def latchStep (s : State) : State × BitVec 8 :=
  match s.store.queue with
  | e :: _ =>
    if e.latched then resolveEntry e s
    else if e.since = (s.tabor 2).count then (putKeepNext s, 0)
    else (latchEntry e s, 0)
  | [] => (putKeepNext s, 0)

/-- Every frame boundary ages the latched entry (R205). -/
def ageEntry (s : State) : State :=
  s.onStore (fun t => { t with queue := match t.queue with
    | e :: q => (if e.latched then { e with age := e.age + 1 } else e) :: q
    | [] => [] })

/-- Layers waiting on fences (R215). -/
def State.waitingMask (s : State) : BitVec 8 :=
  match s.store.queue with
  | e :: _ => if e.latched then e.waiting else 0
  | [] => 0

end Sys2Proof.Machine
end

