-- ==== Sys2Proof/Machine/Compose.lean ====
section
/-!
DEFINITION. The Carillon (R217 to R253): sampling, scalers and blending of a band, bands on compose lanes, residue checks,
the Flat Cache, write-back, and the start of a frame at a latching boundary.
-/
namespace Sys2Proof.Machine

/-! Source pixels (R191, R192, R224). -/

/-- A byte of a layer's source at an offset from its first row. -/
def srcByte (s : State) (r : List Word) (off : Nat) : Nat :=
  (s.storeByte ((s.buf (fld (lyHandle r) 0 8)).base + lyOffset r + off)).toNat

/-- Luminance (lum24) and alpha (alpha16) of source pixel (u, v). -/
def srcPixel (s : State) (r : List Word) (u v : Nat) : Nat × Nat :=
  let row := v * lyStride r
  let b (i : Nat) : Nat := srcByte s r (row + i)
  match lyFormat r with
  | 0 => (b u * 257 * 256, 65535)
  | 1 => ((b (2 * u) + 256 * b (2 * u + 1)) * 256, 65535)
  | 2 => (b (2 * u) * 257 * 256, b (2 * u + 1) * 257)
  | 3 => (if lyPremult r then b u * 257 * 256 else 0xFFFF00, b u * 257)
  | 4 => if b (u / 8) / 2 ^ (u % 8) % 2 = 1 then (0xFFFF00, 65535) else (0, 0)
  | _ => (b u / 16 * 4369 * 256, b u % 16 * 4369)

/-! Video scalers (R232 to R238). -/

/-- Position and phase of destination index i (R232). -/
def scalePos (i src dst : Nat) : Int × Nat :=
  let p : Int := ((2 * i + 1) * src * 65536 : Nat) / ((2 * dst : Nat) : Int) - 32768
  let n := p / 65536
  (n, ((p - n * 65536) / 1024).toNat)

/-- Weights of the cubic presets at n - 1 to n + 2: coefficients of t^3, t^2, t, 1, and the divisor (R236). -/
def cubicRows (id : Nat) : List (Int × Int × Int × Int) × Nat :=
  if id = 2 then ([(-1, 2, -1, 0), (3, -5, 0, 2), (-3, 4, 1, 0), (1, -1, 0, 0)], 2)
  else ([(-1, 3, -3, 1), (3, -6, 0, 4), (-3, 3, 3, 1), (1, 0, 0, 0)], 6)

def cubicTap (d : Nat) (ph : Nat) (c : Int × Int × Int × Int) : Int :=
  rhe (512 * (c.1 * (ph * ph * ph : Nat) + c.2.1 * (64 * ph * ph : Nat) + c.2.2.1 * (4096 * ph : Nat) + c.2.2.2 * 262144)) (262144 * d)

/-- The six taps of a preset filter at n - 2 to n + 3 (R236). -/
def presetTaps (id ph : Nat) : List Int :=
  let centre := if ph < 32 then 2 else 3
  match id with
  | 0 => (List.replicate 6 0).set centre 512
  | 1 => [0, 0, 512 - 8 * (ph : Int), 8 * (ph : Int), 0, 0]
  | _ =>
    let (rows, d) := cubicRows id
    let taps := 0 :: rows.map (cubicTap d ph) ++ [0]
    taps.set centre (taps.getD centre 0 + (512 - sumI taps))

/-- Coefficients of a custom set at a phase (R238). -/
def customTaps (t : Tabs) (layer dir ph : Nat) : List Int :=
  (List.range 6).map (fun k => coefVal (fld (tabAt tCOEF t.coef (layer * 768 + dir * 384 + ph * 6 + k)) 0 16))

/-- First row of the vertical window (R233). -/
def vFirst (taps : Nat) (n : Int) (ph : Nat) : Int := if taps = 1 then (if 32 ≤ ph then n + 1 else n) else if taps = 2 then n else n - 1

/-- Horizontal coefficients (R234, R236). -/
def hTaps (t : Tabs) (layer : Nat) (r : List Word) (ph : Nat) : List Int :=
  if lyHFilter r = 0xFF then customTaps t layer 0 ph else presetTaps (lyHFilter r) ph

/-- Vertical coefficients by window position: a preset's tap belongs to its source row (R233, R236). -/
def vTaps (t : Tabs) (layer : Nat) (r : List Word) (n : Int) (ph : Nat) : List Int :=
  let taps := lyTaps r
  let l := if lyVFilter r = 0xFF then customTaps t layer 1 ph
    else (presetTaps (lyVFilter r) ph).drop (vFirst taps n ph - (n - 2)).toNat
  l.take taps

def clampIdx (n : Nat) (i : Int) : Nat := (clampI 0 ((n : Int) - 1) i).toNat

def dotI (a b : List Int) : Int := sumI (List.zipWith (· * ·) a b)

/-- The scaler's output at destination position (i, j) of video layer n (R234). -/
def scaled (s : State) (t : Tabs) (n : Nat) (r : List Word) (i j : Nat) : Nat × Nat :=
  let (nh, ph) := scalePos i (lySrcW r) (lyDstW r)
  let (nv, pv) := scalePos j (lySrcH r) (lyDstH r)
  let cv := vTaps t n r nv pv
  let ch := hTaps t n r ph
  let m0 := vFirst (lyTaps r) nv pv
  let cols := (List.range 6).map (fun (k : Nat) => (List.range (lyTaps r)).map (fun (q : Nat) =>
    srcPixel s r (clampIdx (lySrcW r) (nh - 2 + (k : Nat))) (clampIdx (lySrcH r) (m0 + (q : Nat)))))
  let narrow (v : Int) : Int := clampI 0 524280 (rhe v 64)
  let vs := cols.map (fun c => narrow (dotI cv (c.map (fun p => ((p.1 / 256 : Nat) : Int)))))
  let ws := cols.map (fun c => narrow (dotI cv (c.map (fun p => (p.2 : Int)))))
  ((clampI 0 0xFFFF00 (rhe (dotI ch vs) 16)).toNat,
   if lyFormat r = 2 then (clampI 0 65535 (rhe (dotI ch ws) 4096)).toNat else 65535)

/-! Blending (R225 to R228, R230). -/

/-- A layer's sample at a canvas pixel; none where it does not cover it (R225). -/
def sample (s : State) (t : Tabs) (n : Nat) (r : List Word) (x y : Nat) : Option (Nat × Nat) :=
  let i := (x : Int) - lyDstX r
  let j := (y : Int) - lyDstY r
  if 0 ≤ i ∧ i < lyW n r ∧ 0 ≤ j ∧ j < lyH n r then
    some (if n < 2 then scaled s t n r i.toNat j.toNat else srcPixel s r i.toNat j.toNat)
  else none

/-- One layer over the accumulator: the new accumulator, and whether it saturated (R227). -/
def blend (r : List Word) (sa : Nat × Nat) (c : Nat) : Nat × Bool :=
  let la := lyAlpha r * 257
  let ae := rheN (sa.2 * la) 65535
  if lyPremult r then
    let t := rheN (sa.1 * la) 65535 + rheN (c * (65535 - ae)) 65535
    if 0xFFFF00 < t then (0xFFFF00, true) else (t, false)
  else (rheN (sa.1 * ae + c * (65535 - ae)) 65535, false)

/-- Layers over an accumulator at a pixel, bottom first; a symbol layer is skipped in a keep-out rectangle (R227, R230). -/
def blendAll (s : State) (t : Tabs) (ls : List (Nat × List Word)) (x y : Nat) (start : Nat × Bool) : Nat × Bool :=
  let hidden := (keepRects t.keepout).any (fun w => keepCovers w x y)
  ls.foldl (fun a l =>
    if lySymbol l.2 && hidden then a
    else
      match sample s t l.1 l.2 x y with
      | some sa =>
        let b := blend l.2 sa a.1
        (b.1, a.2 || b.2)
      | none => a) start

/-- Enabled layers in z order, bottom first (R226). -/
def zOrder (m : ShMap) : List (Nat × List Word) :=
  sortBy (fun a b => decide (lyZ a.2 < lyZ b.2)) (((List.range 8).map (fun n => (n, recOf m n))).filter (fun l => lyEnable l.2))

/-- The cacheable prefix (R239). -/
def prefixOf (m : ShMap) : List (Nat × List Word) := (zOrder m).takeWhile (fun l => lyStatic l.2)

def tileOf (x y : Nat) : Nat := y / 8 * 96 + x / 16

def State.tileClean (s : State) (tile : Nat) : Bool := spGet false s.carl.fcClean tile

/-- One pixel of a frame: its output, whether it saturated, and the accumulator after the prefix (R227, R241). -/
def composePixel (s : State) (j : Job) (x y : Nat) : Nat × Bool × Nat :=
  let pre := prefixOf j.sh
  let p := blendAll s j.tabs pre x y (0, false)
  let c := if j.fcOn && s.tileClean (tileOf x y) then (spGet 0 s.carl.fcVals (y * 1536 + x)).toNat else p.1
  let e := blendAll s j.tabs ((zOrder j.sh).drop pre.length) x y (c, p.2)
  (rheN e.1 256, e.2, c)

/-- The pixels of a band in raster order (R217). -/
def bandPixels (band : Nat) : List (Nat × Nat) := (List.range 12288).map (fun i => (i % 1536, 8 * band + i / 1536))

/-! Lanes and bands (R217 to R220, R242). -/

def onJob (f : Job → Job) (s : State) : State := s.onCarl (fun c => { c with job := c.job.map f })

/-- Idle lanes in service take bands: those to be composed again first, then the next in ascending order (R217). -/
def Job.issue (j : Job) (svc : BitVec 4) : Job :=
  forN 4 0 (fun n j =>
    if svc.getLsbD n && (j.lanes.getD n none).isNone then
      match j.redo with
      | b :: rest => { j with lanes := j.lanes.set n (some b), redo := rest }
      | [] => if j.nextBand < 96 then { j with lanes := j.lanes.set n (some j.nextBand), nextBand := j.nextBand + 1 } else j
    else j) j

def issueBands (s : State) : State := onJob (fun j => j.issue s.carl.inService) s

/-- Load of the committed state in force (R221). -/
def State.loadNow (s : State) : Nat := loadOf s.store.committed s.frameBeats

/-- A lane leaves service: CAPACITY or LAST_LANE follow (R219). -/
def loseLane (lane : Nat) (s : State) : State :=
  let s := s.onCarl (fun c => { c with inService := c.inService &&& ~~~(BitVec.twoPow 4 lane), fenced := c.fenced ||| BitVec.twoPow 4 lane })
  let s := onJob (fun j => { j with lanes := j.lanes.set lane none }) s
  let s := if s.capacity < s.loadNow then addCause 5 (record bCARL 4 noUnit s) else s
  if s.carl.inService = 0 then record bCARL 2 noUnit s else s

/-- A residue mismatch (R218): the band is composed again on another lane. -/
def residueFault (lane band : Nat) (inj : Bool) (s : State) : State :=
  let s := record bCARL 0 ((atUnit lane).inj inj) s
  let s := (s.bump 0x60070 (8 * lane) 8 1).bump 0x60074 0 32 1
  let s := onJob (fun j => { j with redo := j.redo ++ [band] }) s
  issueBands (loseLane lane s)

/-- BIST of a lane at unfence (R220). -/
def unfenceLane (lane : Nat) (bad : Bool) (s : State) : State :=
  if s.carl.fenced.getLsbD lane = false then s
  else if bad then record bCARL 1 (atUnit lane) s
  else s.onCarl (fun c => { c with inService := c.inService ||| BitVec.twoPow 4 lane, fenced := c.fenced &&& ~~~(BitVec.twoPow 4 lane) })

/-! Write-back (R243 to R249). -/

/-- Canvas row y of the output, in the format of the route. -/
def Job.outRow (j : Job) (y : Nat) : Option (List (BitVec 16)) :=
  ((j.outs.find? (fun o => o.1 == y / 8)).map (·.2)).map (fun l => (l.drop (y % 8 * 1536)).take 1536)

def rowBytes (lum8 : Bool) (l : List (BitVec 16)) : Bytes :=
  if lum8 then l.map (fun v => BitVec.ofNat 8 (rheN v.toNat 257)) else l.flatMap (leOf 2)

/-- The next row goes to the Layer Store (R245, R513). -/
def wbMemRow (s : State) : State :=
  match s.carl.job with
  | none => s
  | some j =>
    if !(j.wbWrite && wbMem j.sh && decide (j.wbRow < 768)) then s
    else
      match j.outRow j.wbRow, s.current (wbHandle j.sh) with
      | some l, some i =>
        let bs := rowBytes (wbLum8 j.sh) l
        let rel := wbOffset j.sh + wbStride j.sh * j.wbRow
        let a := (s.buf i).base + rel
        let s := snoopWrite i rel bs (disturbScan 0 (storeBase + a) bs.length (writeStore a bs s))
        let s := onJob (fun j => { j with wbRow := j.wbRow + 1 }) s
        if j.wbRow = 767 then s.onCarl (fun c => { c with wbStat := j.index }) else s
      | _, _ => s

/-- Credits that queued write-back rows will take. -/
def State.wbQueued (s : State) : Nat := sumL ((s.link.outq.filter (fun p => p.cls == 7)).map (fun p => creditsOf p.payload.length))

/-- The next row goes upstream, within the credits of pool 2 (R246, R247). -/
def wbUpRow (s : State) : State :=
  match s.carl.job with
  | none => s
  | some j =>
    if !(j.wbWrite && wbUpstream j.sh && decide (j.upstreamRow < 768) && !j.wbSkipped) then s
    else
      match j.outRow j.upstreamRow with
      | none => s
      | some l =>
        let lum8 := wbLum8 j.sh
        let pl := leOf 4 j.index ++ natLe 2 j.upstreamRow ++
          [BitVec.ofNat 8 (bit01 lum8 + bit01 j.rewritten * 2), BitVec.ofNat 8 (bit01 (j.upstreamRow == 767))] ++ rowBytes lum8 l
        if decide (s.link.ls = .active) && s.hasCredit 2 (s.wbQueued + creditsOf pl.length) then
          let s := flush (queuePkt 7 pl .none s)
          let s := onJob (fun j => { j with upstreamRow := j.upstreamRow + 1 }) s
          if j.upstreamRow = 767 then s.onCarl (fun c => { c with wbUp := j.index }) else s
        else (onJob (fun j => { j with wbSkipped := true }) s).bump 0x30070 0 32 1

/-- Rows that have become due in band order. -/
def writeBack (s : State) : State := iter 768 wbUpRow (iter 768 wbMemRow s)

/-! The Flat Cache at a latching boundary (R240). -/

/-- The part of the canvas that a layer covers: first and last columns and rows. -/
def lyArea (n : Nat) (r : List Word) : Int × Int × Int × Int :=
  (lyDstX r, lyDstX r + lyW n r - 1, lyDstY r, lyDstY r + lyH n r - 1)

/-- An area touches a tile. -/
def areaTouches (a : Int × Int × Int × Int) (tile : Nat) : Bool :=
  let x : Int := (tile % 96 * 16 : Nat)
  let y : Int := (tile / 96 * 8 : Nat)
  decide (a.1 ≤ x + 15) && decide (x ≤ a.2.1) && decide (a.2.2.1 ≤ y + 7) && decide (y ≤ a.2.2.2) && decide (a.1 ≤ a.2.1) && decide (a.2.2.1 ≤ a.2.2.2)

def rectArea (w : BitVec 64) : Int × Int × Int × Int := (fld w 0 16, fld w 16 16, fld w 32 16, fld w 48 16)

/-- A layer whose scaler takes coefficients from table SCALER_COEF (R236). -/
def lyCustom (l : Nat × List Word) : Bool := decide (l.1 < 2) && (decide (lyHFilter l.2 = 0xFF) || decide (lyVFilter l.2 = 0xFF))

/-- The tiles that a difference between the prefix in force and the one the cache holds makes dirty are marked (R240). DEDUCED, log
entry 99: a change of the coefficients that a layer of the prefix is scaled with counts as a change of that layer, since the use of the
cache enters no result (R39, R241). -/
def fcMark (s : State) : State :=
  let new := prefixOf s.store.committed
  let old := s.carl.fcPrefix
  let keep := s.store.tabs.keepout
  let coef := s.store.tabs.coef
  let all := decide (old.map (·.1) ≠ new.map (·.1))
  let moved := (old.zip new).filter (fun e => lyKey e.1.2 != lyKey e.2.2)
  let areas := moved.flatMap (fun e => [lyArea e.1.1 e.1.2, lyArea e.2.1 e.2.2]) ++
    (if new.any (fun l => lySymbol l.2) && decide (keep.gen ≠ s.carl.fcKeep.gen) then (keepRects s.carl.fcKeep ++ keepRects keep).map rectArea else []) ++
    (if coef.ents = s.carl.fcCoef.ents then [] else (new.filter lyCustom).map (fun l => lyArea l.1 l.2))
  let clean := if all then [] else s.carl.fcClean.filter (fun e => !areas.any (fun a => areaTouches a e.1))
  s.onCarl (fun c => { c with fcClean := clean, fcPrefix := new, fcKeep := keep, fcCoef := coef, prefixLen := new.length })

/-- At a latching boundary the directory is brought up to date, and the dirty tiles and the load in force are noted (R240, R251). -/
def fcLatch (s : State) : State :=
  let s := fcMark s
  s.onCarl (fun c => { c with dirtyCount := 9216 - c.fcClean.length, loadK := rheN s.loadNow 1000 })

/-! Loss of a bank (R212, R249). -/

/-- A set of SH words without the buffers given: records that name one are disabled, a route that targets one is off. -/
def clearHandles (hs : List (BitVec 16)) (m : ShMap) : ShMap :=
  let m1 := (List.range 8).foldl (fun m n =>
    let r := recOf m n
    if hs.contains (lyHandle r) && decide (lyHandle r ≠ 0) then
      putRec m n ((r.set 0 ((r.getD 0 0) &&& 0xFFFFFFFE)).set 1 ((r.getD 1 0) &&& 0xFFFF0000))
    else m) m
  if wbMem m && hs.contains (wbHandle m) then shPut m1 0x60030 (putBits (shGet m1 0x60030) 0 2 0) else m1

/-- A frame is composed again from its latched inputs (R29, R212): no band of it is done. -/
def Job.restart (j : Job) : Job :=
  { j with lanes := j.lanes.map (fun _ => none), nextBand := 0, redo := [], outs := [], sat := [], words := [], clamped := [], pixSat := [],
           readback := [], passed := false, failed := false, quiet := true }

/-- A frame record shows the layers that are left (R212). -/
def dropLayers (m : ShMap) (r : FrameRec) : FrameRec :=
  let on (n : Nat) : Bool := lyEnable (recOf m n)
  { r with enabled := BitVec.ofNat 8 (sumL ((selN 8 on).map (2 ^ ·))), fcUsed := r.fcUsed && decide (0 < (prefixOf m).length), layers := r.layers.zipIdx.map (fun e => if on e.2 then e.1 else (0, false, 0)) }

/-- A buffer has a granule in a bank. -/
def State.inBank (s : State) (i bank : Nat) : Bool :=
  decide ((s.buf i).start < 1024 * (bank + 1)) && decide (1024 * bank < (s.buf i).start + (s.buf i).grans)

/-- Uncorrectable error in a Layer Store bank (R212, R249): its buffers are invalidated; a second error maps it out. -/
def bankError (bank : Nat) (inj : Bool) (s : State) : State :=
  let s := record bSTORE 1 ((atUnit bank).inj inj) s
  let hit := selN 256 (fun i => (s.buf i).live && s.inBank i bank)
  let hs := hit.map (fun i => handleOf i (s.buf i))
  let wb := [s.store.shadow, s.store.committed].any (fun m => wbMem m && hs.contains (wbHandle m)) ||
    s.store.queue.any (fun e => wbMem e.sh && hs.contains (wbHandle e.sh))
  let s := renewQueue (s.onStore (fun t =>
    { t with shadow := clearHandles hs t.shadow, committed := clearHandles hs t.committed,
             queue := t.queue.map (fun e => { e with sh := clearHandles hs e.sh }) }))
  let s := if wb then record bCARL 7 noUnit s else s
  let again (j : Job) : Job :=
    let sh := clearHandles hs j.sh
    if hs.isEmpty then j
    else { j.restart with sh := sh, fcOn := j.fcOn && decide (0 < (prefixOf sh).length), rewritten := true, wbRow := 0, upstreamRow := 0 }
  let s := fcMark ((onJob again s).onCarl (fun c => { c with lastJob := c.lastJob.map (fun j => { j with sh := clearHandles hs j.sh }) }))
  let s := match s.carl.job with
    | some j => s.onStore (fun t => { t with recs := t.recs.map (fun r => if r.index = j.index then dropLayers j.sh r else r) })
    | none => s
  let s := hit.foldl (fun s i => releaseBuf i s) s
  if s.store.bankUe.getLsbD bank then
    record bSTORE 2 (atUnit bank) (s.onStore (fun t => { t with banksOut := t.banksOut ||| BitVec.twoPow 4 bank }))
  else s.onStore (fun t => { t with bankUe := t.bankUe ||| BitVec.twoPow 4 bank })

/-! A band finished (R217, R241, R242, R253). -/

/-- Every band of the frame has been composed: the signature and counts of the frame (R228, R250). -/
def composedAll (j : Job) (s : State) : State :=
  let rows := (List.range 96).flatMap (fun b => ((j.outs.find? (fun o => o.1 == b)).map (·.2)).getD [])
  let s := s.onCarl (fun c => { c with outSig := crcP1 (rows.flatMap (leOf 2)), satPix := Nat.min 0x1FFFFF (sumL (j.sat.map (·.2))),
                                       wbDone := c.wbDone || (j.wbWrite && decide (wbMode j.sh = 2)) })
  if j.fcOn then s.bump 0x60024 0 32 1 else s

/-- The result of a band passes to pixel processing; tiles composed from the bottom enter the cache (R241). -/
def passBand (lane band : Nat) (s : State) : State :=
  match s.carl.job with
  | none => s
  | some j =>
    let px := (bandPixels band).map (fun p => composePixel s j p.1 p.2)
    let s := if j.fcOn then
        s.onCarl (fun c => { c with fcVals := spSetRun 0 c.fcVals (band * 12288) (px.map (fun p => BitVec.ofNat 24 p.2.2)),
                                    fcClean := spSetRun false c.fcClean (band * 96) (List.replicate 96 true) })
      else s
    let s := onJob (fun j => { j with lanes := j.lanes.set lane none, outs := j.outs ++ [(band, px.map (fun p => BitVec.ofNat 16 p.1))],
                                      sat := j.sat ++ [(band, (px.filter (fun p => p.2.1)).length)] }) s
    let s := match s.carl.job with
      | some j => if j.outs.length = 96 then composedAll j s else s
      | none => s
    issueBands (writeBack s)

/-- Corrected errors that a band's reads met (R215, R216, R242). -/
def bandCe (j : Job) (o : BandObs) (s : State) : State :=
  eccCorrected (o.storeCe + if j.fcOn then o.fcCe else 0) bSTORE 0 0x70040 s

/-- BAND_COMPOSED: what the band on a lane shows (R212, R217, R218, R242, R253). -/
def bandComposedEvent (lane : Nat) (o : BandObs) (s : State) : State :=
  match s.carl.job.bind (fun j => (j.lanes.getD lane none).map (fun b => (j, b))) with
  | none => s
  | some (j, band) =>
    let s := bandCe j o s
    let stim := s.hasStim bCARL 0 lane
    let bank := match o.bankUe with
      | some b => some b.val
      | none => (List.range 4).find? (fun b => s.hasStim bSTORE 1 b && (zOrder j.sh).any (fun l => s.inBank (fld (lyHandle l.2) 0 8) b))
    match bank with
    | some b => issueBands (bankError b (s.hasStim bSTORE 1 b) (dropStim bSTORE 1 b s))
    | none =>
      let ue := if j.fcOn then o.fcUe.filter (fun t => decide (t / 96 = band) && s.tileClean t) else []
      if o.residueBad || stim then residueFault lane band stim (dropStim bCARL 0 lane s)
      else if o.lbUe && (zOrder j.sh).any (fun l => decide (l.1 < 2)) then record bCARL 6 (atUnit lane) s
      else if ue ≠ [] then
        ue.foldl (fun s t => record bCARL 5 (atUnit t) (s.onCarl (fun c => { c with fcClean := spSet false c.fcClean t false }))) s
      else passBand lane band s

/-! The start of a frame (R26, R213, R217). -/

/-- Union of two sets acts, and the caps act (R213). -/
def State.unionActs (s : State) : Bool := s.safe.setA.isSome && s.safe.setB.isSome

/-- A frame with the inputs in force at its latching boundary. -/
def newJob (quiet caps : Bool) (s : State) : Job :=
  let sh := s.store.committed
  let index := s.carl.frameIndex + 1
  { index := index, sh := sh, tabs := s.store.tabs, zonesA := s.zonesA, zonesB := s.zonesB, caps := if caps then s.caps else [],
    derate := s.pwr.derate, derCrc := crcP1 (derBytesOf s.pwr.derate), gov := s.pix.gov, gainBank := s.pix.gainBank,
    fcOn := s.rfld 0x60000 0 1 == 1 && decide (0 < (prefixOf sh).length),
    wbWrite := decide (wbMode sh ≠ 0) && decide (index.toNat % (wbDecim sh + 1) = 0) && !(decide (wbMode sh = 2) && s.carl.wbDone),
    wbSkipped := false, rewritten := false, lanes := List.replicate 4 none, nextBand := 0, redo := [], outs := [], sat := [], words := [],
    clamped := [], pixSat := [], readback := [], passed := false, failed := false, quiet := quiet, overran := false,
    wbRow := 0, upstreamRow := 0 }
where derBytesOf (m : List (Nat × Byte)) : Bytes := spGetRun 255 m 0 9216

/-- The frame record of a frame (R213, R514). -/
def newRec (j : Job) (caps : Bool) (late : BitVec 8) (s : State) : FrameRec :=
  let en := selN 8 (fun n => lyEnable (recOf j.sh n))
  { index := j.index, lseq := s.store.commitSeq, enabled := BitVec.ofNat 8 (sumL (en.map (2 ^ ·))), waiting := s.waitingMask, late := late,
    union := s.unionActs, caps := caps, fcUsed := j.fcOn, wbActive := j.wbWrite, seqA := s.seqA, seqB := s.seqB,
    floorGen := j.tabs.floor.gen, keepGen := j.tabs.keepout.gen, calGen := s.pix.gainGen, derGen := s.pwr.derGen, derCrc := j.derCrc,
    gov := j.gov, compSig := 0, driveSig := 0, tShown := 0, tEpoch := 0, repeats := 0,
    layers := (List.range 8).map (fun n =>
      let r := recOf j.sh n
      if lyEnable r then
        let b := s.buf (fld (lyHandle r) 0 8)
        (lyHandle r, decide (b.snoop = 2), s.sigOf n b)
      else (0, false, 0)) }

/-- Composition of a frame starts: its job, its record, its bands on the lanes. -/
def startFrame (quiet caps : Bool) (late : BitVec 8) (s : State) : State :=
  if s.carl.inService = 0 then s else
    let j := newJob quiet caps s
    let r := newRec j caps late s
    let s := s.onCarl (fun c => { c with frameIndex := j.index, job := some j })
    let s := (s.onFreeIdx (· + 8)).onStore (fun t => { t with recs := (t.recs ++ [r]).drop (t.recs.length + 1 - 64) })
    issueBands (s.onPix (fun p => { p with inactive := 1, bandsDone := 0, derGen := s.pwr.derGen }))

end Sys2Proof.Machine
end

