-- ==== Sys2Proof/Machine/Pwr.lean ====
section
/-!
DEFINITION. Converters and heat (R486 to R506): headroom tracking, who controls VLED, regulation faults, VCORE pace, the
arm-and-apply pairs, die sensors, junction estimates and derate codes.
-/
namespace Sys2Proof.Machine

/-! Pairs in force (R499, R505). -/

def vMode (a : Word × Word) : Bool := a.1.getLsbD 16
def vledMan (a : Word × Word) : Nat := fld a.1 0 10
def vledMin (a : Word × Word) : Nat := fld a.2 0 10
def vledMax (a : Word × Word) : Nat := fld a.2 10 10
def vledTarget (a : Word × Word) : Nat := fld a.2 20 8
def vcoreMan (a : Word × Word) : Nat := fld a.1 0 9
def vcoreMin (a : Word × Word) : Nat := fld a.2 0 9
def vcoreMax (a : Word × Word) : Nat := fld a.2 9 9
def vcorePct (a : Word × Word) : Nat := fld a.2 18 7

def outside (lo hi v : Nat) : Bool := decide (v < lo) || decide (hi < v)

/-- The ARM address of a VLED pair that fails R499. -/
def vledPairBad (a : Word × Word) : Option Nat :=
  if outside 520 920 (vledMin a) || outside 520 920 (vledMax a) || outside 30 100 (vledTarget a) || decide (vledMax a < vledMin a) then
    some 0xC0014
  else if outside 520 920 (vledMan a) || (vMode a && outside (vledMin a) (vledMax a) (vledMan a)) then some 0xC0010
  else none

/-- The ARM address of a VCORE pair that fails R499. -/
def vcorePairBad (a : Word × Word) : Option Nat :=
  if outside 220 360 (vcoreMin a) || outside 220 360 (vcoreMax a) || outside 5 75 (vcorePct a) || decide (vcoreMax a < vcoreMin a) then
    some 0xC001C
  else if outside 220 360 (vcoreMan a) || (vMode a && outside (vcoreMin a) (vcoreMax a) (vcoreMan a)) then some 0xC0018
  else none

def State.vledPair (s : State) : Word × Word := (s.reg 0xC0010, s.reg 0xC0014)
def State.vcorePair (s : State) : Word × Word := (s.reg 0xC0018, s.reg 0xC001C)

/-- A VLED pair comes into force; under the limp regulator it waits for the digital controller (R499). -/
def applyVled (s : State) : State :=
  let a := s.vledPair
  if s.pwr.owner = 2 then
    s.onPwr (fun p => { p with vledArm := a, vledNext := none, vledCode := if vMode a then vledMan a else p.vledCode })
  else s.onPwr (fun p => { p with vledNext := some a })

def applyVcore (s : State) : State :=
  let a := s.vcorePair
  s.onPwr (fun p => { p with vcoreArm := a, vcoreCode := if vMode a then vcoreMan a else p.vcoreCode })

/-! Who controls VLED (R487 to R493). -/

/-- At a beat boundary the digital controller takes over where it may (R491). -/
def digitalTakeover (s : State) : State :=
  if mayDigital s && s.pwr.owner == 1 then
    s.onPwr (fun p =>
      let a := p.vledNext.getD p.vledArm
      { p with owner := 2, vledArm := a, vledNext := none, vledCode := if vMode a then vledMan a else 880 })
  else s

/-- Phases that run at a summed current, from the number running (R487). -/
def phasesAt (now ma : Nat) : Nat :=
  let up := if ma < 3000 then 1 else if ma < 7000 then 2 else 4
  if now ≤ up then up
  else if now = 4 ∧ 6500 < ma then 4
  else if 2 ≤ now ∧ 2500 < ma then 2
  else up

def phaseEvent (ma : Nat) (s : State) : State :=
  if s.pwr.owner = 2 then s.onPwr (fun p => { p with phases := phasesAt p.phases ma }) else s

/-- VLED out of regulation under the digital controller (R493). -/
def vledRegEvent (s : State) : State :=
  if s.pwr.owner = 2 then syncOwner ((record bPWR 0 noUnit s).onPwr (fun p => { p with fenced := true })) else s

/-- VLED out of regulation under the limp regulator (R493). -/
def limpRegEvent (s : State) : State := if s.pwr.owner = 1 then record bPWR 1 noUnit s else s

/-- VCORE out of regulation (R498). -/
def vcoreRegEvent (s : State) : State := if s.powered then record bPWR 2 noUnit s else s

/-- LPH_FLT_N falls (R488). -/
def lphLowEvent (s : State) : State :=
  if s.sys.lphFltN = false || !s.lands then s else
    let s := s.onSys (fun y => { y with lphFltN := false })
    if s.pdIs 11 .on then record bPWR 3 noUnit (syncOwner (s.onPwr (fun p => { p with offUntilLit := true }))) else s

/-- Level of CPH_EN (R59, R76, R78, R485). -/
def State.cphEn (s : State) : Bool := s.pdIs 11 .on

/-- Level of LPH_EN: low from the moment at which STANDBY entry has darkened the array (R59, R76, R78, R485). -/
def State.lphEn (s : State) : Bool := s.pdIs 11 .on && (s.powered || s.darkening)

/-- LPH_FLT_N returns high (R488). -/
def lphHighEvent (s : State) : State := if !s.lands then s else syncOwner (s.onSys (fun y => { y with lphFltN := true }))

/-- A lit state is entered: the digital controller may run again (R488). -/
def litEntered (s : State) : State := s.onPwr (fun p => { p with offUntilLit := false })

/-! Headroom (R489, R490). -/

/-- The heads measured: no segment in its Gong pattern. -/
def headsSeen (heads : List (Option (BitVec 5))) (s : State) : List (Option Nat) :=
  (List.range 8).map (fun n => if s.mal.gongSegs.getLsbD n || !s.mal.scanning then none else (heads.getD n none).map (·.toNat))

/-- The adjustment at the end of a beat (R489). -/
def vledBeat (heads : List (Option (BitVec 5))) (s : State) : State :=
  let hs := headsSeen heads s
  let s := s.onPwr (fun p => { p with heads := hs.map (fun h => match h with
    | some v => BitVec.ofNat 32 v
    | none => 0x20) })
  let a := s.pwr.vledArm
  if s.pwr.owner ≠ 2 ∨ vMode a then s
  else
    let seen := hs.filterMap id
    let h := 25 * seen.foldl Nat.min 31
    let ht := 5 * vledTarget a
    let code := s.pwr.vledCode
    let short := decide (seen ≠ []) && decide (h < ht)
    let next := if seen = [] then code - 1 else if h < ht then code + (ht - h + 4) / 5 else if ht + 50 ≤ h then code - 1 else code
    let s' := s.onPwr (fun p => { p with vledCode := clampN (vledMin a) (vledMax a) next })
    if short && decide (vledMax a ≤ code) && !s.pwr.vledMaxDone then
      record bPWR 5 noUnit (s'.onPwr (fun p => { p with vledMaxDone := true }))
    else s'

/-- The fast comparators of some segments trip (R490). -/
def headShortEvent (segs : BitVec 8) (s : State) : State :=
  let m := if s.mal.scanning then segs &&& ~~~s.mal.gongSegs else 0
  if m = 0 then s else
    let s := if s.pwr.headShortDone then s else record bPWR 4 noUnit (s.onPwr (fun p => { p with headShortDone := true }))
    let a := s.pwr.vledArm
    if s.pwr.owner ≠ 2 ∨ vMode a then s
    else
      let s := (selN 8 (fun n => m.getLsbD n)).foldl (fun s n => s.bump (0xC0040 + 4 * n) 16 16 1) s
      s.onPwr (fun p => { p with vledCode := Nat.min (vledMax a) (p.vledCode + 10) })

/-- Once-per-frame events may be recorded again. -/
def pwrFrame (s : State) : State := s.onPwr (fun p => { p with headShortDone := false, vledMaxDone := false, vcoreMaxDone := false })

/-! VCORE pace (R496, R497). -/

/-- The adjustment when CARL_PACE is written: m is margin_us. -/
def pace (m : Nat) (overran : Bool) (s : State) : State :=
  let a := s.pwr.vcoreArm
  if vMode a then s
  else
    let mt := vcorePct a * s.frameBeats * 1250
    let good := if mt ≤ 200 * m then Nat.min 16 (s.pwr.goodFrames + 1) else 0
    let down := decide (good = 16) && !s.pwr.paceHold
    let code := s.pwr.vcoreCode
    let next := if overran = true ∨ 600 * m < mt then code + 10 else if 300 * m < mt then code + 2 else if down then code - 1 else code
    let s := s.onPwr (fun p => { p with vcoreCode := clampN (vcoreMin a) (vcoreMax a) next, goodFrames := if down then 0 else good })
    if s.pwr.vcoreCode = vcoreMax a ∧ 300 * m < mt ∧ s.pwr.vcoreMaxDone = false then
      record bPWR 6 noUnit (s.onPwr (fun p => { p with vcoreMaxDone := true }))
    else s

/-- The DL_MISS tally is reached (R497). -/
def paceRaise (s : State) : State :=
  let a := s.pwr.vcoreArm
  if vMode a then s else s.onPwr (fun p => { p with vcoreCode := clampN (vcoreMin a) (vcoreMax a) (p.vcoreCode + 10), paceHold := true })

/-- The suspension of decreases ends (R497). -/
def paceHoldEndEvent (s : State) : State := s.onPwr (fun p => { p with paceHold := false })

/-! Die sensors (R500). -/

/-- Neighbours of sensor m on the 4 x 4 grid. -/
def tempNb (m : Nat) : List Nat :=
  selN 16 (fun n => decide ((n % 4 - m % 4) + (m % 4 - n % 4) + (n / 4 - m / 4) + (m / 4 - n / 4) = 1))

/-- The newest result of a sensor that is at least 1 ms old: value and saturation. -/
def State.tempOf (s : State) (m : Nat) : Option (Int × Bool) :=
  ((s.hk.temps.getD m []).find? (fun t => decide (t.2.2 + 1000000 ≤ s.now))).map (fun t => (t.1, t.2.1))

/-- The sixteen results; a sensor without one takes a free value (log entry 13). -/
def takeTemps (s : State) : List (Int × Bool) × State :=
  ((List.range 16).map (fun m => (s.tempOf m).getD (sgn 16 (Config.freeWord (s.freeIdx + m)).toNat, false)),
   if (List.range 16).all (fun m => (s.tempOf m).isSome) then s else s.onFreeIdx (· + 16))

/-- The sensors that pass both tests of R500. -/
def tempValid (v : List (Int × Bool)) : List Bool :=
  let val (m : Nat) : Int := (v.getD m (0, true)).1
  let ok (m : Nat) : Bool := !(v.getD m (0, true)).2 && decide (-720 ≤ val m) && decide (val m ≤ 2800)
  (List.range 16).map (fun m =>
    let nb := (tempNb m).filter ok
    let d := (nb.length : Int) * val m - sumI (nb.map val)
    ok m && (nb.isEmpty || (decide (d ≤ 320 * nb.length) && decide (-(320 * (nb.length : Int)) ≤ d))))

def maxI (l : List Int) : Option Int := l.foldl (fun m v => match m with
  | some w => some (if w < v then v else w)
  | none => some v) none

/-- Temperatures used: an excluded sensor takes the maximum of its valid neighbours, or of all valid sensors. -/
def tempUsed (v : List (Int × Bool)) : List Int :=
  let ok := tempValid v
  let val (m : Nat) : Int := (v.getD m (0, true)).1
  let good (l : List Nat) : List Int := (l.filter (fun m => ok.getD m false)).map val
  (List.range 16).map (fun m =>
    if ok.getD m false then val m else (maxI (good (tempNb m))).getD ((maxI (good (List.range 16))).getD 0))

/-! Junction estimate and derate codes (R501 to R504). -/

/-- Grid index and fraction of a tile column or row. -/
def gridPos (t : Nat) : Nat × Nat :=
  let u := clampN 12 84 t - 12
  let i := Nat.min 2 (u / 24)
  (i, u - 24 * i)

def tDie (mx my : Bool) (temps : List Int) (tile : Nat) : Int :=
  let (i, fx) := gridPos (tile % 96)
  let (j, fy) := gridPos (tile / 96)
  let node (i j : Nat) : Int := temps.getD ((if mx then 3 - i else i) + 4 * (if my then 3 - j else j)) 0
  rhe (((24 - fx) * (24 - fy) : Nat) * node i j + (fx * (24 - fy) : Nat) * node (i + 1) j + ((24 - fx) * fy : Nat) * node i (j + 1) +
    (fx * fy : Nat) * node (i + 1) (j + 1)) 576

def tJunction (mx my : Bool) (temps : List Int) (rise e tile : Nat) : Int :=
  tDie mx my temps tile + rhe ((rise * e : Nat) : Int) (128 * 65472)

/-- Target code for a junction temperature (R503). -/
def derTarget (v : TabVer) (tj : Int) : Nat :=
  let ent := (List.range 8).map (derateEntry v)
  let e (k : Nat) : Int × Nat := ent.getD k (0, 255)
  if tj < (e 0).1 then (e 0).2
  else
    match (List.range 7).find? (fun k => decide (tj ≤ (e (k + 1)).1)) with
    | some k => (((e k).2 : Int) + rhe ((((e (k + 1)).2 : Int) - (e k).2) * (tj - (e k).1)) ((e (k + 1)).1 - (e k).1).toNat).toNat
    | none => (e 7).2

def derOf (m : List (Nat × Byte)) (tile : Nat) : Nat := (spGet 255 m tile).toNat

/-- A full table of values by tile, in the canonical form of a sparse map. -/
def tileMap {α : Type} [DecidableEq α] (d : α) (l : List α) : List (Nat × α) :=
  (l.zipIdx.filter (fun e => decide (e.1 ≠ d))).map (fun e => (e.2, e.1))

/-- Bytes of a set of codes in tile order (R263). -/
def derBytes (m : List (Nat × Byte)) (a n : Nat) : Bytes := spGetRun 255 m a n

/-- The next code of a tile: a code rises by at most 4 per boundary; the first set takes the targets (R503). -/
def derNext (set : Bool) (old target : Nat) : Nat := if set && decide (old < target) then Nat.min target (old + 4) else target

/-- The junction limits (R504). -/
def tjLimits (tjs : List Int) (s : State) : State :=
  let top := tjs.foldl (fun m v => if m < v then v else m) (tjs.headD 0)
  let tile := (findIdx? (fun v => v == top) tjs).getD 0
  let hi := (s.rfld 0xC0030 0 12 : Int)
  let cr := (s.rfld 0xC0030 12 12 : Int)
  let x := atUnitVal tile (top % 65536).toNat
  let highNow := decide (hi ≤ top) && s.pwr.tjHighArmed
  let critNow := decide (cr ≤ top) && s.pwr.tjCritArmed
  let s := s.onPwr (fun p =>
    { p with tjMax := (tile, top), tjHighArmed := (p.tjHighArmed && !highNow) || decide (top < hi - 80),
             tjCritArmed := (p.tjCritArmed && !critNow) || decide (top < cr - 80) })
  let s := if highNow then record bPWR 9 x s else s
  if critNow then record bPWR 10 x s else s

/-- Sensors that have become excluded at this boundary are recorded (R500). -/
def tempExclude (v : List (Int × Bool)) (s : State) : State :=
  let ok := tempValid v
  let excl := selN 16 (fun m => !ok.getD m false)
  let new := excl.filter (fun m => !s.pwr.excl.getLsbD m)
  let s := s.onPwr (fun p => { p with excl := BitVec.ofNat 16 (sumL (excl.map (2 ^ ·))) })
  new.foldl (fun s m => record bPWR 7 (atUnitVal m ((v.getD m (0, true)).1 % 65536).toNat) s) s

/-- A set of codes is latched: the generation advances when it differs from the one before (R503). -/
def derLatch (codes : List Byte) (s : State) : State :=
  let m := tileMap 255 codes
  let low := codes.foldl (fun a b => if b.toNat < a then b.toNat else a) 255
  let tile := (findIdx? (fun (b : Byte) => b.toNat == low) codes).getD 0
  let s := s.onPwr (fun p => { p with derMin := (tile, low) })
  if s.pwr.derSet ∧ m = s.pwr.derate then s
  else
    s.onPwr (fun p => { p with derate := m, derSet := true, derGen := p.derGen + 1, kept := ((p.derGen + 1, m, crcP1 codes) :: p.kept).take 8 })

/-- What the PWR block does at each frame boundary (R500 to R504). -/
def derateBoundary (s : State) : State :=
  let (v, s) := takeTemps s
  let s := tempExclude v s
  let anyOk := (tempValid v).any id
  let curve := s.store.tabs.derate
  if anyOk then
    let used := tempUsed v
    let rise := s.rfld 0xC002C 0 12
    let tjs := (List.range 9216).map (fun t => tJunction s.sys.mirrorX s.sys.mirrorY used rise (spGet 0 s.pix.tileDemand t) t)
    let codes := tjs.zipIdx.map (fun e => BitVec.ofNat 8 (derNext s.pwr.derSet (derOf s.pwr.derate e.2) (derTarget curve e.1)))
    let s := derLatch codes (s.onPwr (fun p => { p with tempLost := false, tjs := tileMap 0 tjs }))
    tjLimits tjs s
  else
    let was := s.pwr.tempLost
    let s := derLatch (List.replicate 9216 (BitVec.ofNat 8 (derateEntry curve 7).2)) (s.onPwr (fun p => { p with tempLost := true }))
    if was then s else record bPWR 8 noUnit s

/-- CRC of the codes in force (R263). -/
def State.derCrc (s : State) : Word := crcP1 (derBytes s.pwr.derate 0 9216)

end Sys2Proof.Machine
end

