-- ==== Sys2Proof/Machine/Pix.lean ====
section
/-!
DEFINITION. From luminance to drive words (R254 to R278): clamps, gain, derate, governor, tier encoder, show buffer,
readback, Damper audit, governor scale, frame records as read, FLOOR_GET.
-/
namespace Sys2Proof.Machine

/-! Latched inputs (R255, R256, R259). -/

/-- Ceiling and zone tag of every zone in force: set A from 0, set B from 64, caps from 128 (R257). -/
def Job.zoneList (j : Job) : List (BitVec 64 × Nat) :=
  j.zonesA.zipIdx ++ (j.zonesB.zipIdx.map (fun e => (e.1, e.2 + 64))) ++ (j.caps.zipIdx.map (fun e => (e.1, e.2 + 128)))

def zoneCovers (z : BitVec 64) (x y : Nat) : Bool :=
  decide (zX0 z ≤ x) && decide (x ≤ zX1 z) && decide (zY0 z ≤ y) && decide (y ≤ zY1 z)

/-- The lowest ceiling at a pixel, with its zone tag. -/
def ceilingAt (zs : List (BitVec 64 × Nat)) (x y : Nat) : Option (Nat × Nat) :=
  (zs.filter (fun z => zoneCovers z.1 x y)).foldl (fun m z =>
    match m with
    | some b => if zCeil z.1 < b.1 then some (zCeil z.1, z.2) else some b
    | none => some (zCeil z.1, z.2)) none

/-- Working gain code of a pixel in the bank in use (R259). -/
def State.gainOf (s : State) (px : Nat) : Nat :=
  Nat.min 1023 (rhe (((factGainAt s.pix.gainF0 px).toNat : Int) * (1280 + deltaAt s.pix.gainU0 px)) 1280).toNat

/-- The value a pixel is clamped to by Damper and Floor (R254 to R256). -/
def clampPixel (ce : Option (Nat × Nat)) (floor out : Nat) : Nat :=
  Nat.max (match ce with
    | some c => Nat.min out c.1
    | none => out) floor

/-- Combined product of a value with gain, derate and governor scale (R265). -/
def product (c g d gov : Nat) : Nat := rheN (c * g * (d + 1) * gov) (2 ^ 33)

/-- Trimmed, derated Floor value (R265, R266). -/
def floorValue (f g d : Nat) : Nat := rheN (f * g * (d + 1)) (2 ^ 17)

/-- The tier encoder (R269). -/
def encodeWord (p : Nat) : BitVec 12 :=
  let k := if p ≤ 1023 then 3 else if p ≤ 4095 then 2 else if p ≤ 16383 then 1 else 0
  BitVec.ofNat 12 (k * 1024 + rheN (p * 1023 * 4 ^ k) 65535)

/-- Current units of a drive word (R267). -/
def wordUnits (w : BitVec 12) : Nat := fld w 0 10 * 4 ^ (3 - fld w 10 2)

/-- What the pipeline makes of one pixel: clamped value, drive word, and saturation. -/
def processPixel (s : State) (j : Job) (x y out : Nat) : Nat × BitVec 12 × Bool :=
  let t := tileOf x y
  let f := floorAt j.tabs t
  let d := derOf j.derate t
  let g := s.gainOf (y * 1536 + x)
  let c := clampPixel (ceilingAt j.zoneList x y) f out
  let p := Nat.max (product c g d j.gov.toNat) (floorValue f g d)
  (c, encodeWord (Nat.min 65535 p), decide (65535 < p))

/-! The Damper audit (R272, R273, R429). -/

/-- The largest word the audit passes for a pixel; none where no zone covers it. -/
def auditWord (s : State) (j : Job) (x y : Nat) : Option (BitVec 12) :=
  (ceilingAt j.zoneList x y).map (fun ce =>
    let t := tileOf x y
    let f := floorAt j.tabs t
    let d := derOf j.derate t
    let g := s.gainOf (y * 1536 + x)
    encodeWord (Nat.min 65535 (Nat.max (product (Nat.max ce.1 f) g d j.gov.toNat) (floorValue f g d))))

/-- The word with the smallest current above another (R429). -/
def stepAbove (w : BitVec 12) : Option (BitVec 12) :=
  if fld w 0 10 < 1023 then some (w + 1)
  else if 0 < fld w 10 2 then some (BitVec.ofNat 12 ((fld w 10 2 - 1) * 1024 + 256))
  else none

/-- The first word of a band that fails the audit: pixel, word and e_max. -/
def auditFail (s : State) (j : Job) (band : Nat) (ws : List (BitVec 12)) : Option (Nat × Nat × BitVec 12 × Nat) :=
  ((bandPixels band).zip ws).findSome? (fun e =>
    (auditWord s j e.1.1 e.1.2).bind (fun m => if wordUnits m < wordUnits e.2 then some (e.1.1, e.1.2, e.2, wordUnits m) else none))

/-- What the AUDIT_FAIL stimulus presents in a band (R429). -/
def auditStim (s : State) (j : Job) (band : Nat) : Option (Nat × Nat × BitVec 12 × Nat) :=
  (bandPixels band).findSome? (fun p =>
    (auditWord s j p.1 p.2).bind (fun m => (stepAbove m).map (fun w => (p.1, p.2, w, wordUnits m))))

/-- A word that fails is never shown (R30). -/
def auditReject (e : Nat × Nat × BitVec 12 × Nat) (inj : Bool) (s : State) : State :=
  let s := s.onSafe (fun f => { f with auditPix := BitVec.ofNat 32 (e.1 + e.2.1 * 2048), auditWord := BitVec.ofNat 32 (e.2.2.1.toNat + e.2.2.2 * 4096) })
  let s := onJob (fun j => { j with failed := true }) s
  record bSAFE 0 ((withVal (e.1 + e.2.1 * 2048)).inj inj) s

/-! Show buffer (R274, R275). -/

/-- Physical column of a canvas column, and physical row of a canvas row (R13); each is its own inverse. -/
def colOf (mx : Bool) (x : Nat) : Nat := if mx then 1535 - x else x
def rowOf (my : Bool) (y : Nat) : Nat := if my then 767 - y else y
def State.physRow (s : State) (y : Nat) : Nat := rowOf s.sys.mirrorY y

/-- Bit p of the words of a canvas row, in physical column order. -/
def planeRow (mx : Bool) (p : Nat) (ws : List (BitVec 12)) : BitVec 1536 :=
  let l := if mx then ws.reverse else ws
  BitVec.ofNat 1536 (l.foldr (fun w a => bit01 (w.getLsbD p) + 2 * a) 0)

/-- A band written into a bank. -/
def writeBank (bank : Bool) (band : Nat) (ws : List (BitVec 12)) (s : State) : State :=
  let rows := (List.range 8).flatMap (fun i => (List.range 12).map (fun p =>
    (((bit01 bank) * 12 + p) * 768 + 8 * band + i, planeRow s.mirrorX p ((ws.drop (1536 * i)).take 1536))))
  s.onPix (fun x => { x with rows := rows.foldl (fun m e => spSet 0 m e.1 e.2) x.rows })

/-- A row of a plane of a bank. -/
def State.bankRow (s : State) (bank : Bool) (p y : Nat) : BitVec 1536 := spGet 0 s.pix.rows ((bit01 bank * 12 + p) * 768 + y)

/-- The drive word of a pixel as a bank holds it. -/
def State.bankWord (s : State) (bank : Bool) (x y : Nat) : BitVec 12 :=
  BitVec.ofNat 12 (sumL ((selN 12 (fun p => (s.bankRow bank p y).getLsbD (colOf s.mirrorX x))).map (2 ^ ·)))

/-- Byte of a bank at an offset (R274). -/
def State.bankByte (s : State) (bank : Bool) (off : Nat) : Byte :=
  BitVec.ofNat 8 ((s.bankRow bank (off / 147456) (off % 147456 / 192)).toNat / 2 ^ (8 * (off % 192)))

/-! A processed frame (R222, R257, R266 to R268, R270, R271, R376). -/

def pick {α : Type} (l : List (Nat × List α)) (b : Nat) : List α := ((l.find? (fun e => e.1 == b)).map (·.2)).getD []
def joinBands {α : Type} (l : List (Nat × List α)) : List α := (List.range 96).flatMap (pick l)

/-- The first tile where the Floor overrode a ceiling, and the zone named with it (R257). -/
def Job.conflict (j : Job) : Option (Nat × Nat) :=
  let zs := j.zoneList
  (List.range 9216).findSome? (fun t =>
    let f := floorAt j.tabs t
    if f = 0 then none
    else
      (((List.range 128).filterMap (fun i => ceilingAt zs (t % 96 * 16 + i % 16) (t / 96 * 8 + i / 16))).filter (fun c => decide (c.1 < f))).foldl
        (fun m c => match m with
          | some (_, b1, b2) => if c.1 < b1 ∨ (c.1 = b1 ∧ c.2 < b2) then some (t, c.1, c.2) else m
          | none => some (t, c.1, c.2)) (none : Option (Nat × Nat × Nat)) |>.map (fun e => (e.1, e.2.2)))

/-- The Floor tile with the lowest code, where a Floor tile is derated (R266). -/
def Job.floorDerate (j : Job) : Option (Nat × Nat) :=
  (List.range 9216).foldl (fun m t =>
    let d := derOf j.derate t
    if floorAt j.tabs t = 0 ∨ d = 255 then m
    else
      match m with
      | some b => if d < b.2 then some (t, d) else m
      | none => some (t, d)) none


/-- The next governor scale (R267). -/
def govStep (sn elim e : Nat) : Nat := Nat.min (if e = 0 then 65536 else Nat.min 65536 (sn * elim / e)) (sn + 2048)

/-- Demand limit of the frame (R267, R494). -/
def Job.elim (j : Job) : Nat := fld (shGet j.sh 0xC0024) 0 14 * 1636800

/-- Demand sums of a frame (R267, R376, R501). -/
def demands (j : Job) (s : State) : State :=
  let ws := joinBands j.words
  let rb := joinBands j.readback
  let us := ws.map wordUnits
  let seg := (List.range 8).map (fun k => sumL ((us.drop (147456 * k)).take 147456))
  let cut := (List.range 8).map (fun k =>
    sumL ((((rb.drop (147456 * k)).take 147456).zipIdx.filter (fun e => s.isCut k (e.2 % 1536))).map (fun e => wordUnits e.1)))
  let tiles := (us.zipIdx.foldl (fun (a : Array Nat) e => a.modify (tileOf (e.2 % 1536) (e.2 / 1536)) (· + e.1)) (Array.replicate 9216 0)).toList
  s.onPix (fun p => { p with demand := sumL seg, segDemand := seg, cutDemand := cut, tileDemand := tileMap 0 tiles,
                             satPix := Nat.min 0x1FFFFF (sumL (j.pixSat.map (·.2))) })

/-- The conflicts of a frame are recorded once (R257, R266). -/
def frameConflicts (j : Job) (s : State) : State :=
  let c := j.conflict
  let d := j.floorDerate
  let s := s.onPix (fun p => { p with conflict := c.map (fun e => (e.1, if e.2 < 128 then e.2 else e.2 - 128, decide (128 ≤ e.2))), floorDer := d })
  let s := match c with
    | some (t, _) => record bPIX 5 (withVal t) (s.bump 0x80064 0 32 1)
    | none => s
  match d with
  | some (t, _) => record bPIX 6 (withVal t) s
  | none => s

/-- Pace and margin of a frame, written in one step (R222). -/
def framePace (us : Nat) (overran : Bool) (s : State) : State :=
  let m := if overran then 0 else rheN (s.frameBeats * 1250) 3 - us
  let s := s.onCarl (fun c => { c with composeUs := us, marginUs := m, margins := (m :: c.margins).take 256 })
  pace m overran s

/-- The frame is complete: R27's conditions hold, its record takes the signatures. -/
def frameDone (j : Job) (us : Nat) (s : State) : State :=
  let comp := crcP1 ((joinBands j.clamped).flatMap (leOf 2))
  let s := s.onStore (fun t => { t with recs := t.recs.map (fun r => if r.index = j.index then { r with compSig := comp, driveSig := s.pix.driveSig } else r) })
  let s := frameConflicts j (demands j s)
  let s := if j.overran then s else
    s.onPix (fun p => { p with govNext := BitVec.ofNat 17 (govStep j.gov.toNat j.elim p.demand) })
  let s := onJob (fun j => { j with passed := true }) (s.onPix (fun p => { p with inactive := if j.failed then 3 else 2 }))
  framePace us j.overran s

/-- After band 95 the readback CRC is compared with the drive signature (R29, R271). -/
def frameEnd (us : Nat) (s : State) : State :=
  match s.carl.job with
  | none => s
  | some j =>
    if j.words.length ≠ 96 then s
    else
      let stim := s.hasStim bPIX 2 0
      let rb := crcP1 ((joinBands j.readback).flatMap (leOf 2))
      let n := s.freeWord.toNat % (1179648 * 12)
      let flipped := (joinBands j.readback).zipIdx.map (fun e => if e.2 = n / 12 then e.1 ^^^ BitVec.twoPow 12 (n % 12) else e.1)
      let s := s.onPix (fun p => { p with driveSig := crcP1 ((joinBands j.words).flatMap (leOf 2)),
                                          rbCrc := if stim then crcP1 (flipped.flatMap (leOf 2)) else rb })
      let s := if stim then (dropStim bPIX 2 0 s).freeNext else s
      if s.pix.rbCrc = s.pix.driveSig then frameDone j us s
      else
        let s := record bPIX 2 ((withVal j.index.toNat).inj stim) (s.onPix (fun p => { p with inactive := 3, bandsDone := 0 }))
        issueBands (onJob Job.restart s)

/-- Words of a band with bits changed at some pixels. -/
def flipBits (band : Nat) (fl : List (Nat × BitVec 12)) (ws : List (BitVec 12)) : List (BitVec 12) :=
  ws.zipIdx.map (fun e => fl.foldl (fun w f => if f.1 = 12288 * band + e.2 then w ^^^ f.2 else w) e.1)

/-- A band written, read back and audited (R262, R271 to R275). -/
def bandDone (j : Job) (band : Nat) (o : ProcObs) (s : State) : State :=
  let px := ((bandPixels band).zip (pick j.outs band)).map (fun e => processPixel s j e.1.1 e.1.2 e.2.toNat)
  let ws := flipBits band o.wordFlips (px.map (fun p => p.2.1))
  let rb := flipBits band o.bankFlips ws
  let s := writeBank (!s.pix.active) band rb s
  let bad := auditFail s j band rb
  let stim := s.hasStim bSAFE 0 band
  let pres := if stim then auditStim s j band else none
  let s := onJob (fun j =>
    { j with words := j.words ++ [(band, ws)], readback := j.readback ++ [(band, rb)], clamped := j.clamped ++ [(band, px.map (fun p => BitVec.ofNat 16 p.1))],
             pixSat := j.pixSat ++ [(band, (px.filter (fun p => p.2.2)).length)] }) s
  let s := s.onPix (fun p => { p with bandsDone := p.bandsDone + 1, inactive := 1 })
  let s := if o.derateBad && j.words.isEmpty then record bSAFE 1 noUnit (onJob (fun j => { j with failed := true }) s) else s
  let s := dropStim bSAFE 0 band s
  let s := match pres with
    | some e => auditReject e true s
    | none => s
  let s := match bad with
    | some e => auditReject e false s
    | none => s
  frameEnd o.elapsedUs s

/-- BAND_PROCESSED (R254, R262, R271). -/
def bandProcessedEvent (band : Nat) (o : ProcObs) (s : State) : State :=
  match s.carl.job with
  | none => s
  | some j =>
    let ue := o.gainUe.filter (fun p => decide (p / 12288 = band))
    if !(j.outs.any (fun e => e.1 == band)) || j.words.any (fun e => e.1 == band) then s
    else
    let s := eccCorrected o.gainCe bPIX 3 0x80078 s
    if ue ≠ [] then
      let s := record bPIX 4 noUnit s
      if o.mramUe then record bNVM 1 (withVal (0x200000 + ue.headD 0 * 10 / 8)) s else s
    else bandDone j band o s

/-- GAIN_REBUILD_DONE (R260). -/
def gainRebuildDoneEvent (s : State) : State :=
  if s.pix.rebuild then s.onPix (fun p => { p with rebuild := false, rebuilt := true }) else s

/-- At a latching boundary a bank built from the latest generation is swapped in (R261). -/
def gainSwap (s : State) : State :=
  if s.pix.rebuilt then
    s.onPix (fun p => { p with gainBank := !p.gainBank, rebuilt := false, gainF0 := s.nvm.gainF, gainU0 := s.nvm.gainU, gainGen := s.nvm.cur.calGen })
  else s

/-! The swap of banks (R25, R27, R42, R268). -/

/-- The governor assist of a frame (R268). -/
def assistOf (elim e : Nat) : Nat := if e ≤ elim then 256 else Nat.max 128 (256 * elim / e)

/-- A complete frame is swapped in. -/
def swapIn (j : Job) (s : State) : State :=
  let a := assistOf j.elim s.pix.demand
  let t2 := (s.tabor 2)
  let shown := j.index
  let s := s.onStore (fun t => { t with shown := some shown, recs := t.recs.map (fun r =>
    if r.index = shown ∧ r.tShown = 0 then { r with tShown := BitVec.ofNat 64 t2.ns, tEpoch := t2.epoch } else r) })
  let s := s.onCarl (fun c => { c with job := none, lastJob := some j.restart })
  let s := s.onPix (fun p =>
    { p with active := !p.active, inactive := 0, assist := a, shownSegDemand := p.segDemand, shownCutDemand := p.cutDemand,
             shownDerate := j.derate, shownSh := j.sh, shownDamper := [j.zonesA, j.zonesB, j.caps] })
  let s := if a < 256 then record bPIX 7 (withVal shown.toNat) s else s
  if 2 * j.elim < s.pix.demand then record bPIX 8 (withVal shown.toNat) s else s

/-- The frame on show is shown once more (R42). -/
def showAgain (s : State) : State :=
  match s.store.shown with
  | some i => s.onStore (fun t => { t with recs := t.recs.map (fun r => if r.index = i then { r with repeats := Nat.min 65535 (r.repeats + 1) } else r) })
  | none => s

/-! FRAME_RECORD_GET and FLOOR_GET (R213, R214, R258). -/

def recBytes (r : FrameRec) : Bytes :=
  leOf 4 r.index ++ leOf 4 r.lseq ++ [r.enabled, r.waiting, r.late,
    BitVec.ofNat 8 (bit01 r.union + bit01 r.caps * 2 + bit01 r.fcUsed * 4 + bit01 r.wbActive * 8)] ++
  leOf 4 r.seqA ++ leOf 4 r.seqB ++ leOf 4 r.floorGen ++ leOf 4 r.keepGen ++ leOf 4 r.calGen ++ leOf 4 r.derGen ++ leOf 4 r.derCrc ++
  leOf 4 r.gov ++ leOf 4 r.compSig ++ leOf 4 r.driveSig ++ leOf 8 r.tShown ++ leOf 2 r.tEpoch ++ natLe 2 r.repeats ++
  r.layers.flatMap (fun l => leOf 2 l.1 ++ [BitVec.ofNat 8 (bit01 l.2.1), 0] ++ leOf 4 l.2.2)

/-- The record that a request names (R214). -/
def State.findRec (s : State) (n : Word) : Option FrameRec :=
  if n = 0xFFFFFFFF then s.store.shown.bind (fun i => s.store.recs.find? (fun r => r.index = i))
  else s.store.recs.reverse.find? (fun r => r.lseq = n)

def bodyFrameRecordGet : Body := fun c s =>
  let ps := c.pkt.params
  let n := u32At ps 0
  let part := numAt ps 4 1
  if ps.length ≠ 5 then no badLen s
  else if 3 < part then no (badParam 4) s
  else if n = 0xFFFFFFFF ∧ (s.sys.st = .ready ∨ s.sys.st = .gong) then no (refuse0 0x12) s
  else
    match s.findRec n with
    | none => no (badParam 0) s
    | some r =>
      if part = 0 then didData (recBytes r) s
      else
        match s.pwr.kept.find? (fun k => k.1 = r.derGen) with
        | none => no (badParam 4) s
        | some k => didData (recBytes r ++ derBytes k.2.1 (3072 * (part - 1)) 3072) s

def bodyFloorGet : Body := fun c s =>
  let ps := c.pkt.params
  let first := numAt ps 0 2
  let n := numAt ps 2 2
  if ps.length ≠ 4 then no badLen s
  else if 9216 ≤ first then no (badParam 0) s
  else if n < 1 ∨ 2048 < n ∨ 9216 < first + n then no (badParam 2) s
  else didData ((List.range n).flatMap (fun i => natLe 2 (floorAt s.store.tabs (first + i)))) s

end Sys2Proof.Machine
end

