-- ==== Sys2Proof/Machine/Sense.lean ====
section
/-!
DEFINITION. Rimshot, Roll and the sense slices (R316 to R341): measurement kinds, classification, candidates and
confirmations, references, the Roll map, slice corrections, the spare slice, ROLL_MAP_READ.
-/
namespace Sys2Proof.Machine

/-! Registers (R349). -/

/-! Thresholds act from the next beat: those in force are the words as they stood when the beat began. -/

def State.vShort (s : State) : Nat := fld s.sense.thr.1 0 12
def State.vOff (s : State) : Nat := fld s.sense.thr.1 12 12
def State.vLeak (s : State) : Nat := fld s.sense.thr.2 0 12
def State.vfDev (s : State) : Nat := fld s.sense.thr.2 12 8
def State.burstThr (s : State) : Nat := fld s.sense.thr.2 20 11
def State.cutLimit (s : State) : Nat := s.rfld 0xA0018 0 12
def State.bgcal (s : State) : Bool := s.rfld 0xA0000 0 1 == 1

/-! Cuts (R312, R331, R332). -/


/-- SENSE requests a column cut; above the limit it is still made (R332). -/
def requestCut (seg x : Nat) (s : State) : State :=
  if s.isCut seg x || s.mal.cutReq.contains (seg, x) then s else
    let n := s.cutCount seg + (s.mal.cutReq.filter (fun c => c.1 == seg)).length + 1
    let s := s.onMal (fun m => { m with cutReq := m.cutReq ++ [(seg, x)] })
    if s.cutLimit < n then record bSENSE 11 (atUnit seg) s else s

/-! Confirmed classes (R329 to R331). Classes are coded as in the Roll map (R334). -/

/-- Order of a measurement kind in R321. -/
def SenseKind.code : SenseKind → Nat
  | .skip => 1
  | .darkOn => 2
  | .own _ => 3
  | .off => 4
  | .pulse => 5

def pxSeg (px : Nat) : Nat := px / 147456
def pxTile (px : Nat) : Nat := tileOf (px % 1536) (px / 1536)

/-- Number of the Roll in progress (R316). -/
def State.rollNow (s : State) : Nat := s.mal.beat / 96

/-- One record of a confirmation (kind 2) or clearance (kind 3), up to 256 in a Roll (R330, R422). -/
def pixelRecord (kind cls px code sample : Nat) (s : State) : State :=
  if s.clap.pixLogged < 256 then
    let det := [BitVec.ofNat 8 cls, BitVec.ofNat 8 code] ++ natLe 2 (px % 1536) ++ natLe 2 (px / 1536) ++ natLe 4 s.rollNow ++ natLe 2 sample
    (logItem kind bSENSE (cls - 1) ((s.flts bSENSE).sev (cls - 1)) det s).onClap (fun c => { c with pixLogged := c.pixLogged + 1 })
  else s.onClap (fun c => { c with pixOver := c.pixOver + 1 })

/-- The entry of a pixel's tile has changed in this Roll. -/
def touchTile (px : Nat) (s : State) : State :=
  s.onSense (fun e => { e with rollUpd := spSet 0xFFFFFFFF e.rollUpd (pxTile px) (BitVec.ofNat 32 s.rollNow) })

/-- A class is confirmed (R329, R331). -/
def confirmPx (cls px code sample : Nat) (cut : Bool) (s : State) : State :=
  let s := s.onSense (fun e => { e with rollMap := spSet 0 e.rollMap px (BitVec.ofNat 3 cls), cand := spSet 0 e.cand px 0, normals := spSet 0 e.normals px 0 })
  let s := pixelRecord 2 cls px code sample (touchTile px s)
  let s := record bSENSE (cls - 1) noUnit s
  if cut then requestCut (pxSeg px) (px % 1536) s else s

/-- A normal measurement of a confirmed class; the second in a row clears it (R330). -/
def normalPx (cls px code sample : Nat) (s : State) : State :=
  if 1 ≤ spGet 0 s.sense.normals px then
    let s := s.onSense (fun e => { e with rollMap := spSet 0 e.rollMap px 0, normals := spSet 0 e.normals px 0 })
    pixelRecord 3 cls px code sample (touchTile px s)
  else s.onSense (fun e => { e with normals := spSet 0 e.normals px 1 })

/-! Classification (R326 to R329). -/

/-- One measurement: pixel, kind, corrected sample in mV, compliance flag. -/
structure Meas where
  px : Nat
  kind : SenseKind
  mv : Nat
  flag : Bool
  deriving DecidableEq, Repr, Inhabited

/-- Tier that a measurement shows. -/
def SenseKind.tier : SenseKind → Nat
  | .own t => t.val
  | _ => 2

/-- The pixel's own drive is scaled by its segment's factor (R328). -/
def State.scaledOwn (s : State) (m : Meas) : Bool :=
  match m.kind with
  | .own _ => decide (s.mal.scale.getD (pxSeg m.px) 256 < 256)
  | _ => false

/-- Reference of a measurement's tile and tier; 0 where none exists. -/
def State.refOf (s : State) (m : Meas) : Nat := (spGet 0 s.sense.refs (pxTile m.px * 4 + m.kind.tier)).toNat

/-- A kind tests a class in this measurement. -/
def State.tests (s : State) (m : Meas) (cls : Nat) : Bool :=
  let lit := match m.kind with
    | .own _ => true
    | .pulse => true
    | _ => false
  match cls with
  | 1 => !lit && m.kind != .skip
  | 3 => lit
  | 4 => lit
  | 5 => m.kind == .off
  | 6 => lit && decide (s.refOf m ≠ 0) && !s.scaledOwn m
  | _ => false

/-- The class of a measurement; 0 for none. -/
def State.classOf (s : State) (m : Meas) : Nat :=
  match m.kind with
  | .skip => 0
  | .darkOn => 1
  | .off => if s.vOff ≤ m.mv then 1 else if s.vLeak ≤ m.mv then 5 else 0
  | _ =>
    let r := s.refOf m
    if m.flag then 3
    else if m.mv < s.vShort then 4
    else if s.tests m 6 && (decide (r + s.vfDev < m.mv) || decide (m.mv + s.vfDev < r)) then 6
    else 0

/-- A sample that goes into the references (R327, R328). -/
def takeSample (m : Meas) (cls : Nat) (s : State) : State :=
  if s.tests m 3 && !s.scaledOwn m && decide (cls ≠ 3) && decide (cls ≠ 4) && decide (spGet 0 s.sense.rollMap m.px = 0) then
    let k := pxTile m.px * 4 + m.kind.tier
    s.onSense (fun e => { e with samples := spSet [] e.samples k (m.mv :: spGet [] e.samples k) })
  else s

/-- One measurement acts on its pixel (R329, R330). -/
def applyMeas (m : Meas) (s : State) : State :=
  let cls := s.classOf m
  let s := takeSample m cls s
  let s := s.onSense (fun e => { e with measured := spSet 0 e.measured (pxTile m.px) (spGet 0 e.measured (pxTile m.px) + 1) })
  let old := (spGet 0 s.sense.rollMap m.px).toNat
  let cand := (spGet 0 s.sense.cand m.px).toNat
  let tested := s.tests m old
  if cls ≠ 0 then
    let s := if tested then s.onSense (fun e => { e with normals := spSet 0 e.normals m.px 0 }) else s
    if old = cls then s.onSense (fun e => { e with cand := spSet 0 e.cand m.px 0 })
    else if cand = cls then confirmPx cls m.px m.kind.code m.mv (decide (cls = 1)) s
    else s.onSense (fun e => { e with cand := spSet 0 e.cand m.px (BitVec.ofNat 3 cls) })
  else
    let s := if s.tests m cand then s.onSense (fun e => { e with cand := spSet 0 e.cand m.px 0 }) else s
    if tested then normalPx old m.px m.kind.code m.mv s else s

/-- A measurement that makes a new candidate (R331). -/
def State.newCand (s : State) (m : Meas) : Bool :=
  let c := s.classOf m
  decide (c ≠ 0) && decide (c ≠ (spGet 0 s.sense.rollMap m.px).toNat) && decide (c ≠ (spGet 0 s.sense.cand m.px).toNat)

/-- The sense row of a segment (R331): a burst discards it. -/
def applyRow (seg : Nat) (ms : List Meas) (s : State) : State :=
  if s.burstThr ≤ (ms.filter s.newCand).length then record bSENSE 6 (atUnit seg) s
  else ms.foldl (fun s m => applyMeas m s) s

/-! Slices (R336, R337, R340). -/

def State.slice (s : State) (i : Nat) : Slice := s.sense.slices.getD i default
def onSlice (i : Nat) (f : Slice → Slice) (s : State) : State := s.onSense (fun e => { e with slices := modAt e.slices i f })

/-- A raw code with a correction (R336, R472). -/
def corrected (o g : Int) (w : Nat) : Nat := (clampI 0 4095 (rhe ((16 * (w : Int) - o) * g) 524288)).toNat

def sliceCode (s : State) (i w : Nat) : Nat :=
  corrected (s.slice i).o (s.slice i).g (w + (if s.sense.stim.contains i then 16 else 0))

/-- The slice that converts the inputs of working slice i; none where its columns are lost. -/
def State.converter (s : State) (i : Nat) : Option Nat :=
  if !s.sense.fenced.getLsbD i then some i
  else if s.sense.spareMode = 1 ∧ s.sense.spareOn = i then some 64
  else none

/-- A working slice leaves service (R340). -/
def fenceSlice (i : Nat) (s : State) : State :=
  if 64 ≤ i ∨ s.sense.fenced.getLsbD i = true then s else
    let s := s.onSense (fun e => { e with fenced := e.fenced ||| BitVec.twoPow 64 i, stim := e.stim.erase i })
    if s.sense.spareMode = 0 ∨ s.sense.spareMode = 3 then
      record bSENSE 8 (atUnit i) (s.onSense (fun e => { e with spareMode := 1, spareOn := i, newCorr := none }))
    else record bSENSE 9 (atUnit i) (s.onSense (fun e => { e with lost := e.lost ||| BitVec.twoPow 64 i }))

/-- SLICE_RESID of a slice; its tally fences it (R337, R339, R340). -/
def sliceResid (i : Nat) (s : State) : State :=
  let r := recordT bSENSE 7 ((atUnit i).inj (s.sense.stim.contains i)) s
  if r.2 then fenceSlice i r.1 else r.1

/-- The spare leaves service (R70, R341). -/
def fenceSpare (s : State) : State :=
  record bSENSE 10 (atUnit 64) (s.onSense (fun e => { e with spareMode := 2, spareOn := 0x7F, newCorr := none }))

/-- BIST of a slice at unfence (R340). -/
def unfenceSlice (i : Nat) (bad : Bool) (s : State) : State :=
  if bad then s
  else if i = 64 then
    (if s.sense.spareMode = 2 then s.onSense (fun e => { e with spareMode := 0, spareOn := 0x7F }) else s)
  else if s.sense.fenced.getLsbD i then
    let sub := decide (s.sense.spareMode = 1) && decide (s.sense.spareOn = i)
    s.onSense (fun e => { e with fenced := e.fenced &&& ~~~(BitVec.twoPow 64 i), lost := e.lost &&& ~~~(BitVec.twoPow 64 i),
                                 spareMode := if sub then 0 else e.spareMode, spareOn := if sub then 0x7F else e.spareOn })
  else s

/-! A beat (R316 to R325). -/

/-- Canvas pixel of a physical column of a canvas row. -/
def physPx (mx : Bool) (y pc : Nat) : Nat := y * 1536 + colOf mx pc

/-- What the Mallet has recorded for a latch row of canvas row y: 0 duty, 1 and 2 tier bits. -/
def State.recRow (s : State) (y k : Nat) : BitVec 1536 := spGet 0 s.mal.record (s.physRow y * 3 + k)

/-- The kind of one column (R321), from the strobe comparator. -/
def State.kindAt (s : State) (seg y pc : Nat) (strobe : BitVec 1536) : SenseKind :=
  let x := colOf s.mirrorX pc
  let duty := (s.recRow y 0).getLsbD pc
  let tier : Fin 4 := ⟨(bit01 ((s.recRow y 1).getLsbD pc) + 2 * bit01 ((s.recRow y 2).getLsbD pc)) % 4, Nat.mod_lt _ (by decide)⟩
  if s.isCut seg x || (s.converter (seg * 8 + pc / 192)).isNone || (spGet 0 s.sense.unsettled seg).getLsbD pc then .skip
  else if !duty && strobe.getLsbD pc then .darkOn
  else if duty then .own tier
  else if s.sense.zones.any (fun z => zCeil z == 0 && zoneCovers z x y) then .off
  else .pulse

/-- The capture of a beat (R319, R321). -/
def senseCaptureEvent (strobe comply : List (BitVec 1536)) (s : State) : State :=
  if !s.pdIs 10 .on then s else
    let segs := selN 8 (fun n => s.sense.sensed.getLsbD n)
    let row (n : Nat) : Nat := 96 * n + s.sense.row
    s.onSense (fun e =>
      { e with kinds := segs.map (fun n => (n, (List.range 1536).map (fun pc => s.kindAt n (row n) pc (strobe.getD n 0)))),
               comply := segs.map (fun n => (n, comply.getD n 0)) })

/-- Measurements of a segment's sense row; columns of discarded slices are left out. -/
def State.measOf (s : State) (bad : List Nat) (codes : List (List Nat)) (seg : Nat) (ks : List SenseKind) : List Meas :=
  let flags := ((s.sense.comply.find? (fun c => c.1 == seg)).map (·.2)).getD 0
  (ks.zipIdx.filterMap (fun (e : SenseKind × Nat) =>
    let i := seg * 8 + e.2 / 192
    match e.1, s.converter i with
    | .skip, _ => none
    | _, none => none
    | k, some c =>
      if bad.contains i then none
      else some ⟨physPx s.mirrorX (96 * seg + s.sense.row) e.2, k, sliceCode s c ((codes.getD c []).getD (e.2 % 192) 0), flags.getLsbD e.2⟩))

/-- An uncorrectable error of the Roll map: the tile's entry becomes empty and is built up again (R335). -/
def rollUe (t : Nat) (s : State) : State :=
  let s := record bSENSE 12 noUnit s
  let mine (px : Nat) : Bool := pxTile px == t
  s.onSense (fun e =>
    { e with rollMap := e.rollMap.filter (fun x => !mine x.1), cand := e.cand.filter (fun x => !mine x.1),
             normals := e.normals.filter (fun x => !mine x.1), measuredPrev := e.measuredPrev.filter (fun x => x.1 != t),
             refs := e.refs.filter (fun x => x.1 / 4 != t), rollUpd := spSet 0xFFFFFFFF e.rollUpd t 0 })

/-- The conversions of a beat are complete (R326, R337); the tiles whose Roll map entries the update found unreadable (R335). -/
def rollClassifyEvent (codes : List (List Nat)) (refs ue : List Nat) (s : State) : State :=
  let s := ue.foldl (fun s t => rollUe t s) s
  let ks := s.sense.kinds
  let slices := ks.flatMap (fun k => (List.range 8).map (fun j => k.1 * 8 + j))
  let bad := slices.filter (fun i =>
    !s.sense.fenced.getLsbD i &&
      (decide (3508 < sliceCode s i (refs.getD i 0)) || decide (sliceCode s i (refs.getD i 0) < 3492)))
  let rows := ks.map (fun k => (k.1, s.measOf bad codes k.1 k.2))
  let s := rows.foldl (fun s r => applyRow r.1 r.2 s) s
  let s := bad.foldl (fun s i => sliceResid i s) s
  s.onSense (fun e => { e with kinds := [], comply := [] })

/-! Latch readback (R333). -/

/-- A readback has found a pixel's latch different from its record. -/
def latchFault (px : Nat) (above : Bool) (s : State) : State :=
  let e := s.sense
  if e.latchHit.any (fun h => h.1 == px) then s
  else
    let s := s.onSense (fun e => { e with latchHit := e.latchHit ++ [(px, above)] })
    if spGet 0 e.rollMap px = 2 then s.onSense (fun e => { e with normals := spSet 0 e.normals px 0 })
    else if e.latchCand.any (fun h => h.1 == px) && decide (spGet 0 e.cand px = 2) then confirmPx 2 px 0 0 above s
    else s.onSense (fun e => { e with cand := spSet 0 e.cand px 2 })

/-! End of a Roll (R316, R327, R333, R335). -/

/-- The lower median (R327). -/
def lowerMedian (l : List Nat) : Nat := (sortBy (fun a b => decide (a < b)) l).getD ((l.length - 1) / 2) 0

/-- A pixel's latches were read back in the Roll that ends; a cut column is not compared (R310). -/
def State.readable (s : State) (px : Nat) : Bool :=
  s.mal.scanning && !s.mal.gongSegs.getLsbD (pxSeg px) && !s.isCut (pxSeg px) (px % 1536)

/-- Latch candidates and confirmed latch faults of the Roll that ends. -/
def latchRoll (s : State) : State :=
  let hit (px : Nat) : Bool := s.sense.latchHit.any (fun h => h.1 == px)
  let quiet (l : List (Nat × BitVec 3)) : List Nat := (l.filter (fun e => e.2 == 2 && !hit e.1 && s.readable e.1)).map (·.1)
  let s1 := (quiet s.sense.rollMap).foldl (fun s px => normalPx 2 px 0 0 s) s
  let s1 := (quiet s.sense.cand).foldl (fun s px => s.onSense (fun e => { e with cand := spSet 0 e.cand px 0 })) s1
  s1.onSense (fun e => { e with latchCand := e.latchHit, latchHit := [] })

/-- Roll n has ended. -/
def rollEnd (n : Nat) (s : State) : State :=
  let s := latchRoll s
  let formed := s.sense.samples.filter (fun e => decide (16 ≤ e.2.length))
  let s := s.onSense (fun e =>
    { e with roll := BitVec.ofNat 32 n, measuredPrev := e.measured, measured := [], samples := [], rollUpd := [],
             unmeas := 1179648 - sumL (e.measured.map (·.2)),
             refs := formed.foldl (fun m x => spSet 0 m x.1 (BitVec.ofNat 16 (lowerMedian x.2))) e.refs,
             fresh2 := (formed.filter (fun x => decide (x.1 % 4 = 2))).map (fun x => (x.1 / 4, true)) })
  let s := if s.clap.pixOver = 0 then s else
    let past := s.clap.pixOver
    s.onClap (fun c => { c with logPend := c.logPend ++ [⟨2, bSENSE, 0, 0, s.tick, s.sys.st, [], past⟩] })
  s.onClap (fun c => { c with pixLogged := 0, pixOver := 0 })

/-- The beat that ends is the last of a Roll (R316). -/
def senseRoll (s : State) : State := if s.mal.beat % 96 = 95 then rollEnd (s.mal.beat / 96) s else s

/-- The thresholds that act from the next beat, and the segments whose rows are sensed in it (R317, R349). -/
def senseLatch (s : State) : State :=
  s.onSense (fun e => { e with thr := (s.reg 0xA0010, s.reg 0xA0014), sensed := if s.pdIs 10 .on && s.mal.scanning then ~~~s.mal.gongSegs else 0 })

/-- What SENSE does at the start of a beat (R316, R317, R338, R340). -/
def senseBeat (s : State) : State :=
  let s := senseLatch s
  if !s.pdIs 10 .on then s else
    let s := match s.sense.newCorr with
      | some (i, o, g) =>
        (onSlice i (fun c => { c with o := o, g := g, count := satAdd 0xFFFFF c.count 1, tLast := s.stamp, failed := false }) s).onSense (fun e => { e with newCorr := none })
      | none => s
    let cal := s.clap.long.findSome? (fun l => match l.kind with
      | .calSlice i => if i < 64 then some i else none
      | _ => none)
    s.onSense (fun e =>
      let free := decide (e.spareMode = 0) || decide (e.spareMode = 3)
      let on := match cal with
        | some i => i
        | none => if s.bgcal then (if e.spareOn < 64 then e.spareOn else 0) else 0x7F
      { e with row := s.mal.beat % 96, paused := if s.mal.scanning then s.mal.gongSegs else 0xFF, kinds := [], comply := [], unsettled := [],
               spareMode := if free then (if on = 0x7F then 3 else 0) else e.spareMode, spareOn := if free then on else e.spareOn })

/-- A latch row of the sense row changes by a write in slot n (R324): transfers between the strobe window and the capture. -/
def senseTouch (seg y n : Nat) (change : BitVec 1536) (s : State) : State :=
  let at16 := 16 * (n + 1) + fld (s.inForce 0x90024) 16 4
  if y = 96 * seg + s.sense.row ∧ 269 ≤ at16 ∧ at16 ≤ 614 then
    s.onSense (fun e => { e with unsettled := spSet 0 e.unsettled seg (spGet 0 e.unsettled seg ||| change) })
  else s

/-! The spare's fit (R338, R339, R341). -/

/-- Offset and gain from two points: codes in 1/16 LSB and their levels in LSB. -/
def twoPoint (ml mh : Int) (kl kh : Nat) : Int × Int :=
  let g := rhe (32768 * (16 * ((kh : Int) - kl))) (mh - ml).toNat
  (ml - rhe (16 * (kl : Int) * 32768) g.toNat, g)

/-- Mean of some codes in 1/16 LSB. -/
def mean16 (l : List Nat) : Int := rhe (16 * (sumL l : Nat)) l.length

/-- A reference lies more than 4 LSB from its level under a correction (R341). -/
def refOff (c : Slice) (m : Int) (level : Nat) : Bool :=
  decide (4 * 524288 < (m - c.o) * c.g - level * 524288) || decide ((m - c.o) * c.g - level * 524288 < -(4 * 524288))

/-- The floor of a square root, for results below 2^32. -/
def isqrt (n : Nat) : Nat :=
  (List.range 32).foldl (fun r k => if (r + 2 ^ (31 - k)) * (r + 2 ^ (31 - k)) ≤ n then r + 2 ^ (31 - k) else r) 0

/-- The square root of n / d, to the nearest integer. -/
def rootRatio (n d : Nat) : Nat := if d = 0 then 0 else (isqrt (4 * n / d) + 1) / 2

/-- Least-squares line of y over w: offset and gain; none where the codes have no spread. -/
def lineFit (p : List (Nat × Nat)) : Option (Int × Int) :=
  let n : Int := p.length
  let sw : Int := sumL (p.map (·.1))
  let sy : Int := sumL (p.map (·.2))
  let sww : Int := sumL (p.map (fun e => e.1 * e.1))
  let swy : Int := sumL (p.map (fun e => e.1 * e.2))
  let d := n * sww - sw * sw
  let a := n * swy - sw * sy
  if d ≤ 0 ∨ a ≤ 0 then none else some (rhe (-(16 * (sy * sww - sw * swy))) a.toNat, rhe (32768 * a) d.toNat)

/-- Sum of squared residuals in LSB². -/
def residSq (o g : Int) (p : List (Nat × Nat)) : Nat :=
  sumL (p.map (fun e => let d := (corrected o g e.1 : Int) - e.2; (d * d).toNat))

/-- The samples of a slice in the beat are discarded (R339). -/
def discardSlice (i : Nat) (s : State) : State :=
  s.onSense (fun e => { e with kinds := e.kinds.map (fun k =>
    if k.1 = i / 8 then (k.1, k.2.zipIdx.map (fun x => if x.2 / 192 = i % 8 then .skip else x.1)) else k) })

/-- One beat of the spare's cycle: the held samples of the shadowed slice, with the spare's correction in force in that beat, and then the
two references in the idle time, which set its correction for the next (steps 1 and 2 of R338, R341). The pairs gathered; none once the
spare has failed. -/
def spareBeat (i : Nat) (b : SpareBeat) (a : State × Option (List (Nat × Nat))) : State × Option (List (Nat × Nat)) :=
  match a with
  | (s, none) => (s, none)
  | (s, some ps) =>
    let up := if s.sense.stim.contains 64 then 16 else 0
    let raw := if s.sense.stim.contains i then 16 else 0
    let sp := s.slice 64
    let ml := mean16 (b.low.map (· + up))
    let mh := mean16 (b.high.map (· + up))
    if refOff sp ml 500 || refOff sp mh 3500 then (fenceSpare (onSlice 64 (fun c => { c with failed := true }) s), none)
    else
      let (so, sg) := twoPoint ml mh 500 3500
      (onSlice 64 (fun c => { c with o := so, g := sg, count := satAdd 0xFFFFF c.count 1, tLast := s.stamp, failed := false }) s,
        some (ps ++ b.pairs.map (fun p => (p.1 + raw, corrected sp.o sp.g (p.2 + up)))))

/-- The 16 beats of a spare's cycle, from what SLICE_FIT lists per beat. -/
def spareBeats (low high : List (List Nat)) (pairs : List (List (Nat × Nat))) : List SpareBeat :=
  (List.range 16).map (fun b => ⟨pairs.getD b [], low.getD b [], high.getD b []⟩)

/-- The spare completes its cycle on the slice it shadows: the state and whether a correction will be applied. -/
def sliceFit (beats : List SpareBeat) (s : State) : State × Bool :=
  let i := s.sense.spareOn
  match beats.foldl (fun a b => spareBeat i b a) (s, some []) with
  | (s, none) => (s, false)
  | (s, some ps) =>
    let next := s.onSense (fun e => { e with spareOn := (i + 1) % 64 })
    match lineFit ps with
    | none => (sliceResid i (discardSlice i (onSlice i (fun c => { c with failed := true }) next)), false)
    | some (o, g) =>
      let sq := residSq o g ps
      if o < -1024 ∨ 1024 < o ∨ g < 32113 ∨ 33423 < g ∨ 4 * ps.length < sq then
        (sliceResid i (discardSlice i (onSlice i (fun c => { c with failed := true }) next)), false)
      else
        ((onSlice i (fun c => { c with rms := Nat.min 0xFFF (rootRatio (65536 * sq) ps.length) }) next).onSense (fun e => { e with newCorr := some (i, o, g) }), true)

/-- The spare shadows a working slice. -/
def State.shadowing (s : State) : Bool := s.pdIs 10 .on && decide (s.sense.spareMode = 0) && decide (s.sense.spareOn < 64)

/-! The Roll map (R334). -/

def tilePx (t i : Nat) : Nat := (t / 96 * 8 + i / 16) * 1536 + t % 96 * 16 + i % 16

/-- Class code of a pixel: 7 in a cut column without another class. -/
def State.mapCode (s : State) (px : Nat) : Nat :=
  let c := (spGet 0 s.sense.rollMap px).toNat
  if c = 0 ∧ s.isCut (pxSeg px) (px % 1536) = true then 7 else c

/-- The 72-byte entry of a tile. -/
def rollEntry (s : State) (t : Nat) : Bytes :=
  let pxs := (List.range 128).map (tilePx t)
  let codes := pxs.map s.mapCode
  let count (c : Nat) : Byte := BitVec.ofNat 8 (codes.filter (· == c)).length
  let cand := (pxs.filter (fun p => decide (spGet 0 s.sense.cand p ≠ 0))).length
  let seg := t / 96 / 12
  natLe 2 t ++ [count 1, count 2, count 3, count 4, count 5, count 6, BitVec.ofNat 8 cand, BitVec.ofNat 8 (spGet 0 s.sense.measuredPrev t)] ++
  (List.range 4).flatMap (fun k => leOf 2 (spGet 0 s.sense.refs (t * 4 + k))) ++
  natLe 2 (sumL ((selN 16 (fun i => s.isCut seg (t % 96 * 16 + i))).map (2 ^ ·))) ++
  leOf 4 (let r := spGet 0xFFFFFFFF s.sense.rollUpd t; if r = 0xFFFFFFFF then s.sense.roll else r) ++
  natLe 48 (codes.foldr (fun c a => c + 8 * a) 0)

def bodyRollMapRead : Body := fun c s =>
  let ps := c.pkt.params
  let first := numAt ps 0 2
  let n := numAt ps 2 2
  if ps.length ≠ 4 then no badLen s
  else if 9216 ≤ first then no (badParam 0) s
  else if n < 1 ∨ 56 < n ∨ 9216 < first + n then no (badParam 2) s
  else didData ((List.range n).flatMap (fun i => rollEntry s (first + i))) s

end Sys2Proof.Machine
end

