-- ==== Sys2Proof/Machine/Hk.lean ====
section
/-!
DEFINITION. The HK converter (R342 to R348, R472): sequences, conversions, limits, self-calibration, segment currents; the
light-budget check (R376, R377).
-/
namespace Sys2Proof.Machine

/-! Sequence entries (R343). -/

def hkCh (e : BitVec 64) : Nat := fld e 0 6
def hkGain (e : BitVec 64) : Nat := 2 ^ fld e 6 2
def hkDiv (e : BitVec 64) : Nat := 2 ^ fld e 16 3
def hkLimit (e : BitVec 64) : Bool := e.getLsbD 19
def hkSev (e : BitVec 64) : Nat := fld e 20 2
def hkLow (e : BitVec 64) : Nat := fld e 32 16
def hkHigh (e : BitVec 64) : Nat := fld e 48 16

/-- Length of a conversion in 0.25 us. -/
def hkLen (e : BitVec 64) : Nat := fld e 8 8 + 4

/-- Sequence time in 0.25 us (R344). -/
def seqTime (q : List (BitVec 64)) : Nat := sumL (q.map hkLen)

/-- A temperature channel: its results and limits are signed. -/
def isTemp (ch : Nat) : Bool := (decide (8 ≤ ch) && decide (ch < 24)) || decide (ch = 40)

/-- Byte offset, within its 8 bytes, of the first field of an entry that is out of range. -/
def entryBad (e : BitVec 64) : Option Nat := if 42 ≤ hkCh e then some 0 else if fld e 22 2 ≠ 0 then some 2 else if fld e 24 8 ≠ 0 then some 3 else none

/-- Start of every conversion over a full cycle of the rotation pointers, as (time in 0.25 us, channel) (R342, R344, R345). -/
def seqRun (q : List (BitVec 64)) (period4 reps : Nat) : List (Nat × Nat) :=
  ((List.range reps).foldl (fun (a : List (Nat × Nat) × Nat × Nat) r =>
    let one := (q.filter (fun e => decide (r % hkDiv e = 0))).foldl (fun (b : (List (Nat × Nat) × Nat × Nat) × Nat) e =>
      let (acc, pt, pi) := b.1
      let t := b.2
      match hkCh e with
      | 40 => (((t, 8 + pt) :: acc, (pt + 1) % 16, pi), t + hkLen e)
      | 41 => (((t, 24 + pi) :: acc, pt, (pi + 1) % 8), t + hkLen e)
      | c => (((t, c) :: acc, pt, pi), t + hkLen e)) (a, r * period4)
    one.1) ([], 0, 0)).1.reverse

/-- Longest interval between two conversions of a channel, cyclically; none where it is never converted. -/
def longestGap (run : List (Nat × Nat)) (cycle ch : Nat) : Option Nat :=
  match (run.filter (fun e => e.2 == ch)).map (·.1) with
  | [] => none
  | t :: rest => some ((rest ++ [t + cycle]).foldl (fun (a : Nat × Nat) u => (Nat.max a.1 (u - a.2), u)) (0, t)).1

/-- The channels of R345 with their bounds, as thirds of 0.25 us. -/
def gapBounds : List (Nat × Nat) :=
  (List.range 8).map (fun n => (24 + n, 5000)) ++ [(6, 12000), (2, 12000)] ++ (List.range 16).map (fun n => (8 + n, 120000)) ++
  [(0, 1200000), (1, 1200000), (32, 1200000), (33, 1200000)]

/-- A sequence keeps the bounds of R344 and R345 at a period. -/
def seqFits (q : List (BitVec 64)) (period : Nat) : Bool :=
  let reps := 16 * (q.map hkDiv).foldl Nat.max 1
  let run := seqRun q (4 * period) reps
  decide (seqTime q ≤ 4 * period) && gapBounds.all (fun b => match longestGap run (reps * 4 * period) b.1 with
    | some g => decide (3 * g ≤ b.2)
    | none => false)

def State.hkPeriod (s : State) : Nat := s.rfld 0xB0004 0 17

/-- The first rule that a sequence breaks: status and detail (R343 to R345, R348); entries lie from byte 4. -/
def seqBad (q : List (BitVec 64)) (expert : Bool) (s : State) : Option (Nat × Nat) :=
  match (q.zipIdx.findSome? (fun e => (entryBad e.1).map (fun o => 4 + 8 * e.2 + o))) with
  | some o => some (0x11, o)
  | none =>
    match findIdx? (fun e => hkSev e == 3) q with
    | some i => if expert = false then some (0x14, 4 + 8 * i + 2) else if seqFits q s.hkPeriod then none else some (0x11, 0)
    | none => if seqFits q s.hkPeriod then none else some (0x11, 0)

/-- What the safety lock fixes of a sequence (R383): the limits of entries on VLED, VCORE, TEMP and ISEG, and the severities of
the LIMIT sources. -/
def lockedLimits (q : List (BitVec 64)) : List (Nat × Bool × Nat × Nat × Nat) × List Nat :=
  let on (ch : Nat) : Bool := decide (ch = 6) || decide (ch = 2) || isTemp ch || (decide (24 ≤ ch) && decide (ch < 32)) || decide (ch = 41)
  ((q.filter (fun e => on (hkCh e))).map (fun e => (hkCh e, hkLimit e, hkSev e, hkLow e, hkHigh e)), hkSevs q)

/-- A sequence would change what the lock fixes, measured against the newest accepted one. -/
def State.hkLocked (s : State) (q : List (BitVec 64)) : Bool :=
  s.locked && decide (lockedLimits q ≠ lockedLimits (s.hk.nextSeq.getD s.hk.seq))

/-- An accepted sequence comes into force at the next repetition (R348). -/
def hkNext (q : List (BitVec 64)) (s : State) : State := s.onHk (fun h => { h with nextSeq := some q })

def bodyHkSeqSet : Body := fun c s =>
  let ps := c.pkt.params
  let n := numAt ps 0 1
  if ps.length < 4 then no badLen s
  else if n < 1 ∨ 16 < n then no (badParam 0) s
  else
    match findIdx? (fun x => x != 0) (sliceB ps 1 3) with
    | some i => no (badParam (1 + i)) s
    | none =>
      if ps.length ≠ 4 + 8 * n then no badLen s
      else
        let q := (List.range n).map (fun i => BitVec.ofNat 64 (numAt ps (4 + 8 * i) 8))
        if s.hkLocked q then no (refuse 0x14 0xFFFF 0x0C000000) s else
        match seqBad q c.pkt.expert s with
        | some (st, o) => no (refuse st o 0xFFFFFFFF) s
        | none => did (hkNext q s)

/-- HK_CTRL with apply (R348); none where it is refused. -/
def hkApply (v : Word) (s : State) : Option State :=
  let n := fld v 0 5
  let q := s.hk.staging.take n
  if n < 1 ∨ 16 < n ∨ (seqBad q true s).isSome then none else some (hkNext q s)

/-! Conversions (R342, R347, R472). -/

/-- Factory ratio of a gain, in 1/32768. -/
def gainRatio (g : Nat) : Nat := if g = 1 then 32768 else Config.hkGainRatio g

/-- Corrected code of a raw code at a gain. -/
def hkCode (s : State) (g w : Nat) : Nat :=
  (clampI 0 4095 (rhe ((16 * (w : Int) - s.hk.o) * s.hk.g * gainRatio g) (524288 * 32768))).toNat

/-- Segment current in 1/16 mA: 10 mOhm, 1,500 mV for 4,095 codes (R342, R346). -/
def isegOf (c g : Nat) : Nat := rheN (c * 2400000) (4095 * g)

/-- Result of a channel in its unit. -/
def hkValue (ch c g : Nat) : Int :=
  if isTemp ch then Config.tempOffset (ch - 8) + rhe (Config.tempScale (ch - 8) * c) (256 * g)
  else if 24 ≤ ch ∧ ch < 32 then (rheN (isegOf c g) 16 : Nat)
  else
    let div := match ch with
      | 3 => 2
      | 4 => 2
      | 5 => 4
      | 6 => 4
      | 7 => 4
      | 34 => 4
      | 36 => 4
      | 39 => 4
      | _ => 1
    (rheN (c * 1500 * div) (4095 * g) : Nat)

/-- One counted or clean result of an entry (R347). -/
def limitResult (e : Nat) (ent : BitVec 64) (v : Int) (sat inj : Bool) (s : State) : State :=
  let lim (w : Nat) : Int := if isTemp (hkCh ent) then sgn 16 w else w
  let bad := sat || decide (v < lim (hkLow ent)) || decide (lim (hkHigh ent) < v)
  let h := s.hk
  if bad then
    let n := h.outN.getD e 0 + 1
    let s := s.onHk (fun h => { h with outN := h.outN.set e (Nat.min 3 n), inN := h.inN.set e 0 })
    if 3 ≤ n ∧ h.out.getLsbD e = false then
      record bHK e ((atUnitVal e (v % 65536).toNat).inj inj) (s.onHk (fun h => { h with out := h.out ||| BitVec.twoPow 16 e }))
    else s
  else
    let n := h.inN.getD e 0 + 1
    s.onHk (fun h => { h with inN := h.inN.set e (Nat.min 3 n), outN := h.outN.set e 0, out := if 3 ≤ n then h.out &&& ~~~(BitVec.twoPow 16 e) else h.out })

/-- Constants Kb and Kr of R472. -/
def kRef (v : Nat) : Int := rhe (v * 65520 : Nat) 15000

/-- The factory values of the HK references (R461, R463). -/
def State.refVb (s : State) : Nat := if s.nvm.cur.factoryOk then Config.factVb else 12000
def State.refVr (s : State) : Nat := if s.nvm.cur.factoryOk then Config.factVr else 3000

/-- Rms deviation of two sets of 16 codes from their means, in 1/256 LSB. -/
def hkRms (b r : List Nat) : Nat :=
  let sq (l : List Nat) : Nat := 16 * sumL (l.map (fun w => w * w)) - sumL l * sumL l
  rootRatio (65536 * (sq b + sq r)) 512

/-- Self-calibration after a conversion of BANDGAP or REFDAC (R472). -/
def hkSelfCal (s : State) : State :=
  let b := s.hk.bandgap
  let r := s.hk.refdac
  if b.length < 16 ∨ r.length < 16 then s
  else
    let mb : Int := sumL b
    let mr : Int := sumL r
    let kb := kRef s.refVb
    let kr := kRef s.refVr
    let g := rhe (32768 * (kb - kr)) (mb - mr).toNat
    let o := mr - rhe (kr * 32768) g.toNat
    if mr < mb ∧ -320 ≤ o ∧ o ≤ 320 ∧ 31785 ≤ g ∧ g ≤ 33751 then
      s.onHk (fun h => { h with nextCorr := some (o, g), updates := h.updates + 1, tLast := s.stamp, rms := hkRms b r, refBad := false, failed := false })
    else record bHK 16 noUnit (s.onHk (fun h => { h with refBad := true, failed := true }))

/-- One conversion of entry e: raw code w. -/
def hkConvert (e : Nat) (ent : BitVec 64) (w : Nat) (s : State) : State :=
  let h := s.hk
  let ch := if hkCh ent = 40 then 8 + h.ptrT else if hkCh ent = 41 then 24 + h.ptrI else hkCh ent
  let s := s.onHk (fun h => { h with ptrT := if hkCh ent = 40 then (h.ptrT + 1) % 16 else h.ptrT,
                                     ptrI := if hkCh ent = 41 then (h.ptrI + 1) % 8 else h.ptrI })
  let g := hkGain ent
  let c := hkCode s g w
  let left := spGet 0 h.stim e
  let stim := decide (0 < left)
  let v : Int := if stim then (if isTemp ch then sgn 16 (hkHigh ent) else (hkHigh ent : Int)) + 1 else hkValue ch c g
  let sat := decide (1 < g) && (decide (w = 0) || decide (4095 ≤ w))
  let s := s.onHk (fun h =>
    { h with stim := spSet 0 h.stim e (left - 1),
             ch := spSet 0 h.ch ch (BitVec.ofNat 32 ((v % 65536).toNat + c * 2 ^ 16 + bit01 sat * 2 ^ 28 + 2 ^ 29)),
             bandgap := if ch = 0 then (w :: h.bandgap).take 16 else h.bandgap,
             refdac := if ch = 1 then (w :: h.refdac).take 16 else h.refdac,
             temps := if 8 ≤ ch ∧ ch < 24 then modAt h.temps (ch - 8) (fun l => ((v, sat, s.now) :: l).take 64) else h.temps,
             beatMean := if 24 ≤ ch ∧ ch < 32 then modAt h.beatMean (ch - 24) (fun b => match b with
               | some m => some m
               | none => some (isegOf c g)) else h.beatMean })
  let s := if hkLimit ent then limitResult e ent v sat stim s else if sat then record bHK 17 (atUnit e) s else s
  if ch ≤ 1 then hkSelfCal s else s

/-- The start of a repetition: a new sequence and a new correction come into force (R348, R472). -/
def hkStart (s : State) : State :=
  let s := match s.hk.nextSeq with
    | some q =>
      let s := s.onHk (fun h => { h with seq := q, nextSeq := none, rep := 0, ptrT := 0, ptrI := 0, outN := List.replicate 16 0,
                                         inN := List.replicate 16 0, out := 0, ch := [], stim := [] })
      onFlts bHK (fun f => { f with sev0 := sevWord (hkSevs q) 0 }) s
    | none => s
  match s.hk.nextCorr with
  | some (o, g) => s.onHk (fun h => { h with o := o, g := g, nextCorr := none })
  | none => s

/-- HK_REPETITION (R344): the entries that run take the codes in order. -/
def hkRepetition (codes : List Nat) (s : State) : State :=
  if !s.hk.running || !s.pdIs 10 .on then s else
    let s := hkStart s
    let run := (s.hk.seq.zipIdx).filter (fun e => decide (s.hk.rep % hkDiv e.1 = 0))
    let s := (run.zip (codes ++ List.replicate 16 0)).foldl (fun s e => hkConvert e.1.2 e.1.1 e.2 s) s
    s.onHk (fun h => { h with rep := h.rep + 1 })

/-- At a beat boundary the mean taken in the beat that ends is held (R346). -/
def hkBeat (s : State) : State :=
  s.onHk (fun h => { h with held := List.zipWith (fun b l => (b :: l).take 80) h.beatMean h.held, beatMean := List.replicate 8 none })

/-! The light-budget check (R346, R376, R377). -/

/-- Beat means of segment n over the frame that has ended: those of its first F - 1 beats are held, the last has just been taken. -/
def State.frameMeans (s : State) (n : Nat) : List Nat :=
  (s.hk.beatMean.getD n none :: (s.hk.held.getD n []).take (s.frameBeats - 1)).filterMap id

/-- Predicted current in mA. -/
def predMa (dem cut a : Nat) : Nat := rheN ((dem - cut) * a * 10000) 261888000000

/-- The check of one segment. -/
def budgetSeg (n : Nat) (x : Nat × Nat × Nat × Bool) (s : State) : State :=
  let pred := predMa x.1 x.2.1 x.2.2.1
  let meas := fld (s.hk.iseg.getD n 0) 0 16
  let tol := rheN (8 * pred) 100 + 50
  let bad := decide (pred + tol < meas) || decide (meas + tol < pred)
  if x.2.2.2 then s.onSafe (fun f => { f with lbSkipped := f.lbSkipped ||| BitVec.twoPow 8 n })
  else
    let s := s.onSafe (fun f =>
      { f with lb := f.lb.set n (BitVec.ofNat 32 (pred % 65536 + meas * 65536)),
               lbFailed := if bad then f.lbFailed ||| BitVec.twoPow 8 n else f.lbFailed,
               lbClean := f.lbClean.set n (if bad then 0 else Nat.min 16 (f.lbClean.getD n 0 + 1)),
               lbResid := if pred = 0 then f.lbResid else modAt f.lbResid n (fun l => (((meas : Int) - pred, pred) :: l).take 256) })
    if bad then recordSafe 12 (atUnitVal n meas) s else s

/-- LIGHT_BUDGET_CHECK: the means of the frame are written, and compared while PD8 is on. -/
def lightBudgetEvent (s : State) : State :=
  let s := s.onHk (fun h => { h with iseg := (List.range 8).map (fun n =>
    let l := s.frameMeans n
    BitVec.ofNat 32 (Nat.min 65535 (rheN (sumL l) (16 * Nat.max 1 l.length)) + l.length * 65536)) })
  if !s.pdIs 8 .on || s.safe.lbFrame.isEmpty then s else
    let fr := s.safe.lbFrame
    let s := s.onSafe (fun f => { f with lbFailed := 0, lbSkipped := 0, lbFrame := [] })
    let s := (fr.zipIdx).foldl (fun s e => budgetSeg e.2 e.1 s) s
    if s.safe.lbClean.all (fun n => decide (16 ≤ n)) then clearCause 6 s else s

end Sys2Proof.Machine
end

