-- ==== Sys2Proof/Machine/Link.lean ====
section
/-!
DEFINITION. The Envex link (R88 to R140): control blocks, packet acceptance, acknowledgement and credits, bring-up,
RECOVERY, lane drop and rejoin, the adaptation qualifier and the eye monitor.
-/
namespace Sys2Proof.Machine

/-! Control blocks (R94, R99, R116). -/

/-- Byte i of a 64-bit block, byte 0 sent first. -/
def blkByte (b : BitVec 64) (i : Nat) : Nat := fld b (8 * i) 8

def blkBytes (b : BitVec 64) : Bytes := leOf 8 b

/-- A control block of seven bytes and its CRC-8. -/
def mkBlk (bs : Bytes) : BitVec 64 := BitVec.ofNat 64 (leNat (padTo 7 bs ++ [crcP3 (padTo 7 bs)]))

/-- The CRC-8 of a control block holds (R94). -/
def blkOk (b : BitVec 64) : Bool := crcP3 ((blkBytes b).take 7) == byteAt (blkBytes b) 7

/-- A CRC-8 or CRC-32C failure (R134, R140). -/
def crcErr (s : State) : State := record bLINK 2 noUnit (s.bump 0x30060 0 32 1)

/-! Lane sets. -/

def laneSet (s : State) (p : Lane → Bool) : BitVec 4 :=
  BitVec.ofNat 4 (sumL ((List.range 4).map (fun n => if p (s.link.lanes.getD n default) then 2 ^ n else 0)))

def State.lockedSet (s : State) : BitVec 4 := laneSet s (fun l => l.locked)
def State.fencedSet (s : State) : BitVec 4 := laneSet s (fun l => l.fenced)

/-- Fields of LINK_CFG as the bring-up in force took them (R135): lanes_wired as a mask, max_grade, auto_rejoin. -/
def State.wired (s : State) : BitVec 4 :=
  match fld s.link.cfg 1 2 with
  | 0 => 1
  | 1 => 3
  | _ => 15
def State.maxGrade (s : State) : Nat := fld s.link.cfg 4 4
def State.autoRejoin (s : State) : Bool := s.link.cfg.getLsbD 3

/-- The lanes are not in electrical idle (R91, R135), and a lane that this holds of is wired (R88). -/
def State.onAir (s : State) : Bool := decide (s.link.ls ≠ .down) && decide (s.link.ls ≠ .refclkWait)
def State.listens (s : State) (n : Nat) : Bool := s.onAir && s.wired.getLsbD n

def lanesOf (m : BitVec 4) : List Nat := selN 4 (fun n => m.getLsbD n)

/-- The width of a set: the largest of 4, 2 and 1 that does not exceed its size (R101). -/
def widthOf (m : BitVec 4) : Nat :=
  let n := (lanesOf m).length
  if n = 4 then 4 else if 2 ≤ n then 2 else n

/-- The active lanes of a set: its lowest-numbered lanes up to the width (R101), those of `first` before the others (R132). -/
def pickActive (first m : BitVec 4) : BitVec 4 :=
  BitVec.ofNat 4 (sumL (((lanesOf (m &&& first) ++ lanesOf (m &&& ~~~first)).take (widthOf m)).map (fun n => 2 ^ n)))
def activeOf (m : BitVec 4) : BitVec 4 := pickActive 0 m

def onLane (n : Nat) (f : Lane → Lane) (s : State) : State := s.onLink (fun l => { l with lanes := modAt l.lanes n f })
def State.lane (s : State) (n : Nat) : Lane := s.link.lanes.getD n default

/-- Put a set of lanes in use: active lanes and width (R101, R130). -/
def useSet (m : BitVec 4) (s : State) : State :=
  s.onLink (fun l => { l with agreed := m, active := pickActive l.prefer m, rxActive := pickActive l.prefer m,
                              width := BitVec.ofNat 3 (widthOf m), prefer := 0 })

/-- Change the lanes of a set. -/
def onLanes (m : BitVec 4) (f : Lane → Lane) (s : State) : State := (lanesOf m).foldl (fun s n => onLane n f s) s

/-- A lane is treated as dropped: it retrains until it rejoins (R101, R130). -/
def Lane.drop (l : Lane) : Lane := { l with dropped := true, training := true, ready := false, partnerReady := false }

/-- A lane of the set in use: it is no longer dropped or in training. -/
def Lane.join (l : Lane) : Lane := { l with dropped := false, training := false, holdOver := false }

/-! TRAIN and LINKCTL blocks sent. -/

/-- A TRAIN block of one lane (R99): an acknowledgement echoes the token last received on the lane. DESIGN CHOICE (log entry 94): the
UZ1536 requests preset 0 of its partner. -/
def trainBlk (s : State) (msg n : Nat) (lanes : BitVec 4) (grade : Nat) : BitVec 64 :=
  mkBlk [0x55, BitVec.ofNat 8 msg, BitVec.ofNat 8 (n + lanes.toNat * 16),
         BitVec.ofNat 8 (s.maxGrade + grade * 16), BitVec.ofNat 8 (bit01 (s.lane n).locked * 4),
         0x11, if msg = 2 ∨ msg = 4 then (s.lane n).rxToken else s.link.token]

/-- Send a TRAIN message on lanes. -/
def sendTrain (msg : Nat) (on lanes : BitVec 4) (grade : Nat) (s : State) : State :=
  let s' := (lanesOf on).foldl (fun a n => sendCtrl (BitVec.ofNat 4 (2 ^ n)) (trainBlk s msg n lanes grade) a) s
  s'.onLink (fun l => { l with token := l.token + 1 })

/-- A LINKCTL block in the packet stream (R94, R95). -/
def sendLinkctl (bs : Bytes) (s : State) : State :=
  s.onLink (fun l => { l with tx := l.tx ++ [.link l.active (mkBlk (0x66 :: bs))] })

/-- LANE_DROP and LANE_SWITCH: one stripe row of identical blocks on the set active before the change (R95). -/
def sendRow (bs : Bytes) (s : State) : State := sendCtrl s.link.active (mkBlk (0x66 :: bs)) s

/-- ACK of everything accepted (R117). -/
def sendAck (s : State) : State :=
  (sendLinkctl (1 :: leOf 2 (s.link.expSeq - 1)) s).onLink (fun l => { l with sinceAck := 0, rxUnacked := 0 })

/-- NAK, which carries the last number accepted too (R116). -/
def sendNak (reason : Nat) (s : State) : State :=
  (sendLinkctl ([2] ++ leOf 2 (s.link.expSeq - 1) ++ [BitVec.ofNat 8 reason]) s).onLink (fun l => { l with rxUnacked := 0 })

def sendCredit (pool : Nat) (s : State) : State :=
  sendLinkctl ([3, BitVec.ofNat 8 pool] ++ leOf 2 (s.link.ownLimit.getD pool 0)) s

def sendCredits (s : State) : State := forN 3 0 sendCredit s

/-! Bring-up (R98 to R104). -/

/-- Pool 0 credits of the packets that wait in the Clapper's queue (R122). -/
def State.queueUnits (s : State) : BitVec 16 := BitVec.ofNat 16 (sumL (s.clap.queue.map (·.units)))

/-- The link leaves ACTIVE for a full bring-up, or an attempt restarts: the retry buffer is emptied (R121). -/
def emptyLink (s : State) : State :=
  s.onLink (fun l =>
    { l with wasDown := l.wasDown || decide (l.ls = .active) || decide (l.ls = .recovery),
             lostTx := l.lostTx + l.retry.length, lostRx := l.lostRx + l.rxUnacked, retry := [], sinceAck := 0, rxUnacked := 0, stalls := 0,
             gapNak := false, txSeq := 0, expSeq := 0, active := 0, agreed := 0, prefer := 0, rxActive := 0, width := 0, dropSent := false,
             rejoinSet := 0, linkUpSent := false, linkUpGot := false, hostSeen := [false, false, false],
             hostLimit := [0, 0, 0], hostUsed := [0, 0, 0],
             ownLimit := [128 - l.heldCredits - s.queueUnits, 64, 320], ownUsed := [0, 0, 0] })

/-- State of a lane at the start of bring-up; a full bring-up unfences it (R131, R139). -/
def laneStart (l : Lane) : Lane :=
  { l with locked := false, polInv := false, training := false, fenced := false, drops := 0, dropped := false, ready := false,
           partnerReady := false, holdOver := false, acks := 0, advLanes := 0, advGrade := 0, advLocked := false, lowMs := 0, invHdrs := [] }

/-- Enter DETECT, or wait for REFCLK, or stay down while disabled (R91, R98, R104, R135). The configuration is taken here. -/
def startDetect (s : State) : State :=
  let up := decide (s.link.ls = .active)
  let s := emptyLink s
  let w := s.reg 0x30000
  let s := s.onLink (fun l => { l with lanes := l.lanes.map laneStart, cfg := w, grade := 0, cap := w.extractLsb' 4 4, maxPartner := 0 })
  let s :=
    if w.getLsbD 0 = false then s.onLink (fun l => { l with ls := .down })
    else if s.link.refclkOk = false then s.onLink (fun l => { l with ls := .refclkWait })
    else sendTrain 1 s.wired s.wired 1 (onLanes s.wired (fun l => { l with training := true }) (s.onLink (fun l => { l with ls := .detect, grade := 1 })))
  let s := if up then portChanged s else s
  flush s

/-- An attempt has ended without ACTIVE: counted, and a new one starts (R104). -/
def endAttempt (s : State) : State :=
  startDetect (s.onLink (fun l => { l with attempts := if l.attempts = 255 then 255 else l.attempts + 1 }))

/-- Resend every unacknowledged packet with replay = 1 (R118). -/
def resendAll (s : State) : State :=
  let n := s.link.retry.length
  let s := s.onLink (fun l => { l with tx := l.tx ++ l.retry.map (fun p => TxOut.pkt l.active true p) })
  cvEvent 1 (fun x => { x with a := satAdd max32 x.a n }) (s.bump 0x30064 0 32 n)

/-- Enter RECOVERY: the lanes of the set that are not fenced retrain at the current grade, sequence state is kept (R121, R131).
DESIGN CHOICE (log entry 94): their TRAIN blocks carry TS_ADV until LINK_UP. -/
def enterRecovery (s : State) : State :=
  let m := s.link.agreed &&& ~~~s.fencedSet
  let s := s.onLink (fun l => { l with ls := .recovery, agreed := m, dropSent := false, rejoinSet := 0, linkUpSent := false, linkUpGot := false,
                                       lanes := l.lanes.map (fun x => { x with lowMs := 0 }) })
  let s := onLanes m (fun l => { l with training := true, ready := false, partnerReady := false }) s
  portChanged (sendTrain 1 m m s.link.grade.toNat s)

/-- LINK_UP goes out in RECOVERY. -/
def sendUp (m : BitVec 4) (s : State) : State :=
  if s.link.linkUpSent then s
  else (sendTrain 6 m m s.link.grade.toNat s).onLink (fun l => { l with linkUpSent := true })

/-- RECOVERY: this side has retrained once every lane of the set has lock and the eye minimum. -/
def tryUp (s : State) : State :=
  let m := s.link.agreed
  if s.link.ls = .recovery ∧ m ≠ 0 ∧ laneSet s (fun l => l.locked && l.ready) &&& m = m then sendUp m s else s

/-- A replay (R118, R119): after four that brought no advance, RECOVERY. -/
def replay (s : State) : State :=
  if s.link.stalls < 4 then resendAll (s.onLink (fun l => { l with stalls := l.stalls + 1 }))
  else enterRecovery (record bLINK 4 noUnit (s.onLink (fun l => { l with stalls := 0 })))

/-- ACTIVE is entered: EVT LINK_RESET first when the link had been up, then LINK_UP (R103, R121). A completed start-up
enters READY (R60). DESIGN CHOICE (log entry 95): also where the link has come up below S4. -/
def enterActive (s : State) : State :=
  let lost := s.link.wasDown
  let d := natLe 2 (Nat.min 65535 s.link.lostTx) ++ natLe 2 (Nat.min 65535 s.link.lostRx)
  let s := s.onLink (fun l => { l with ls := .active, attempts := 0, wasDown := false, lostTx := 0, lostRx := 0 })
  let s := if lost then (postRec true bLINK 0 4 d s).1 else s
  let s := postEvent bLINK 0 3 [BitVec.ofNat 8 s.link.grade.toNat, BitVec.ofNat 8 s.link.width.toNat] s
  flush (portChanged (bootReady s))

/-- LINK_UP sent and received and all three pools advertised (R103). -/
def tryActive (s : State) : State :=
  if s.link.ls = .linkUp ∧ s.link.linkUpSent = true ∧ s.link.linkUpGot = true ∧ s.link.hostSeen.all (fun b => b) = true then enterActive s
  else s

/-- Enter LINK_UP with the lanes that passed ADAPT (R102, R103). -/
def enterLinkUp (s : State) : State :=
  let pass := laneSet s (fun l => l.ready && l.partnerReady) &&& s.link.agreed
  let fail := s.link.agreed &&& ~~~pass
  let s := onLanes pass Lane.join (onLanes fail Lane.drop (useSet pass s))
  let s := s.onLink (fun l => { l with ls := .linkUp, txSeq := 0, expSeq := 0, retry := [], linkUpSent := true })
  sendCredits (sendTrain 6 pass pass s.link.grade.toNat s)

/-- Lanes of the set that pass ADAPT (R102). -/
def State.passed (s : State) : BitVec 4 := laneSet s (fun l => l.ready && l.partnerReady) &&& s.link.agreed

/-- ADAPT ends when every lane of the set has passed (log entry 30). -/
def tryLinkUp (s : State) : State :=
  if s.link.ls = .adapt ∧ s.passed = s.link.agreed then enterLinkUp s else s

/-- ADAPT without a passing lane: back to STEP at the next lower grade, above which no SPEED_REQ of this attempt is accepted; at S1 the
attempt restarts (R102). -/
def fallback (s : State) : State :=
  if s.link.grade.toNat ≤ 1 then endAttempt s
  else s.onLink (fun l =>
    { l with ls := .step, grade := l.grade - 1, cap := (l.grade - 1).setWidth 4, linkUpSent := false,
             lanes := l.lanes.map (fun x => { x with locked := false, ready := false, partnerReady := false }) })

/-- STEP ends on block lock at the new grade on the lanes of the set (R98). -/
def tryAdapt (s : State) : State :=
  if s.link.ls = .step ∧ s.link.linkUpSent = true ∧ s.lockedSet &&& s.link.agreed = s.link.agreed then
    s.onLink (fun l => { l with ls := .adapt, linkUpSent := false, lanes := l.lanes.map (fun x => { x with ready := false, partnerReady := false }) })
  else s

/-- The set both sides can use: both masks, and lanes on which both report lock (R101). -/
def State.commonSet (s : State) : BitVec 4 :=
  s.wired &&& laneSet s (fun l => l.locked && l.advLocked) &&& (s.lane 0).advLanes

/-- Fields of a received TRAIN block that this protocol version can use (R99). -/
def trainOk (b : BitVec 64) (msg lane : Nat) : Bool :=
  decide (blkByte b 0 = 0x55) && decide (blkByte b 1 = msg) && decide (blkByte b 2 % 16 = lane) &&
  decide (blkByte b 4 / 8 = 0) && decide (blkByte b 5 = 0x10)

/-- What a lane notes of a TRAIN block: its token, and in training the TX preset its partner asks for (R99, R105). -/
def Lane.hear (b : BitVec 64) (l : Lane) : Lane :=
  { l with rxToken := BitVec.ofNat 8 (blkByte b 6), preset := if l.training then BitVec.ofNat 2 (blkByte b 4) else l.preset }

/-- A TRAIN block is received on a wired lane (R88): its CRC-8 first (R94), then its message. -/
def trainRx (lane : Nat) (b : BitVec 64) (msg : Nat) (f : State → State) (s : State) : State :=
  if !s.listens lane then s
  else if !blkOk b then crcErr s
  else if trainOk b msg lane then f (onLane lane (Lane.hear b) s)
  else s

/-- TS_ADV (R98, R101). -/
def tsAdvEvent (lane : Nat) (b : BitVec 64) (s : State) : State :=
  trainRx lane b 1 (fun s =>
    if s.link.ls = .detect ∨ s.link.ls = .config then
      let s := onLane lane (fun l => { l with advLanes := BitVec.ofNat 4 (blkByte b 2 / 16), advGrade := BitVec.ofNat 4 (blkByte b 3 % 16),
                                              advLocked := decide (blkByte b 4 / 4 % 2 = 1), acks := 0 }) s
      let s := s.onLink (fun l => { l with maxPartner := BitVec.ofNat 4 (blkByte b 3 % 16) })
      if s.link.ls = .detect then
        (if lane = 0 ∧ (s.lane 0).locked = true then
          sendTrain 1 s.wired s.wired 1 (s.onLink (fun l => { l with ls := .config }))
        else s)
      else sendTrain 2 s.commonSet s.commonSet 1 s
    else s) s

/-- TS_ACK (R98, R101): eight in a row on every lane of the set end CONFIG. -/
def tsAckEvent (lane : Nat) (b : BitVec 64) (s : State) : State :=
  trainRx lane b 2 (fun s =>
    if s.link.ls = .config then
      let set := s.commonSet
      if BitVec.ofNat 4 (blkByte b 2 / 16) = set then
        let s := onLane lane (fun l => { l with acks := l.acks + 1 }) s
        if set ≠ 0 ∧ (lanesOf set).all (fun n => decide (8 ≤ (s.lane n).acks)) = true then
          onLanes (s.wired &&& ~~~set) Lane.drop (useSet set (s.onLink (fun l => { l with ls := .step, linkUpSent := false })))
        else s
      else onLane lane (fun l => { l with acks := 0 }) s
    else s) s

/-- SPEED_REQ (R102): after SPEED_ACK 16 further TRAIN blocks, then the new grade. DESIGN CHOICE (log entry 94): those blocks repeat
SPEED_ACK, and a grade of 0 is answered as one above the maximum. -/
def speedReqEvent (lane : Nat) (b : BitVec 64) (s : State) : State :=
  trainRx lane b 3 (fun s =>
    if s.link.ls = .step then
      let g := blkByte b 3 / 16
      if g = 0 ∨ s.link.cap.toNat < g then
        endAttempt (record bLINK 7 noUnit (sendTrain 7 s.link.agreed s.link.agreed s.link.grade.toNat (s.bump 0x30068 0 16 1)))
      else
        let s1 := iter 17 (fun s => sendTrain 4 s.link.agreed s.link.agreed g s) s
        let same := decide (s.link.grade.toNat = g)
        tryAdapt (s1.onLink (fun l =>
          { l with grade := BitVec.ofNat 3 g, linkUpSent := true,
                   lanes := if same then l.lanes else l.lanes.map (fun x => { x with locked := false }) }))
    else s) s

/-- Dropped lanes that are ready to rejoin on this side: locked, through ADAPT on both sides, not fenced (R130). -/
def State.rejoinable (s : State) : BitVec 4 :=
  laneSet s (fun l => l.dropped && l.locked && l.ready && l.partnerReady && !l.fenced) &&& s.wired

/-- REJOIN is offered for the lanes that are ready and whose hold has passed (R130). -/
def tryRejoin (s : State) : State :=
  let go := s.rejoinable &&& laneSet s (fun l => l.holdOver)
  if s.link.ls = .active ∧ s.autoRejoin = true ∧ go ≠ 0 then sendLinkctl [6, BitVec.ofNat 8 go.toNat] s else s

/-- EQ_DONE: the partner's side of ADAPT on this lane (R102, R130). -/
def eqDoneEvent (lane : Nat) (b : BitVec 64) (s : State) : State :=
  trainRx lane b 5 (fun s =>
    if s.link.ls = .adapt ∨ s.link.ls = .recovery ∨ (s.link.ls = .active ∧ (s.lane lane).dropped = true) then
      tryRejoin (tryLinkUp (onLane lane (fun l => { l with partnerReady := true }) s))
    else s) s

/-- LINK_UP (R98, R103, R121): in RECOVERY it ends the retraining, and both sides act as on NAK. -/
def linkUpEvent (lane : Nat) (b : BitVec 64) (s : State) : State :=
  trainRx lane b 6 (fun s =>
    match s.link.ls with
    | .adapt => if s.passed = 0 then s else tryActive ((enterLinkUp s).onLink (fun l => { l with linkUpGot := true }))
    | .linkUp => tryActive (s.onLink (fun l => { l with linkUpGot := true }))
    | .recovery =>
      let set := s.lockedSet &&& s.link.agreed
      if set = 0 then s
      else
        let s := onLanes set Lane.join (onLanes (s.link.agreed &&& ~~~set) Lane.drop (sendUp set s))
        flush (resendAll (portChanged ((useSet set s).onLink (fun l => { l with ls := .active, linkUpGot := true, stalls := 0 }))))
    | _ => s) s

/-- ABORT (R98, R102). DESIGN CHOICE (log entry 94): a received ABORT ends and counts the attempt, and a new one starts. -/
def abortEvent (lane : Nat) (b : BitVec 64) (s : State) : State :=
  trainRx lane b 7 (fun s =>
    match s.link.ls with
    | .detect => endAttempt s
    | .config => endAttempt s
    | .step => endAttempt s
    | .adapt => endAttempt s
    | .linkUp => endAttempt s
    | _ => s) s

/-- A state timeout of bring-up (R98). -/
def stateTimeout (s : State) : State :=
  match s.link.ls with
  | .detect => endAttempt s
  | .config => startDetect s
  | .step => startDetect s
  | .adapt => if s.passed = 0 then fallback s else enterLinkUp s
  | .linkUp => startDetect s
  | _ => s

/-- The attempt timer expires (R104); the first ended attempt lets READY be entered (R60), and so does the end of the same time where no
attempt can run (log entry 83). -/
def attemptTimeoutEvent (s : State) : State :=
  match s.link.ls with
  | .detect => bootReady (endAttempt s)
  | .config => bootReady (endAttempt s)
  | .step => bootReady (endAttempt s)
  | .adapt => bootReady (endAttempt s)
  | .linkUp => bootReady (endAttempt s)
  | _ => bootReady s

/-- RECOVERY has failed (R121). -/
def recoveryTimeoutEvent (s : State) : State :=
  if s.link.ls = .recovery then startDetect (record bLINK 5 noUnit s) else s

/-- REFCLK declared lost (R91, R433). -/
def refclkLossEvent (s : State) : State :=
  let was := s.link.refclkOk
  let s := s.onLink (fun l => { l with refclkOk := false })
  let s := if s.pdIs 3 .on then startDetect s else s
  timeBase true (if was then record bLINK 6 noUnit s else s)

/-- REFCLK declared restored: a full bring-up starts (R91). -/
def refclkRestoreEvent (s : State) : State :=
  if s.link.refclkOk then s
  else
    let s := timeBase false (s.onLink (fun l => { l with refclkOk := true }))
    if s.pdIs 3 .on then startDetect s else s

/-! Lane drop and rejoin (R127 to R132). -/

/-- A lane drop is recorded; its tally fences the lane (R129, R131). -/
def countDrop (n : Nat) (s : State) : State :=
  let s := s.onLink (fun l => { l with agreed := l.agreed &&& ~~~(BitVec.twoPow 4 n), rejoinSet := l.rejoinSet &&& ~~~(BitVec.twoPow 4 n) })
  let s := onLane n (fun l => { l.drop with drops := if l.drops = 0xFFFF then l.drops else l.drops + 1, holdOver := false }) s
  let r := recordT bLINK 1 (atUnit n) s
  if r.2 then onLane n (fun l => { l with fenced := true }) r.1 else r.1

/-- Send LANE_SWITCH with a new active set and its width, switch to it with the lanes of the set m, and act as on NAK (R127, R129). -/
def switchTo (m act : BitVec 4) (s : State) : State :=
  let s := sendRow [5, BitVec.ofNat 8 act.toNat, BitVec.ofNat 8 (lanesOf act).length] s
  let s := useSet m (s.onLink (fun l => { l with dropSent := false, rejoinSet := 0, prefer := act }))
  flush (resendAll s)

/-- The set with which RECOVERY is entered when the last active lane has lost lock: every lane with lock that is not fenced, standby
lanes first (R132). Where none has lock, the lanes of the set retrain. -/
def lastLane (was : BitVec 4) (s : State) : State :=
  let left := s.lockedSet &&& s.wired &&& ~~~s.fencedSet
  enterRecovery (s.onLink (fun l => { l with prefer := l.agreed &&& ~~~l.active, agreed := if left = 0 then was else left }))

/-- Loss of block lock on a lane (R127, R132). -/
def dropLane (n : Nat) (s : State) : State :=
  let was := s.link.agreed
  let s := onLane n (fun l => { l with locked := false, ready := false, invHdrs := [] }) s
  if s.link.ls = .active ∧ was.getLsbD n = true then
    let s := countDrop n s
    if s.link.active &&& s.lockedSet &&& s.link.agreed = 0 then lastLane was s
    else (sendRow [4, BitVec.ofNat 8 s.lockedSet.toNat] s).onLink (fun l => { l with dropSent := true })
  else s

/-- A lane gains block lock (R96, R98, R100). -/
def lockGain (n : Nat) (inv : Bool) (s : State) : State :=
  if !s.listens n then s
  else
    let s := onLane n (fun l => { l with locked := true, invHdrs := [], polInv := if s.link.ls = .detect then inv else l.polInv }) s
    tryUp (tryAdapt s)

def linkctlOk (b : BitVec 64) (sub : Nat) : Bool := decide (blkByte b 0 = 0x66) && decide (blkByte b 1 = sub)

/-- A LINKCTL block is received: its CRC-8 first (R94), then its subtype. -/
def ctlRx (sub : Nat) (b : BitVec 64) (f : State → State) (s : State) : State :=
  if !s.onAir then s
  else if !blkOk b then crcErr s
  else if linkctlOk b sub then f s
  else s

/-- LANE_DROP received: answered with LANE_SWITCH to the new set (R127, R128). DESIGN CHOICE (log entry 94): where the new set is empty,
RECOVERY is entered and no drop is tallied. -/
def laneDropEvent (b : BitVec 64) (s : State) : State :=
  ctlRx 4 b (fun s =>
    if s.link.ls ≠ .active then s
    else
      let m := BitVec.ofNat 4 (blkByte b 2) &&& s.lockedSet &&& s.link.agreed &&& ~~~s.fencedSet
      if m = 0 then enterRecovery s
      else
        let s := (lanesOf (s.link.agreed &&& ~~~m)).foldl (fun s n => countDrop n s) s
        switchTo m (activeOf m) s) s

/-- LANE_SWITCH received (R127, R128): the set already in force is ignored, unless it answers the drop of a standby lane; the answer to
an own LANE_DROP must lie in the lanes this side can use. -/
def laneSwitchEvent (b : BitVec 64) (s : State) : State :=
  ctlRx 5 b (fun s =>
    if s.link.ls ≠ .active then s
    else
      let a := BitVec.ofNat 4 (blkByte b 2)
      let m := s.lockedSet &&& s.link.agreed &&& ~~~s.fencedSet
      let k := (lanesOf a).length
      let fits := decide (a ≠ 0) && decide (a &&& ~~~m = 0) && decide (blkByte b 3 = k) && decide (k ≠ 3)
      let set := if widthOf m = k then m else a
      if s.link.dropSent && fits then switchTo set a (onLanes (m &&& ~~~set) Lane.drop s)
      else if a = s.link.active then s
      else enterRecovery s) s

/-- No LANE_SWITCH has answered LANE_DROP (R127). -/
def laneSwitchTimeoutEvent (s : State) : State :=
  if s.link.ls = .active ∧ s.link.dropSent = true then enterRecovery (record bLINK 4 noUnit s) else s

/-- The rejoin hold of a lane has passed (R130). -/
def rejoinHoldEvent (n : Nat) (s : State) : State :=
  if (s.lane n).dropped then tryRejoin (onLane n (fun l => { l with holdOver := true }) s) else s

/-- REJOIN received (R130). -/
def rejoinEvent (b : BitVec 64) (s : State) : State :=
  ctlRx 6 b (fun s =>
    if s.link.ls ≠ .active then s
    else
      let m := BitVec.ofNat 4 (blkByte b 2) &&& s.rejoinable
      (sendLinkctl [7, BitVec.ofNat 8 m.toNat] s).onLink (fun l => { l with rejoinSet := m })) s

/-- REJOIN_ACK received (R130). -/
def rejoinAckEvent (b : BitVec 64) (s : State) : State :=
  ctlRx 7 b (fun s =>
    if s.link.ls ≠ .active then s
    else s.onLink (fun l => { l with rejoinSet := BitVec.ofNat 4 (blkByte b 2) &&& s.rejoinable })) s

/-- ALIGN received on a lane (R97, R130): out of tolerance it counts as lost lock; in ACTIVE it names the set over which the partner's
stream is striped from the next block. -/
def alignEvent (n : Nat) (b : BitVec 64) (inTol : Bool) (s : State) : State :=
  let a := BitVec.ofNat 4 (blkByte b 2)
  if !s.listens n then s
  else if !blkOk b then crcErr s
  else if blkByte b 0 ≠ 0x4B ∨ blkByte b 1 ≠ n then s
  else if !inTol then dropLane n s
  else if s.link.ls = .active ∧ (a = s.link.active ∨ a = activeOf (s.link.agreed ||| s.link.rejoinSet)) then
    s.onLink (fun l => { l with rxActive := a })
  else s

/-- The own ALIGN on every wired lane: lanes agreed for rejoin join at it (R97, R130). -/
def sendAligns (s : State) : State :=
  let m := s.link.agreed ||| s.link.rejoinSet
  let s := if s.link.ls = .active ∧ s.link.rejoinSet ≠ 0 then
      useSet m (onLanes s.link.rejoinSet Lane.join (s.onLink (fun l => { l with rejoinSet := 0 })))
    else s
  let s := s.onLink (fun l => { l with marker := l.marker + 1 })
  (lanesOf s.wired).foldl (fun a k =>
    sendCtrl (BitVec.ofNat 4 (2 ^ k)) (mkBlk ([0x4B, BitVec.ofNat 8 k, BitVec.ofNat 8 s.link.active.toNat] ++ leOf 3 s.link.marker)) a) s

/-- One 40 ns period of the lanes: at grade g a lane sends 100 * 2^(g - 1) / 128 blocks in it, and every lane an ALIGN once per 16,384
blocks (R89, R97). -/
def tickLink (s : State) : State :=
  if !s.onAir then s
  else
    let p := s.link.blkPhase + 100 * 2 ^ (s.link.grade.toNat - 1)
    if p < 2097152 then s.onLink (fun l => { l with blkPhase := p })
    else sendAligns (s.onLink (fun l => { l with blkPhase := p - 2097152 }))

/-- One period of the time base: the Tabors and the keeper advance, and the lanes send (R89, R97, R432). -/
def tick (s : State) : State := tickLink (tickTime s)

/-- The eye minimum is met on a lane in ADAPT, in RECOVERY or in retraining: EQ_DONE is sent (R102, R121, R130). -/
def eyeMinimumEvent (n : Nat) (s : State) : State :=
  if s.link.ls = .adapt ∨ (s.link.ls = .recovery ∧ s.link.agreed.getLsbD n = true) ∨
      (s.link.ls = .active ∧ (s.lane n).dropped = true ∧ (s.lane n).locked = true) then
    let s := sendTrain 5 (BitVec.ofNat 4 (2 ^ n)) s.link.agreed s.link.grade.toNat (onLane n (fun l => { l with ready := true })
      (s.onLink (fun l => { l with cal := modAt l.cal n (fun c => { c with count := c.count + 1, last := s.stamp, failed := false }) })))
    tryRejoin (tryUp (tryLinkUp s))
  else s

/-- An invalid sync header, `gap` valid ones after the one before it (R96, R410): 32 within 1,024 blocks lose block lock, and the tally
drops the lane as a loss of lock does. -/
def laneErrEvent (n gap : Nat) (s : State) : State :=
  if !s.listens n then s
  else
    let inv := 0 :: ((s.lane n).invHdrs.map (· + gap + 1)).filter (· < 1024)
    let s := onLane n (fun l => { l with invHdrs := inv }) (s.bump (0x30028 + 0x10 * n) 0 32 1)
    let r := recordT bLINK 0 (atUnit n) s
    if r.2 || (decide (32 ≤ inv.length) && (s.lane n).locked) then dropLane n r.1 else r.1

/-! Packets from the host (R109 to R125). -/

/-- Lengths of the payload of each class that the host may send (R110). -/
def hostLenOk (cls n : Nat) : Bool :=
  match cls with
  | 1 => decide (18 ≤ n) && decide (n ≤ 4160)
  | 3 => decide (12 ≤ n) && decide (n ≤ 4104)
  | 4 => decide (n = 8)
  | 5 => decide (40 ≤ n) && decide (n ≤ 1024)
  | 6 => decide (16 ≤ n) && decide (n ≤ 64)
  | _ => false

/-- Reserved fields of the classes that this chapter lays out (R110, R111). -/
def hostResvOk (cls : Nat) (pl : Bytes) : Bool :=
  match cls with
  | 3 => decide (numAt pl 6 2 = 0)
  | 4 => decide (numAt pl 0 1 < 64) && decide (leNat (pl.drop 1) = 0)
  | _ => true

/-- Classes that the host sends, whose packets take credits of its pools (R110, R122). -/
def hostClass (cls : Nat) : Bool := cls == 1 || cls == 3 || cls == 4 || cls == 5 || cls == 6

/-- A link rule breach by the partner, or a packet without credit (R123, R125). -/
def linkViol (cls seq : Nat) (s : State) : State :=
  (s.bump 0x30068 0 16 1).setFld 0x30068 16 4 cls |>.setReg 0x3006C (BitVec.ofNat 32 seq)

/-- The receiving block has consumed a packet: its credits return (R122); pool 0 holds them through a warm restart (R124). -/
def returnCredits (pool units : Nat) (s : State) : State :=
  if pool = 0 ∧ s.clap.restarting = true then
    s.onLink (fun l => { l with heldCredits := l.heldCredits + BitVec.ofNat 16 units })
  else sendCredit pool (s.onLink (fun l => { l with ownLimit := modAt l.ownLimit pool (· + BitVec.ofNat 16 units) }))

/-- One more packet is accepted; the sixteenth since the last ACK sends one (R115, R117). -/
def acceptSeq (s : State) : State :=
  let s := s.onLink (fun l => { l with expSeq := l.expSeq + 1, sinceAck := l.sinceAck + 1, rxUnacked := l.rxUnacked + 1, gapNak := false })
  if 16 ≤ s.link.sinceAck then sendAck s else s

/-- A packet is received: CV0, sequence, credit and the rules of this chapter (R109, R115, R123, R125). The payload of an
accepted packet, with replay and link sequence number, goes to its block. The credits of a CMD return when the Clapper takes it, those
of every other packet at once (R122). -/
def linkRx (raw : Bytes) (s : State) : State × Option (Nat × Bytes × Bool × BitVec 16) :=
  if s.link.ls ≠ .active then (s, none) else
    let st := raw.take 8
    let len := numAt st 4 2
    let pl := sliceB raw 8 len
    let good := decide (8 + len + 4 ≤ raw.length) && byteAt st 0 == 0x78 && crcP3 (st.take 7) == byteAt st 7 &&
      crcP1 (sliceB st 1 5 ++ pl) == u32At raw (8 + len)
    let s := cvCheck 0 good s
    if !good then (sendNak 1 (crcErr s), none) else
      let seq := u16At st 2
      let cls := numAt st 1 1 % 16
      let ahead := (s.link.expSeq - seq).toNat
      if seq ≠ s.link.expSeq then
        (if 1 ≤ ahead ∧ ahead ≤ 32768 then (sendAck s, none)
        else if s.link.gapNak then (s, none)
        else ((sendNak 2 s).onLink (fun l => { l with gapNak := true }), none))
      else
        let pool := poolOf cls
        let units := creditsOf len
        let take (s : State) : State := s.onLink (fun l => { l with ownUsed := modAt l.ownUsed pool (· + BitVec.ofNat 16 units) })
        if decide (cls = 0) || decide (9 ≤ cls) || decide (cls = 2) || decide (7 ≤ cls) || !hostLenOk cls len ||
            decide (numAt st 1 1 / 32 ≠ 0) || decide (numAt st 6 1 ≠ 0) || !hostResvOk cls pl then
          let s := linkViol cls seq.toNat (acceptSeq s)
          let s := if hostClass cls then returnCredits pool units (take s) else s
          (violationLink bLINK 7 seq 0 0 0xFFFFFFFF s, none)
        else if (s.link.ownLimit.getD pool 0 - s.link.ownUsed.getD pool 0).toNat < units then
          (record bLINK 7 noUnit (linkViol cls seq.toNat (sendNak 4 s)), none)
        else
          let s := take (acceptSeq s)
          (if cls = 1 then s else returnCredits pool units s, some (cls, pl, decide (numAt st 1 1 / 16 % 2 = 1), seq))

/-! Acknowledgements, credits and timers. -/

/-- The number an ACK or NAK carries releases packets from the retry buffer (R117, R118). -/
def releaseAcked (a : BitVec 16) (s : State) : State :=
  if s.link.retry.length < (s.link.txSeq - 1 - a).toNat then s else
    let gone := s.link.retry.filter (fun p => decide ((a - p.seq).toNat < 32768))
    let s := s.onLink (fun l => { l with retry := l.retry.filter (fun p => !decide ((a - p.seq).toNat < 32768)),
                                         stalls := if gone.isEmpty then l.stalls else 0 })
    gone.foldl (fun s p => markDelivered p.tag s) s

def ackEvent (b : BitVec 64) (s : State) : State :=
  ctlRx 1 b (fun s => if s.link.ls ≠ .active then s else flush (releaseAcked (BitVec.ofNat 16 (fld b 16 16)) s)) s

def nakEvent (b : BitVec 64) (s : State) : State :=
  ctlRx 2 b (fun s => if s.link.ls ≠ .active then s else flush (replay (releaseAcked (BitVec.ofNat 16 (fld b 16 16)) s))) s

/-- CREDIT (R122). DESIGN CHOICE (log entry 94): a cumulative limit that would go backward is ignored. -/
def creditEvent (b : BitVec 64) (s : State) : State :=
  ctlRx 3 b (fun s =>
    let pool := blkByte b 2
    let v := BitVec.ofNat 16 (fld b 24 16)
    let live := decide (s.link.ls = .active) || decide (s.link.ls = .linkUp) || decide (s.link.ls = .recovery)
    if live = false ∨ 3 ≤ pool then s
    else if 32768 ≤ (v - s.link.hostLimit.getD pool 0).toNat then s
    else flush (tryActive (s.onLink (fun l => { l with hostLimit := l.hostLimit.set pool v, hostSeen := l.hostSeen.set pool true })))) s

def ackDueEvent (s : State) : State := if s.link.ls = .active ∧ 0 < s.link.sinceAck then sendAck s else s

def creditRefreshEvent (s : State) : State :=
  if s.link.ls = .active ∨ s.link.ls = .linkUp then sendCredits s else s

def replayTimeoutEvent (s : State) : State :=
  if s.link.ls = .active ∧ s.link.retry.isEmpty = false then flush (replay s) else s

/-- An unfinished packet is discarded (R120). -/
def partialEvent (s : State) : State := if s.link.ls = .active then record bLINK 3 noUnit (sendNak 3 s) else s

/-! Adaptation and eye (R106, R108). -/

/-- Coefficients that the LMS adaptation reaches in a window (R105): which, the spec does not give (log entry 11). -/
def freshCoef (s : State) : List Word := (List.range 4).map (fun i => Config.freeWord (s.freeIdx + i))

/-- Length of a qualifier window in 1/660 ns (R89, R106). -/
def windowLen (grade : Nat) : Nat := 33554432 / 2 ^ (grade - 1)

def adaptWindow (n trans one runs : Nat) (s : State) : State :=
  let q := (s.lane n).qual
  let next := s.reg 0x30010
  let coef := if (s.lane n).frozen then (s.lane n).coef else freshCoef s
  let s := if (s.lane n).frozen then s else s.onFreeIdx (· + 4)
  let dens (t : Nat) : Bool := decide (t * 65536 ≤ trans * 256)
  let spr (t : Nat) : Bool := decide (t * runs ≤ one * 256)
  let fine := dens (fld q 0 8) && spr (fld q 16 8)
  let good := dens (fld q 8 8) && spr (fld q 24 8)
  let l := s.lane n
  let total := l.frozenNs + (if l.frozen then windowLen s.link.grade.toNat else 0)
  onLane n (fun l =>
    let f := { l with frozenNs := total, frozenMs := BitVec.ofNat 16 (Nat.min 65535 (total / 660000000)), qual := next, coef := coef }
    if f.frozen then
      let k := if good then f.goodWins + 1 else 0
      if 4 ≤ k then { f with frozen := false, goodWins := 0 } else { f with goodWins := k }
    else if fine then { f with goodWins := 0 }
    else { f with frozen := true, goodWins := 0, freezes := if f.freezes = 0xFFFF then f.freezes else f.freezes + 1 }) s

/-- The eye monitor measures each wired lane (R88, R108). DESIGN CHOICE (log entry 94): 'for 1 s' is 100 measurements in a row below
25 mV, recorded once for each such run. -/
def eyeMeasureEvent (hs ws : List Nat) (s : State) : State :=
  if s.link.ls ≠ .active then s else
    (lanesOf s.wired).foldl (fun s n =>
      let h := hs.getD n 0
      let low := if h < 25 then (s.lane n).lowMs + 10 else 0
      let s := onLane n (fun l => { l with eyeH := BitVec.ofNat 12 h, eyeW := BitVec.ofNat 10 (ws.getD n 0), lowMs := Nat.min 1010 low }) s
      if low = 1000 then record bLINK 8 (atUnitVal n h) s else s) s

/-! LINK_CFG and LINK_CTRL (R135, R136). -/

/-- LINK_CFG.enable written: 0 idles every lane at once, 1 starts bring-up. -/
def linkEnableChanged (was now : Bool) (s : State) : State :=
  if was = now ∨ s.pdIs 3 .on = false then s else startDetect s

def retrain (s : State) : State := if s.pdIs 3 .on then startDetect s else s

/-- LINK_CTRL.recover. DESIGN CHOICE (log entry 94): without effect while the link is not ACTIVE. -/
def recover (s : State) : State := if s.link.ls = .active then enterRecovery s else s

def unfenceLanes (m : BitVec 4) (s : State) : State :=
  (lanesOf m).foldl (fun s n => onLane n (fun l => { l with fenced := false }) s) s

end Sys2Proof.Machine
end

