-- ==== Sys2Proof/Machine/Cal.lean ====
section
/-!
DEFINITION. Calibration (R460 to R481): the quality records, CAL_RUN and how its runs complete, CAL_QUERY, the aging
baseline and update, TRIM_DELTA_WRITE, RESTORE_FACTORY, and writes of the gain and trim tables.
-/
namespace Sys2Proof.Machine

/-! Writes of the calibration tables (R467, R468, R470). -/

/-- User gain deltas are written, the calibration table generation advances (R464). -/
def writeGainU (vals : List (Nat × Int)) (s : State) : State :=
  let lo := (vals.map (·.1)).foldl Nat.min 1179648
  let hi := maxL (vals.map (·.1))
  let s := touchMram (0x368000 + lo) (hi + 1 - lo) s
  let s := s.onNvm (fun n => { n with gainU := vals.foldl (fun m e => spSet 0 m e.1 e.2) n.gainU })
  saveCfg (fun d => { d with gainTime := s.stamp }) (nextCalGen s)

def writeGainF (first : Nat) (vals : List (BitVec 10)) (s : State) : State :=
  let s := touchMram (0x200000 + first * 10 / 8) (vals.length * 10 / 8 + 2) s
  let s := s.onNvm (fun n => { n with gainF := (vals.zipIdx).foldl (fun m e => spSet (Config.factGain (first + e.2)) m (first + e.2) e.1) n.gainF })
  saveCfg (fun d => { d with gainTime := s.stamp }) (nextCalGen s)

/-- Segments that a run of column entries touches count one accepted change each (R466); the table takes a new generation (R159). -/
def writeColDelta (first : Nat) (vals : List Int) (s : State) : State :=
  let segs := selN 8 (fun g => decide (first < 1536 * (g + 1)) && decide (1536 * g < first + vals.length))
  saveCfg (fun d =>
    { d with colDelta := (vals.zipIdx).foldl (fun m e => spSet 0 m (first + e.2) e.1) d.colDelta,
             colGen := d.colGen + 1, colCount := segs.foldl (fun l g => modAt l g (· + 1)) d.colCount,
             colTime := segs.foldl (fun l g => l.set g s.stamp) d.colTime }) s

/-! Quality records (R466, R477, R479, R480). -/

/-- q0 of COL_TRIM: rms of the relative residual in 0.01 %. -/
def State.colQ0 (s : State) (seg : Nat) : Nat :=
  let r := (s.safe.lbResid.getD seg []).filter (fun e => decide (0 < e.2))
  let sq := sumL (r.map (fun e => let x := rhe (e.1 * 2560000) e.2; (x * x).toNat))
  if r.isEmpty then 0 else rheN (rootRatio sq r.length) 256

/-- q0 of TABOR_XO: standard deviation of the last accepted windows. -/
def State.xtalQ0 (s : State) : Nat :=
  let h := s.tab.xtalHist
  let n := h.length
  let m := sumI h
  if n = 0 then 0 else rootRatio ((n : Int) * sumI (h.map (fun x => x * x)) - m * m).toNat (n * n)

/-- Word of a correction: offset in [11:0], gain in [27:12] (R349, R460). -/
def corrWord (o g : Int) : Word := BitVec.ofNat 32 ((o % 4096).toNat + (g % 65536).toNat * 4096)

structure CalRec where
  layers : Nat
  result : Nat
  q0 : Nat
  q1 : Nat
  count : Nat
  time : BitVec 64 × BitVec 16
  deriving DecidableEq, Repr

/-- Result of a unit (R479): 0 before any correction (R480). -/
def resultOf (failed : Bool) (count : Nat) : Nat := if count = 0 then 0 else if failed then 2 else 1

/-- What is recorded of a unit and index. -/
def State.calRec (s : State) (unit idx : Nat) : CalRec :=
  let nominal := if s.nvm.cur.factoryOk then 0 else 2
  let d := s.nvm.cur
  match unit with
  | 0 =>
    let l := s.lane idx
    let m := s.link.cal.getD idx default
    ⟨0, resultOf m.failed m.count, l.eyeH.toNat, l.eyeW.toNat, m.count, m.last⟩
  | 1 =>
    let c := s.slice idx
    ⟨nominal, resultOf c.failed c.count, c.rms, (corrWord c.o c.g).toNat, c.count, c.tLast⟩
  | 2 => ⟨nominal, resultOf s.hk.failed s.hk.updates, s.hk.rms, (corrWord s.hk.o s.hk.g).toNat, s.hk.updates, s.hk.tLast⟩
  | 3 =>
    let n := (d.colDelta.filter (fun e => decide (e.1 / 1536 = idx))).length
    let k := d.colCount.getD idx 0
    ⟨bit01 (decide (0 < n)), resultOf false k, s.colQ0 idx, n, k, d.colTime.getD idx (0, 0)⟩
  | 4 =>
    ⟨bit01 (!s.nvm.gainU.isEmpty || d.hasBaseline || !d.aging.isEmpty), resultOf false d.calGen.toNat, d.gainQ0,
     maxL (d.aging.map (fun e => e.2.natAbs)), d.calGen.toNat, d.gainTime⟩
  | _ => ⟨0, resultOf false s.tab.xtalCount, s.xtalQ0, (ofSgn 32 s.tab.xtalPpb).toNat, s.tab.xtalCount, s.tab.xtalLast⟩

/-- The 32-byte record. -/
def calBytes (unit idx : Nat) (r : CalRec) : Bytes :=
  [BitVec.ofNat 8 unit, BitVec.ofNat 8 idx, BitVec.ofNat 8 r.layers, BitVec.ofNat 8 r.result] ++ natLe 4 r.q0 ++ natLe 4 r.q1 ++
  natLe 4 (Nat.min max32 r.count) ++ leOf 8 r.time.1 ++ leOf 2 r.time.2 ++ zeros 6

/-- Largest index of a unit; none where there is no such unit (R460). -/
def calIndexMax : Nat → Option Nat
  | 0 => some 3
  | 1 => some 64
  | 2 => some 0
  | 3 => some 7
  | 4 => some 0
  | 5 => some 0
  | _ => none

def bodyCalQuery : Body := fun c s =>
  let u := numAt c.pkt.params 0 1
  let i := numAt c.pkt.params 1 1
  if c.pkt.params.length ≠ 2 then no badLen s
  else
    match calIndexMax u with
    | none => no (badParam 0) s
    | some m => if m < i then no (badParam 1) s else answer (okData (calBytes u i (s.calRec u i))) s

/-! How runs complete (R478, R479). -/

/-- Unit and index of a running calibration. -/
def LongKind.cal : LongKind → Option (Nat × Nat)
  | .calLane n => some (0, n)
  | .calSlice i => some (1, i)
  | .calHk _ => some (2, 0)
  | .calBase => some (4, 0)
  | .calGain => some (4, 0)
  | .calXo => some (5, 0)
  | _ => none

/-- A calibration completes with a result. -/
def calDone (l : LongCmd) (result : Nat) (s : State) : State :=
  match l.kind.cal with
  | some (u, i) => finishLong l (okData (calBytes u i { s.calRec u i with result := result })) s
  | none => s

/-- Runs that satisfy p complete with a result. -/
def calDoneAll (p : LongKind → Bool) (result : Nat) (s : State) : State :=
  (s.clap.long.filter (fun l => l.kind.cal.isSome && p l.kind)).foldl (fun s l => calDone l result s) s

/-- Lanes, HK updates and rebuilt banks that running calibrations wait for. -/
def calReached (s : State) : LongKind → Bool
  | .calLane n => decide (s.link.ls = .active) && s.link.active.getLsbD n && !(s.lane n).dropped
  | .calHk target => decide (target ≤ s.hk.updates)
  | .calGain => decide (s.pix.gainGen = s.nvm.cur.calGen)
  | _ => false

/-- A RESTORE_FACTORY whose units are all in force completes (R481): with its completion record the configuration copies without user
column deltas become current (R159). -/
def restoreDone (l : LongCmd) (s : State) : State :=
  let m := byteAt l.ctx.pkt.params 0
  let t := s.stamp
  let s := if m.getLsbD 1 then s.onSense (fun e => { e with slices := e.slices.map (fun c => { c with tLast := t, failed := false }) }) else s
  let s := if m.getLsbD 2 then s.onHk (fun h => { h with tLast := t, failed := false }) else s
  let s := if m.getLsbD 3 || m.getLsbD 4 then
      saveCfg (fun d =>
        let d := { d with gainTime := if m.getLsbD 4 then t else d.gainTime }
        if m.getLsbD 3 then
          { d with colDelta := [], colGen := d.colGen + 1, colCount := d.colCount.map (· + 1), colTime := List.replicate 8 t }
        else d) s
    else s
  finishLong l ok s

/-- Bits of a RESTORE_FACTORY that are still to come into force. -/
def restoreLeft (s : State) (m : BitVec 8) : BitVec 8 :=
  let hk := if s.hk.nextCorr.isNone then m &&& 0xFB else m
  if s.pix.gainGen = s.nvm.cur.calGen then hk &&& 0xEF else hk

/-- Running calibrations whose result has been reached complete. -/
def calPoll (s : State) : State :=
  if s.clap.restarting then s else
    s.clap.long.foldl (fun s l =>
      if l.kind.cal.isSome && calReached s l.kind then calDone l 1 s
      else
        match l.kind with
        | .restore m =>
          let left := restoreLeft s m
          if left = 0 then restoreDone l s
          else if left = m then s
          else s.onClap (fun c => { c with long := c.long.map (fun x => if x = l then { l with kind := .restore left } else x) })
        | _ => s) s

/-- All 65 slices take their factory o and g; the cycle restarts at slice 0 (R481). -/
def factorySlices (s : State) : State :=
  s.onSense (fun e =>
    { e with slices := e.slices.zipIdx.map (fun c => { c.1 with o := if s.nvm.cur.factoryOk then Config.sliceO c.2 else 0,
                                                                g := if s.nvm.cur.factoryOk then Config.sliceG c.2 else 32768 }),
             newCorr := none, spareOn := if e.spareMode = 0 then 0 else e.spareOn })

/-- A beat boundary: a new correction of a slice under CAL_RUN has come into force, factory slices and trims take effect. -/
def calBeat (before : State) (s : State) : State :=
  if s.mal.beat = before.mal.beat then s else
    let restoring := s.clap.long.any (fun l => match l.kind with
      | .restore m => m.getLsbD 1
      | _ => false)
    let s := if restoring then factorySlices s else s
    let s := s.onClap (fun c => { c with long := c.long.map (fun l => match l.kind with
      | .restore m => { l with kind := .restore (m &&& 0xF5) }
      | _ => l) })
    match before.sense.newCorr with
    | some (i, _, _) =>
      if s.clap.long.any (fun l => decide (l.kind = .calSlice i)) then
        let s := calDoneAll (fun k => decide (k = .calSlice i)) 1 s
        if s.sense.spareMode ≠ 0 then s
        else s.onSense (fun e => { e with spareMode := if s.bgcal then 0 else 3, spareOn := if s.bgcal then before.sense.spareOn else 0x7F })
      else s
    | none => s

/-- SLICE_FIT (R338): a run on the slice that gets no correction completes with result 2. -/
def sliceFitEvent (beats : List SpareBeat) (s : State) : State :=
  if s.shadowing then
    let i := s.sense.spareOn
    let r := sliceFit beats s
    let s := r.1
    let spare := if s.sense.spareMode = 2 then 2 else 1
    let s := calDoneAll (fun k => decide (k = .calSlice 64)) spare s
    if r.2 then s else calDoneAll (fun k => decide (k = .calSlice i)) 2 s
  else s

/-- XTAL_WINDOW (R473): an accepted window completes a run. -/
def xtalEvent (ppb : Int) (s : State) : State :=
  if s.tab.onCrystal || !s.powered then s else
    let n := s.tab.xtalCount
    let s := xtalWindow ppb s
    if s.tab.xtalCount = n then s else calDoneAll (fun k => decide (k = .calXo)) 1 s

/-- A run has not reached its result within its time limit (R478). -/
def calTimeout (unit : Nat) (s : State) : State :=
  if s.clap.restarting then s else
    let hit (k : LongKind) : Bool := match k.cal with
      | some (u, _) => decide (u = unit)
      | none => false
    let mark (s : State) : State := s.clap.long.foldl (fun s l => match l.kind with
      | .calLane n => if unit = 0 then s.onLink (fun k => { k with cal := modAt k.cal n (fun c => { c with failed := true }) }) else s
      | .calSlice i => if unit = 1 then onSlice i (fun c => { c with failed := true }) s else s
      | .calHk _ => if unit = 2 then s.onHk (fun h => { h with failed := true }) else s
      | _ => s) s
    calDoneAll hit 2 (mark s)

/-! Aging (R474 to R477). -/

/-- Junction estimate of a tile in 1/16 °C. -/
def State.tjOf (s : State) (t : Nat) : Int := spGet 0 s.pwr.tjs t

/-- BASELINE (R474). -/
def baseline (s : State) : State :=
  let ent := s.sense.fresh2.filterMap (fun e =>
    let v := (spGet 0 s.sense.refs (e.1 * 4 + 2)).toNat
    if v = 0 then none else some (e.1, (v, rhe (s.tjOf e.1) 16)))
  saveCfg (fun d => { d with baseline := ent, hasBaseline := true }) s

/-- One tile of an UPDATE: its new D and the unbounded target; none where it is not updated (R475). -/
def agingTile (coef step : Nat) (tc : Int) (win : Nat) (s : State) (t v0 : Nat) (tb : Int) : Option (Int × Int) :=
  if v0 = 0 ∨ spGet false s.sense.fresh2 t = false then none
  else
    let dT := s.tjOf t - 16 * tb
    if dT < -(16 * (win : Int)) ∨ 16 * (win : Int) < dT then none
    else
      let ref2 := ((spGet 0 s.sense.refs (t * 4 + 2)).toNat : Int)
      let dV := ref2 - v0 - rhe (tc * dT) 160
      let tgt := rhe ((coef : Int) * dV) 256
      let old := spGet 0 s.nvm.cur.aging t
      some (old + clampI (-(step : Int)) step (clampI (-128) 127 tgt - old), tgt)

/-- UPDATE (R475 to R477). -/
def agingUpdate (coef step : Nat) (tc : Int) (win : Nat) (s : State) : State :=
  let new := s.nvm.cur.baseline.filterMap (fun e => (agingTile coef step tc win s e.1 e.2.1 e.2.2).map (fun r => (e.1, r)))
  let vals := new.flatMap (fun e =>
    let k := e.2.1 - spGet 0 s.nvm.cur.aging e.1
    if k = 0 then [] else (List.range 128).map (fun i =>
      let px := tilePx e.1 i
      (px, clampI (-128) 127 (deltaAt s.nvm.gainU px + k))))
  let sq := sumL (new.map (fun e => let x := e.2.2 - e.2.1; (x * x).toNat))
  let q := if new.isEmpty then 0 else rootRatio (15625 * sq) (256 * new.length)
  let s := saveCfg (fun d => { d with aging := new.foldl (fun m e => spSet 0 m e.1 e.2.1) d.aging, gainQ0 := q }) s
  writeGainU vals s

/-- The parameters of an UPDATE, or the offset of the first out of range. -/
def updateParams (ps : Bytes) : Except Nat (Nat × Nat × Int × Nat) :=
  if ps.length = 4 then .ok (328, 13, -15, 20)
  else
    let coef := numAt ps 4 2
    let step := numAt ps 6 1
    let tc := sgn 8 (numAt ps 7 1)
    let win := numAt ps 8 1
    if 2048 < coef then .error 4
    else if step < 1 ∨ 127 < step then .error 6
    else if tc < -100 ∨ 0 < tc then .error 7
    else if win < 1 ∨ 60 < win then .error 8
    else .ok (coef, step, tc, win)

/-! CAL_RUN (R478). -/

/-- Unit and mode that CAL_RUN accepts. -/
def calMode (u m : Nat) : Bool := (decide (m = 0) && (u == 0 || u == 1 || u == 2 || u == 4 || u == 5)) || (decide (m = 1) && u == 4)

/-- The status with which the conditions of a unit refuse a run. -/
def calState (u m i : Nat) (s : State) : Option Nat :=
  let lit := s.sys.st.lights
  match u with
  | 0 =>
    if s.link.ls ≠ .active then some 0x12
    else if (s.lane i).fenced then some 0x30
    else if s.link.active = BitVec.twoPow 4 i then some 0x12
    else none
  | 1 =>
    if !s.isLit then some 0x12
    else if (i < 64 ∧ s.sense.fenced.getLsbD i = true) ∨ s.sense.spareMode ≠ 0 then some 0x30
    else none
  | 4 =>
    if !lit then some 0x12
    else if m = 0 ∧ s.nvm.cur.aging ≠ [] then some 0x12
    else if m = 1 ∧ s.nvm.cur.hasBaseline = false then some 0x12
    else none
  | 5 => if s.link.refclkOk then none else some 0x12
  | _ => none

/-- CAL_RUN. Bytes 2 and 3 are reserved (R172) and no byte gives the index of R460: which lane or slice the run takes is a free value
(log entry 41). -/
def bodyCalRun : Body := fun c s =>
  let ps := c.pkt.params
  let u := numAt ps 0 1
  let m := numAt ps 1 1
  if ps.length < 4 then no badLen s
  else
    match calIndexMax u with
    | none => no (badParam 0) s
    | some top =>
      let i := Config.calIndex s.freeIdx ps % (top + 1)
      if calMode u m = false then no (badParam 1) s
      else if numAt ps 2 1 ≠ 0 then no (badParam 2) s
      else if numAt ps 3 1 ≠ 0 then no (badParam 3) s
      else
        match calState u m i s with
        | some st => no (refuse0 st) s
        | none =>
          if ps.length ≠ 4 ∧ (u ≠ 4 ∨ m ≠ 1) then no (badParam 4) s
          else if ps.length ≠ 4 ∧ ps.length ≠ 9 then no badLen s
          else if ps.length = 9 ∧ c.pkt.expert = false then no (refuse 0x14 4 0xFFFFFFFF) s
          else
            match updateParams ps with
            | .error off => no (badParam off) s
            | .ok (coef, step, tc, win) =>
              if u = 0 then (if s.link.active.getLsbD i then dropLane i s.freeNext else s.freeNext, .later (.calLane i))
              else if u = 1 then (s.freeNext, .later (.calSlice i))
              else if u = 2 then (s, .later (.calHk (s.hk.updates + 16)))
              else if u = 5 then (s, .later .calXo)
              else if m = 0 then
                let s := baseline s
                didData (calBytes 4 0 (s.calRec 4 0)) s
              else (agingUpdate coef step tc win s, .later .calGain)

/-! TRIM_DELTA_WRITE (R470) and RESTORE_FACTORY (R481). -/

def bodyTrimDeltaWrite : Body := fun c s =>
  let ps := c.pkt.params
  let first := numAt ps 0 4
  let n := numAt ps 4 2
  if ps.length < 6 then no badLen s
  else if n < 1 ∨ 2048 < n then no (badParam 4) s
  else if ps.length ≠ 6 + 2 * n then no badLen s
  else if 1179648 < first + n then no (refuse 0x14 0xFFFF (0x04000000 + Nat.max first 1179648 % 2 ^ 24)) s
  else
    match (List.range n).find? (fun i => decide (2 ≤ numAt ps (7 + 2 * i) 1)) with
    | some i => no (badParam (7 + 2 * i)) s
    | none =>
      let vals := (List.range n).filterMap (fun i => if numAt ps (7 + 2 * i) 1 = 1 then some (first + i, sgn 8 (numAt ps (6 + 2 * i) 1)) else none)
      let s := if vals.isEmpty then s else writeGainU vals s
      didData (leOf 4 s.nvm.cur.calGen) s

/-- What RESTORE_FACTORY does at once. -/
def restoreStart (m : BitVec 8) (s : State) : State :=
  let s := if m.getLsbD 2 then
      s.onHk (fun h => { h with nextCorr := some (0, 32768), bandgap := [], refdac := [] })
    else s
  if m.getLsbD 4 then
    let s := touchMram 0x368000 1179648 (s.onNvm (fun n => { n with gainU := [] }))
    nextCalGen (saveCfg (fun d => { d with aging := [], baseline := [], hasBaseline := false, gainQ0 := 0 }) s)
  else s

def bodyRestoreFactory : Body := fun c s =>
  let m := byteAt c.pkt.params 0
  if c.pkt.params.length ≠ 1 then no badLen s
  else if m = 0 ∨ m &&& 0xE1 ≠ 0 then no (badParam 0) s
  else (restoreStart m s, .later (.restore m))

end Sys2Proof.Machine
end

