-- ==== Sys2Proof/Machine/Tsy.lean ====
section
/-!
DEFINITION. Time messages (R441 to R448): the checks of a TSY message, the exchange with a master, its offset and mean
delay, the acceptance of a master.
-/
namespace Sys2Proof.Machine

/-- Record a discarded exchange of Tabor n, which ends the exchange under way (R444). -/
def exchReject (n : Nat) (s : State) : State :=
  record bTABOR 5 (atUnit n) (onTabor n (fun t => { t with exch := none }) s)

/-- Fields of a time message that R443 fixes; the message without the padding of its frame. -/
def tsyFormat (m : Bytes) : Bool :=
  let msg := numAt m 1 1
  let b2 := numAt m 2 1
  let auth := b2 / 2 % 2 = 1
  let len := if auth then 32 else 24
  decide (len ≤ m.length) && (m.drop len).all (fun b => b == 0) && byteAt m 0 == 0x51 && decide (1 ≤ msg) && decide (msg ≤ 4) &&
    decide (b2 / 8 = 0) && (decide (b2 / 4 % 2 = 0) || decide (3 ≤ msg)) && decide (numAt m 3 1 < 16) &&
    (decide auth || decide (numAt m 3 1 = 0)) && decide (numAt m 6 2 ≠ 0) &&
    (decide (numAt m 8 8 = 0) || decide (msg = 2) || decide (msg = 4)) &&
    (decide (numAt m 16 2 = 0) || decide (msg = 1)) && decide (numAt m 18 6 = 0)

/-- The MAC of a time message verifies under an ACTIVE slot that holds TSY (R524, R531). -/
def tsyMacOk (m : Bytes) (s : State) : Bool :=
  let slot := numAt m 3 1
  s.hasRight slot 2 && (match s.keyOf slot with
    | some k => macOf k 4 s.sys.profileL (zeros 8) (m.take 24) == sliceB m 24 8
    | none => false)

/-- A time message must carry a MAC (R444, R532). -/
def State.tsyMacNeeded (s : State) (n : Nat) : Bool := s.rfld (tbA n 0x38) 7 1 == 1 || s.sys.profileL

/-- The DELAY_REQ that answers an exchange; none where it must carry a MAC and its slot is not ACTIVE. -/
def delayReq (n : Nat) (e : Exch) (s : State) : Option Bytes :=
  let slot := s.rfld (tbA n 0x38) 8 4
  let auth := s.tsyMacNeeded n
  let m := [0x51, 3, BitVec.ofNat 8 (n + bit01 auth * 2 + s.side * 4), BitVec.ofNat 8 (if auth then slot else 0)] ++
    leOf 2 e.seqId ++ leOf 2 e.master ++ zeros 16
  if auth then (s.keyOf slot).map (fun k => m ++ macOf k 4 s.sys.profileL (zeros 8) m) else some m

/-- t3 has been taken: DELAY_REQ is on its way. -/
def exchSent (n : Nat) (s : State) : State :=
  let t3 := (s.tabor n).time
  onTabor n (fun t => { t with exch := t.exch.map (fun e => { e with t3 := t3, stage := 3 }) }) s

/-- The exchange is still whole: same lanes, epoch and port, and no step or apply (R444). -/
def exchWhole (n : Nat) (e : Exch) (s : State) : Bool :=
  !e.broken && !e.replayed && decide (e.epoch = (s.tabor n).epoch) &&
  decide (s.portUsed n = (if e.envex then 1 else 2)) && (!e.envex || decide (e.lanes = s.link.active))

/-- The asymmetry registers of a port: ingress, egress, path (R441). -/
def State.asymOf (s : State) (envex : Bool) (k : Nat) : Int := sgn 32 (s.reg ((if envex then 0x50100 else 0x5010C) + 4 * k)).toNat

/-- The key slot that a time message uses (R443). -/
def msgSlot (m : Bytes) : List Nat := if numAt m 2 1 / 2 % 2 = 1 then [numAt m 3 1] else []

/-- SYNC on the port in use: t2 (R444, R447, R448). -/
def tsySync (n port : Nat) (m : Bytes) (replay : Bool) (s : State) : State :=
  let t := s.tabor n
  let mid := u16At m 6
  let sid := u16At m 4
  if t.state = 2 ∧ mid ≠ t.master then
    (match t.conflictAt with
    | some a =>
      if s.now - a < s.lossMs n * 1000000 then s
      else record bTABOR 4 (atUnitVal n mid.toNat) (onTabor n (fun t => { t with conflictAt := some s.now }) s)
    | none => record bTABOR 4 (atUnitVal n mid.toNat) (onTabor n (fun t => { t with conflictAt := some s.now }) s))
  else
    let s := if t.exch.isSome then exchReject n s else s
    let old := match t.lastSeq.find? (fun l => decide (l.1 = port) && decide (l.2.1 = mid)) with
      | some (_, _, q) => !(decide (1 ≤ (sid - q).toNat) && decide ((sid - q).toNat ≤ 32767))
      | none => false
    if old || replay then exchReject n s
    else
      let e : Exch := { seqId := sid, master := mid, envex := decide (port = 1), replayed := false, t2 := t.time, t1 := 0, t3 := 0,
                        stage := 1, lanes := s.link.active, epoch := t.epoch, ingress := s.asymOf (decide (port = 1)) 0,
                        egress := s.asymOf (decide (port = 1)) 1, path := s.asymOf (decide (port = 1)) 2,
                        slots := msgSlot m, broken := false }
      onTabor n (fun t => { t with exch := some e }) s

/-- FOLLOW_UP brings t1; DELAY_REQ goes out and t3 is taken (R444, R114, R392). -/
def tsyFollowUp (n port : Nat) (m : Bytes) (replay : Bool) (s : State) : State :=
  match (s.tabor n).exch with
  | none => s
  | some e =>
    if e.stage ≠ 1 ∨ e.seqId ≠ u16At m 4 ∨ e.master ≠ u16At m 6 ∨ e.envex ≠ decide (port = 1) then s
    else if replay || !exchWhole n e s then exchReject n s
    else
      match delayReq n e s with
      | none => exchReject n s
      | some req =>
        let s := onTabor n (fun t =>
          { t with exch := some { e with t1 := (numAt m 8 8 : Nat), slots := e.slots ++ msgSlot m ++ msgSlot req } }) s
        if e.envex then
          let p : TxPkt := ⟨6, 0, req, .none, s.link.born⟩
          if s.canSendLink p then sendPkt p (exchSent n s) else exchReject n s
        else if s.canOn then
          (onTabor n (fun t => { t with exch := t.exch.map (fun x => { x with stage := 2 }) }) s).onCan (fun c =>
            { c with txq := c.txq ++ [⟨4 + s.side, [padTo (fdLen req.length) req], .none, some (if n = 0 then 0 else 1)⟩] })
        else exchReject n s

/-- The largest mean delay of the port, in ns (R458). -/
def State.delayMax (s : State) (envex : Bool) : Nat := (if envex then s.rfld 0x50118 0 16 else s.rfld 0x50118 16 16) * 1000

/-- Offset and mean delay of an exchange (R445): Tabor minus master, in ns. -/
def exchResult (t1 t2 t3 t4 inn eg path : Int) : Int × Int :=
  let a2 := 16 * t2 - inn
  let a3 := 16 * t3 + eg
  let ms := a2 - 16 * t1
  let sm := 16 * t4 - a3
  (rhe (ms - sm - path) 32, rhe (ms + sm) 32)

/-- An exchange is consistent with the two before it (R446). -/
def consistentWith (h : List (Int × Int × Int)) (t2 th : Int) (ns : Nat) : Bool :=
  match h.reverse with
  | (_, b2, bth) :: (_, a2, ath) :: _ =>
    if b2 ≤ a2 then false
    else
      let pred := bth + rhe ((bth - ath) * (t2 - b2)) (b2 - a2).toNat
      decide (th - pred ≤ (ns : Int)) && decide (pred - th ≤ (ns : Int))
  | _ => true

/-- A master is accepted with its exchange 3 (R446). -/
def acceptMaster (n : Nat) (mid : BitVec 16) (envex : Bool) (h : List (Int × Int × Int)) (s : State) : State :=
  let s := record bTABOR 3 (atUnitVal n mid.toNat) s
  let (_, a2, ath) := h.headD (0, 0, 0)
  let (_, b2, bth) := h.getLastD (0, 0, 0)
  let s := onTabor n (fun t => { t with state := 2, master := mid, port := if envex then 1 else 2, holdSince := none,
                                        f := if b2 ≤ a2 then t.f else t.f + rhe (-(bth - ath) * 2 ^ 32) (b2 - a2).toNat }) s
  correct n (-bth) s

/-- An accepted exchange of Tabor n: a correction while LOCKED, else one more exchange of the acquisition (R438, R446). -/
def acceptExch (n : Nat) (e : Exch) (th : Int) (s : State) : State :=
  let t := s.tabor n
  let port := if e.envex then 1 else 2
  let s := onTabor n (fun t =>
    { t with exch := none, lastAccept := some s.now,
             lastSeq := (port, e.master, e.seqId) :: t.lastSeq.filter (fun l => decide (l.1 ≠ port) || decide (l.2.1 ≠ e.master)) }) s
  if t.state = 2 then
    let s := match t.hist.getLast? with
      | some (p1, p2, _) => updateF n (e.t1 - p1) (e.t2 - p2) s
      | none => s
    correct n (-th) (onTabor n (fun t => { t with hist := [(e.t1, e.t2, th)] }) s)
  else
    let h := if t.candidate = e.master then t.hist else []
    let h := if consistentWith h e.t2 th (s.consistNs n) then h ++ [(e.t1, e.t2, th)] else [(e.t1, e.t2, th)]
    let s := onTabor n (fun t => { t with hist := h, candidate := e.master, consistent := h.length }) s
    if h.length = 4 then onTabor n (fun t => { t with hist := [(e.t1, e.t2, th)] }) (acceptMaster n e.master e.envex h s) else s

/-- DELAY_RESP brings t4 (R444, R445). -/
def tsyDelayResp (n port : Nat) (m : Bytes) (replay : Bool) (s : State) : State :=
  match (s.tabor n).exch with
  | none => s
  | some e =>
    if e.stage ≠ 3 ∨ e.seqId ≠ u16At m 4 ∨ e.master ≠ u16At m 6 ∨ e.envex ≠ decide (port = 1) then s
    else if replay || !exchWhole n e s || decide (numAt m 2 1 / 4 % 2 ≠ s.side) then exchReject n s
    else
      let (th, delay) := exchResult e.t1 e.t2 e.t3 (numAt m 8 8 : Nat) e.ingress e.egress e.path
      if delay < 0 ∨ (s.delayMax e.envex : Int) < delay then exchReject n s
      else acceptExch n e th s

/-- A time message from the master on a port (1 Envex, 2 CAN FD): its format, its MAC, its message (R443, R444). -/
def tsyMsg (port : Nat) (m : Bytes) (replay : Bool) (s : State) : State :=
  let n := numAt m 2 1 % 2
  let auth := decide (numAt m 2 1 / 2 % 2 = 1)
  if !tsyFormat m then (if s.tMode n = 1 ∧ s.portUsed n = port then exchReject n s else s)
  else if s.tMode n ≠ 1 ∨ (numAt m 1 1 = 1 ∧ s.portUsed n ≠ port) then s
  else if auth && !tsyMacOk m s || !auth && s.tsyMacNeeded n then
    let s := record bTABOR 10 (atUnit n) s
    authFail (if port = 1 then .envex else .can) 2 (numAt m 3 1) (onTabor n (fun t => { t with exch := none }) s)
  else
    match numAt m 1 1 with
    | 1 => tsySync n port m replay s
    | 2 => tsyFollowUp n port m replay s
    | 4 => tsyDelayResp n port m replay s
    | _ => s

/-- A message of the exchange is late (R444). -/
def exchangeTimeoutEvent (n : Nat) (s : State) : State :=
  if (s.tabor n).exch.isSome then exchReject n s else s

end Sys2Proof.Machine
end

