-- ==== Sys2Proof/Machine/Can.lean ====
section
/-!
DEFINITION. The CAN FD path (R387 to R399): identifiers, reassembly, transmission, bus-off, the enable of the path.
-/
namespace Sys2Proof.Machine

/-- CAN_STB follows PD4 and the enable (R395). -/
def syncStb (s : State) : State :=
  let stb := !(s.pdIs 4 .on && s.canEnabled)
  s.onCan (fun c => { c with stb := stb, reasm := if stb then [] else c.reasm })

/-- Length of a packet carried in fragments, from its own header (R390). -/
def carriedLen (off : Nat) (profL : Bool) (b : Bytes) : Nat :=
  if off = 0 then 36 + numAt b 18 2 + 8 * (numAt b 2 1 % 2)
  else if profL then 18 + numAt b 2 2
  else 20 + numAt b 6 2 + 8 * (numAt b 1 1 % 2)

/-- A reassembly under an identifier is discarded (R391). -/
def reasmFail (id : Nat) (s : State) : State :=
  let s := s.onCan (fun c => { c with reasm := c.reasm.filter (fun r => r.id != id), broken := id :: c.broken.filter (· != id) })
  record bCAN 3 noUnit (s.bump 0x40014 0 16 1)

/-- A fragment arrives under an identifier (R391): the packet when it is its last. -/
def fragmentRx (id : Nat) (data : Bytes) (s : State) : State × Option Bytes :=
  let idx := numAt data 0 1 % 16
  let last := numAt data 0 1 / 16
  let cur := s.can.reasm.find? (fun r => r.id == id)
  let good := !data.isEmpty && decide (idx ≤ last) && decide (last ≤ 8)
  let take (r : Reasm) (s : State) : State × Option Bytes :=
    let r := { r with data := r.data ++ data.drop 1, next := r.next + 1 }
    let s := s.onCan (fun c => { c with reasm := c.reasm.filter (fun x => x.id != id) })
    if idx < last then (s.onCan (fun c => { c with reasm := r :: c.reasm }), none) else (s, some r.data)
  if good && decide (idx = 0) then
    let s := if cur.isSome then reasmFail id s else s
    take ⟨id, 0, last, []⟩ (s.onCan (fun c => { c with broken := c.broken.filter (· != id) }))
  else
    match cur with
    | some r => if good && decide (idx = r.next) && decide (last = r.last) then take r s else (reasmFail id s, none)
    | none => if s.can.broken.contains id then (s, none) else (reasmFail id s, none)

/-- The receive error counter after a frame received without error: one less, or from above 127 to a value from 119 to 127 that ISO 11898-1
leaves open (R387, log entry 11). -/
def canRxGood (s : State) : State :=
  if s.can.rxErr = 0 then s
  else if s.can.rxErr ≤ 127 then s.onCan (fun c => { c with rxErr := c.rxErr - 1 })
  else (s.onCan (fun c => { c with rxErr := 119 + s.freeWord.toNat % 9 })).freeNext

/-- A CAN FD frame is received (R387, R389, R391, R392): a completed command packet goes on to the queue. -/
def canRx (id : Nat) (data : Bytes) (s : State) : State × Option Bytes :=
  if !s.canOn then (s, none) else
    let s := canRxGood s
    let off := id - s.canBase
    if id < s.canBase ∨ 16 ≤ off then (s, none)
    else if off = 4 + s.side ∨ off = 6 + s.side ∨ off = 8 + s.side then (record bCAN 5 noUnit s, none)
    else if off = 1 then (tsyMsg 2 data false s, none)
    else if off = 0 ∨ off = 2 + s.side then
      (match fragmentRx id data s with
      | (s, none) => (s, none)
      | (s, some b) =>
        let pkt := b.take (carriedLen off s.sys.profileL b)
        if off = 0 then (smsgEvent pkt false s, none) else (s, some pkt))
    else (s, none)

/-- A reassembly is not complete in time (R391). -/
def reasmTimeoutEvent (id : Nat) (s : State) : State :=
  if s.can.reasm.any (fun r => r.id == id) then reasmFail id s else s

/-- A frame has been transmitted (R161, R392). -/
def canTxCompleteEvent (s : State) : State :=
  match s.can.txq with
  | [] => s
  | p :: rest =>
    if !s.canOn then s else
      match p.frames with
      | [] => s.onCan (fun c => { c with txq := rest })
      | f :: more =>
        let s := s.onCan (fun c => { c with sent := c.sent ++ [(s.canBase + p.off, f)], txErr := c.txErr - 1,
                                            txq := if more.isEmpty then rest else { p with frames := more } :: rest })
        let s := match p.tsy with
          | some n => exchSent n.val s
          | none => s
        if more.isEmpty then markDelivered p.tag s else s

/-- A queued frame is withdrawn (R394). -/
def txTimeoutEvent (s : State) : State :=
  match s.can.txq with
  | [] => s
  | _ :: rest => record bCAN 4 noUnit ((s.onCan (fun c => { c with txq := rest })).bump 0x40014 16 16 1)

/-- Bus-off is entered (R396). -/
def busOffEvent (s : State) : State :=
  if !s.canOn then s else
    record bCAN 2 noUnit (s.onCan (fun c => { c with busOff := true, recovering := s.rfld 0x40000 1 1 == 1, reasm := [] }))

/-- What an error adds to the transmit and to the receive error counter (R387, log entry 98). -/
def errCounts : CanErr → Nat × Nat
  | .receiver => (0, 1)
  | .receiverEight => (0, 8)
  | .transmitter => (8, 0)
  | .uncounted => (0, 0)

/-- The kind of an error on the bus: found while the block receives or sends, in the plain case of ISO 11898-1 or in its special one. -/
def CanErr.of (sending special : Bool) : CanErr :=
  match sending, special with
  | false, false => .receiver
  | false, true => .receiverEight
  | true, false => .transmitter
  | true, true => .uncounted

/-- The error counters move (R387, R399): a counter reaches 96, error passive is entered at 128, bus-off at 256 of the transmit counter. -/
def canErrorEvent (e : CanErr) (s : State) : State :=
  if !s.canOn then s else
    let c := s.can
    let tec := c.txErr + (errCounts e).1
    let rec' := c.rxErr + (errCounts e).2
    let passive := decide (c.txErr < 128) && decide (c.rxErr < 128) && (decide (128 ≤ tec) || decide (128 ≤ rec'))
    let warn := (decide (c.txErr < 96) && decide (96 ≤ tec)) || (decide (c.rxErr < 96) && decide (96 ≤ rec'))
    let s := s.onCan (fun c => { c with txErr := Nat.min 255 tec, rxErr := Nat.min 255 rec' })
    let s := if warn then record bCAN 0 noUnit s else s
    let s := if passive then record bCAN 1 noUnit s else s
    if 256 ≤ tec then busOffEvent s else s

/-- The recovery sequence completes (R396). -/
def busOffRecoveredEvent (s : State) : State :=
  if s.can.busOff && s.can.recovering then
    flush (s.onCan (fun c => { c with busOff := false, recovering := false, txErr := 0, rxErr := 0 }))
  else s

/-- CAN_CFG is written (R396, R397): a change of enable is stored and commands PD4; auto_recover 1 starts recovery. -/
def writeCanCfg (v : Word) (s : State) : State :=
  let on := v.getLsbD 0
  let was := s.canEnabled
  let s := s.setReg 0x40000 v
  let s := if on = was then s else
    let s := saveCfg (fun d => { d with regs := spSet (regReset 0x40000) d.regs 0x40000 (putBits (spGet (regReset 0x40000) d.regs 0x40000) 0 1 (bit01 on)) }) s
    let s := s.onSys (fun y => { y with pdWant := y.pdWant.set 4 (if on then .on else .off),
                                        pd := if on then y.pd else y.pd.set 4 .off })
    if on then s else s.onCan (fun c => { c with txq := [], reasm := [] })
  let s := if v.getLsbD 1 && s.can.busOff then s.onCan (fun c => { c with recovering := true }) else s
  flush (syncStb s)

end Sys2Proof.Machine
end

