-- ==== Sys2Proof/Machine/Cv.lean ====
section
/-!
DEFINITION. The check-value units (R507 to R522): CV_CONFIG, CV_RESULT, CV_SCAN and its end, and the bytes of MRAM that a
scan or a dump reads (R44).
-/
namespace Sys2Proof.Machine

/-! Bytes of MRAM (R44). Regions whose layout the spec does not give read as free values (log entry 42). -/

/-- Byte k of the packed factory gain table (R467). -/
def gainPacked (s : State) (k : Nat) : Byte :=
  let bit (i : Nat) : Nat := fld (factGainAt s.nvm.gainF (i / 10)) (i % 10) 1
  BitVec.ofNat 8 (sumL ((List.range 8).map (fun i => bit (8 * k + i) * 2 ^ i)))

/-- Bytes of the regions that do not depend on the dumps. -/
def mramLow (s : State) (a : Nat) : Byte :=
  if a < 0x200000 then imgByte s a
  else if a < 0x368000 then gainPacked s (a - 0x200000)
  else if a < 0x488000 then BitVec.ofInt 8 (deltaAt s.nvm.gainU (a - 0x368000))
  else if a < 0x48B000 then Config.factCol (a - 0x488000)
  else if a < 0x490000 then
    let k := a - 0x48B000
    if k < 18432 then BitVec.ofNat 8 (fld (s.floorMirror (k / 2)) (8 * (k % 2)) 8) else 0
  else if a < 0x4B4000 then
    let k := a - 0x490000
    BitVec.ofNat 8 (fld (s.limpAt (k / 192)) (8 * (k % 192)) 8)
  else if a < 0x514000 then Config.mramByte s.freeIdx a
  else if a < 0x554000 then
    let k := a - 0x514000
    let newest := s.clap.logSeq.toNat - 1
    let back := (newest - k / 64) % 4096
    if s.clap.log.length ≤ back then 0 else byteAt (s.clap.log.getD (s.clap.log.length - 1 - back) []) (k % 64)
  else 0

/-! CV_CONFIG and CV_RESULT (R519, R520). -/

def bodyCvConfig : Body := fun c s =>
  let ps := c.pkt.params
  let u := numAt ps 0 1
  let v := numAt ps 1 1
  if ps.length ≠ 8 then no badLen s
  else if u ≠ 3 ∧ u ≠ 5 then no (badParam 0) s
  else if (u = 3 ∧ 2 ≤ v) ∨ 8 ≤ v then no (badParam 1) s
  else
    match findIdx? (fun b => b ≠ 0) (ps.drop 2) with
    | some i => no (badParam (2 + i)) s
    | none =>
      if u = 5 then did (s.setFld 0xE0000 1 3 v)
      else
        let s := s.setFld 0xE0000 0 1 v
        did (if v = 0 then forN 256 0 snoopInvalid s else s)

def bodyCvResult : Body := fun c s =>
  let u := numAt c.pkt.params 0 1
  if c.pkt.params.length ≠ 1 then no badLen s
  else if 6 ≤ u then no (badParam 0) s
  else
    let x := s.cv.units.getD u default
    let fl := if u = 5 then bit01 (s.cv.scan.getD s.cv.last).disturbed + 2 * bit01 (s.cv.scan.isNone && s.cv.lastAborted) else 0
    answer (okData ([BitVec.ofNat 8 u, BitVec.ofNat 8 fl, 0, 0] ++ natLe 4 x.a ++ natLe 4 x.b ++ leOf 4 x.c ++ leOf 4 x.d ++ leOf 8 x.t ++
      leOf 2 x.epoch ++ zeros 2)) s

/-! CV_SCAN (R515 to R518). -/

def keyLo : Nat := 0x654000
def keyHi : Nat := 0x658000

/-- The live buffer whose writable extent holds a space-0 range. -/
def State.bufOf (s : State) (start len : Nat) : Option Nat :=
  (List.range 256).find? (fun i =>
    let b := s.buf i
    b.live && decide (storeBase + b.base ≤ start) && decide (start + len ≤ storeBase + b.base + b.extent))

def bodyCvScan : Body := fun c s =>
  let ps := c.pkt.params
  let sp := numAt ps 0 1
  let st := numAt ps 1 4
  let n := numAt ps 5 4
  let poly := numAt ps 9 1
  let go (buf : Nat) : State × Ans := (s.onCv (fun v => { v with scan := some ⟨sp, st, n, poly, buf, false, false⟩ }), .later .scan)
  if ps.length ≠ 10 then no badLen s
  else if 1 < sp then no (badParam 0) s
  else if sp = 0 ∧ s.pdIs 7 .on = false then no (refuse0 0x12) s
  else if st % 4 ≠ 0 then no (badParam 1) s
  else if n % 4 ≠ 0 ∨ n < 4 then no (badParam 5) s
  else if 3 < poly then no (badParam 9) s
  else if sp = 1 then
    (if 0x800000 < st + n ∨ (st < keyHi ∧ keyLo < st + n) then no (accessViol st) s else go 0)
  else
    match s.bufOf st n with
    | none => no (accessViol st) s
    | some i => go i

/-- The address of an uncorrectable error ends the scan early (R518). -/
def scanError (c : Scan) (a : Nat) (s : State) : State :=
  let s := abortScan (refuse 0x3F 0xFFFF a) s
  if c.space = 0 then bankError ((a - storeBase) / 0x400000 % 4) false s else record bNVM 1 (withVal a) s

/-- The scan has made its last read (R516, R517): a disturbed scan's result is a free value (log entry 43). -/
def scanDone (c : Scan) (bytes : Nat → Byte) (s : State) : State :=
  let v := if c.disturbed then
      (match c.poly with
      | 2 => s.freeWord &&& 0xFFFF
      | 3 => s.freeWord &&& 0xFF
      | _ => s.freeWord)
    else crcOf c.poly ((List.range c.len).map (fun i => bytes (c.start + i)))
  let s := s.freeNext
  let s := s.onCv (fun x => { x with scan := none, last := c, lastAborted := false, lastResult := v })
  let s := cvEvent 5 (fun x => { x with a := satAdd max32 x.a 1, b := satAdd max32 x.b (bit01 c.disturbed), c := v, d := BitVec.ofNat 32 c.start }) s
  finishAll (fun l => decide (l.kind = .scan)) (okData (leOf 4 v)) s

/-- The reads of a scan that ECC corrected, counted and recorded by their own block (R216, R431). -/
def scanCe (c : Scan) (ceAt : List Nat) (s : State) : State :=
  if c.space = 0 then eccCorrected ceAt.length bSTORE 0 0x70040 s else ceAt.foldl (fun s a => record bNVM 0 (withVal a) s) s

/-- CV_SCAN_DONE: the address of an uncorrectable error, and those of the reads that were corrected before it. -/
def cvScanEvent (ueAt : Option Nat) (ceAt : List Nat) (mram : Nat → Byte) (s : State) : State :=
  match s.cv.scan with
  | some c =>
    let ue := ueAt.filter (fun a => decide (c.start ≤ a) && decide (a < c.start + c.len))
    let s := scanCe c (ceAt.filter (fun a => decide (c.start ≤ a) && decide (a < ue.getD (c.start + c.len)))) s
    (match ue with
    | some a => scanError c a s
    | none => scanDone c (if c.space = 0 then fun a => s.storeByte (a - storeBase) else mram) s)
  | none => s

/-- SCAN_DISTURBED of a scan of MRAM is recorded (R517). -/
def tellScan (s : State) : State :=
  match s.cv.scan with
  | some c =>
    if c.disturbed && !c.told then record bCV 0 noUnit (s.onCv (fun v => { v with scan := some { c with told := true } })) else s
  | none => s

/-! CV_SIG and CV_SIG_STAT (R514, R521). -/

def State.sigSel (s : State) : BitVec 16 := (s.reg 0xE0004).setWidth 16

def State.sigWord (s : State) : Word :=
  if !s.cv.sigChosen then 0 else
    match s.current s.sigSel with
    | some i => s.sigOf 0 (s.buf i)
    | none => s.freeWord

def State.sigStat (s : State) : Word :=
  if !s.cv.sigChosen then 0 else
    match s.current s.sigSel with
    | some i => BitVec.ofNat 32 ((s.buf i).snoop + (s.buf i).next / 4 * 4)
    | none => 3

end Sys2Proof.Machine
end

