-- ==== Sys2Proof/Machine/Scan.lean ====
section
/-!
DEFINITION. Scan-out (R279 to R315): row writes, Strike, watchers and takeover, latch readback, column cuts, current
factors, beat and frame boundaries (R25 to R28, R203, R280), and the light commands (R57, R73, R74, R169, R294 to R296).
-/
namespace Sys2Proof.Machine

/-! Who serves a segment (R301 to R306). -/

/-- The segment that Mallet m scans. -/
def State.segOf (s : State) (m : Nat) : Option Nat :=
  if s.mal.fenced.getLsbD m then none else if m = 8 then s.mal.spareSeg else if s.mal.spareSeg = some m then none else some m

/-- The Mallet that serves a segment. -/
def State.server (s : State) (seg : Nat) : Option Nat :=
  if s.mal.spareSeg = some seg then (if s.mal.fenced.getLsbD 8 then none else some 8) else if s.mal.fenced.getLsbD seg then none else some seg

/-- Mallet 8 is in standby and not fenced. -/
def State.spareReady (s : State) : Bool := s.mal.spareSeg.isNone && !s.mal.fenced.getLsbD 8

/-- R66 and R70 forbid lighting. -/
def State.lightForbidden (s : State) : Bool :=
  !s.sys.gongCapable || s.pix.sbBad || s.safe.auditBad || s.mal.bistOut.getLsbD 8 ||
  decide (2 ≤ (selN 9 (fun m => s.mal.bistOut.getLsbD m)).length) || (List.range 8).any (fun n => (s.server n).isNone)

/-- The plane slot after slot n. -/
def slotAfter (n : Nat) : Nat := if (n + 1) % 16 = 15 then n + 2 else n + 1

/-- Vertical porch in force (R291). -/
def State.porch (s : State) : Nat := fld (s.inForce 0x90024) 8 4

/-- What a slot is for (R281). -/
inductive SlotFn where
  | plane | senseSel | quiet | senseRel | readback | strike
  deriving DecidableEq, Repr

/-- Function of slot n at vertical porch P. -/
def slotFn (P n : Nat) : SlotFn :=
  if planeSlot n then .plane
  else
    let j := (n - 15) / 16
    if j = 63 then .strike else if j = 0 then .senseSel else if j < P - 1 then .quiet else if j = P - 1 then .senseRel else .readback

/-- A Mallet at the first slot of a beat. -/
def malStart (next : Nat) (m : MalletSt) : MalletSt := { m with writes := 0, nextSlot := next, inOrder := true }

def onMallet (m : Nat) (f : MalletSt → MalletSt) (s : State) : State := s.onMal (fun x => { x with mallets := modAt x.mallets m f })

/-- Some segments show their Gong pattern at once (R299). -/
def showGong (segs : BitVec 8) (s : State) : State :=
  syncOwner (s.onMal (fun m => { m with gongSegs := m.gongSegs ||| segs, skipLb := m.skipLb ||| segs }))

/-- The Mallet serving a segment is fenced and Mallet 8 takes its place; where it cannot, NO_SPARE (R303, R304, R306). -/
def connectSpare (seg cause : Nat) (hold : Bool) (s : State) : State :=
  match s.server seg with
  | none => record bMALLET 10 (atUnit seg) s
  | some m =>
    let can := s.spareReady && s.mal.hits.all (· == seg)
    let s := s.onMal (fun x => { x with fenced := x.fenced ||| BitVec.twoPow 9 m, hits := if x.hits.contains seg then x.hits else x.hits ++ [seg] })
    if !s.mal.scanning then s
    else if can then
      let d := s.mal.slot
      let w := if planeSlot (d + 3) then d + 3 else d + 4
      s.onMal (fun x => { x with spareSeg := some seg, takeover := some (m, seg, cause, w - d), struck := x.struck ||| BitVec.twoPow 8 seg,
                                 skipLb := x.skipLb ||| BitVec.twoPow 8 seg, mallets := modAt x.mallets 8 (malStart w),
                                 repair := if hold then x.repair ++ [(seg, false)] else x.repair })
    else record bMALLET 10 (atUnitVal m seg) s

/-- A detection of R303: recorded at MAJOR at least, then the takeover. -/
def detect (seg src : Nat) (inj hold : Bool) (s : State) : State :=
  let m := (s.server seg).getD 8
  connectSpare seg src hold (record bMALLET src { (atUnitVal m seg).inj inj with minSev := 2 } s)

/-! A row write (R283, R284, R302, R307, R36, R276). -/

/-- A row of the words free values (log entry 11). -/
def freeRow (i : Nat) : BitVec 1536 := BitVec.ofNat 1536 (sumL ((List.range 48).map (fun k => (Config.freeWord (i + k)).toNat * 2 ^ (32 * k))))

/-- The columns of some 64-column groups. -/
def groupMask (gs : List Nat) : BitVec 1536 := gs.foldl (fun m g => m ||| BitVec.ofNat 1536 ((2 ^ 64 - 1) * 2 ^ (64 * g))) 0

/-- The latch rows that a write of plane k loads: kind and contents (R276, R284). -/
def State.rowData (s : State) (y k : Nat) (ue : BitVec 1536) (dark : Bool) : List (Nat × BitVec 1536) :=
  let row (p : Nat) : BitVec 1536 := s.bankRow s.pix.active p y
  let duty := if dark then 0 else row k &&& ~~~ue
  if k = 9 then [(0, duty), (1, row 10 ||| ue), (2, row 11 ||| ue)] else [(0, duty)]

/-- Recorded contents of some latch rows, and what the latches then hold. -/
def putLatch (seg y n : Nat) (data : List (Nat × BitVec 1536)) (good : Bool) (s : State) : State :=
  let change := data.foldl (fun m d => m ||| (s.recRow y d.1 ^^^ d.2)) (0 : BitVec 1536)
  let got (d : Nat × BitVec 1536) : BitVec 1536 := if good then d.2 else freeRow (s.freeIdx + 48 * d.1)
  let py := s.physRow y
  let s' := s.onMal (fun m => { m with record := data.foldl (fun r d => spSet 0 r (py * 3 + d.1) d.2) m.record,
                                       latch := data.foldl (fun r d => spSet 0 r (py * 3 + d.1) (got d)) m.latch })
  senseTouch seg y n change (if good then s' else s'.onFreeIdx (· + 144))

/-- Absolute slot number. -/
def State.absSlot (s : State) : Nat := s.mal.beat * 1024 + s.mal.slot

/-- The column drivers' parity differs (R302). -/
def parityFault (m seg : Nat) (s : State) : State :=
  let second := match (s.mal.mallets.getD m default).lastParity with
    | some t => decide (s.absSlot ≤ t + 1024)
    | none => false
  let s := onMallet m (fun x => { x with lastParity := some s.absSlot }) s
  if second then detect seg 3 false false s else record bMALLET 3 (atUnitVal m seg) s

/-- Mallet 8 in standby compares itself with the Mallet serving the segment it shadows: its parity counts where the serving
Mallet's bus parity passes, the completion of its shadow read in every slot that Mallet wrote (R307). -/
def shadowCheck (seg : Nat) (shadowOk : Bool) (s : State) : State :=
  let stim := s.hasStim bMALLET 2 8
  if s.spareReady && decide (s.mal.beat % 8 = seg) && (stim || !shadowOk) then
    let s := dropStim bMALLET 2 8 s
    record bMALLET 8 ((atUnit 8).inj stim) (s.onMal (fun m => { m with fenced := m.fenced ||| BitVec.twoPow 9 8 }))
  else s

/-- A deadline miss (R36, R284, R497). -/
def deadlineMiss (m seg y k : Nat) (s : State) : State :=
  let s := s.onMal (fun x => { x with dark := if k = 9 ∧ x.dark.contains y = false then x.dark ++ [y] else x.dark,
                                      skipLb := x.skipLb ||| BitVec.twoPow 8 seg })
  let r := recordT bMALLET 0 (atUnitVal m seg) (s.bump (0x90060 + 4 * m) 0 16 1)
  if r.2 then paceRaise r.1 else r.1

/-- An uncorrectable error of the active bank (R276): in STILL the exit starts; elsewhere, where no bank is due, the frame on show is
processed again into the inactive bank. -/
def bankUnread (s : State) : State :=
  if s.sys.st = .still then startStillExit s
  else if s.carl.job.isSome || !s.pdIs 6 .on || !s.isLit then s
  else
    match s.carl.lastJob with
    | some j => issueBands ((s.onCarl (fun c => { c with job := some j })).onPix (fun p => { p with inactive := 1, bandsDone := 0 }))
    | none => s

/-- The row write of Mallet m for entry e of segment seg in slot n. -/
def writeRow (m seg n e : Nat) (o : RowObs) (s : State) : State :=
  let k := scPlane e
  let y := 96 * seg + scRow e
  let s := onMallet m (fun x => { x with nextSlot := slotAfter n, inOrder := x.inOrder && decide (x.nextSlot = n) }) s
  if !o.inTime then deadlineMiss m seg y k s
  else
    let stim := s.hasStim bPIX 1 y
    let gs := o.ueGroups.map (·.val) ++ (if stim then [(s.freeWord.toNat) % 24] else [])
    let s := if stim then (dropStim bPIX 1 y s).freeNext else s
    let s := eccCorrected o.ce bPIX 0 0x80078 s
    let s := if gs.isEmpty then s else bankUnread (record bPIX 1 ((atUnitVal m y).inj stim) s)
    let s := if k = 9 then s.onMal (fun x => { x with dark := x.dark.filter (· != y) }) else s
    let s := putLatch seg y n (s.rowData y k (groupMask gs) (s.mal.dark.contains y)) o.parityOk s
    let s := onMallet m (fun x => { x with writes := x.writes + 1 }) s
    let s := shadowCheck seg (o.shadowDone && (o.shadowOk || !o.parityOk)) s
    if o.parityOk then s else parityFault m seg s

/-- ROW_WRITE: a plane slot of a Mallet that scans a segment. -/
def rowWriteEvent (m n : Nat) (o : RowObs) (s : State) : State :=
  match s.segOf m with
  | none => s
  | some seg =>
    if !s.mal.scanning || !planeSlot n then s
    else
      let s := s.onMal (fun x => { x with slot := n })
      if o.scoreUe then detect seg 4 false false s
      else if !o.wrote || s.hasStim bMALLET 2 m then s
      else writeRow m seg n (s.scoreAt (seg * 1024 + n)) o s

/-! Watchers and timers (R297, R298, R301, R56). -/

/-- Mallet m has earned its Strike in this beat (R297). -/
def State.earned (s : State) (m : Nat) : Bool :=
  let x := s.mal.mallets.getD m default
  x.inOrder && decide (x.nextSlot = 1024) && decide (480 ≤ x.writes) && !s.hasStim bMALLET 2 m && !s.hasStim bMALLET 1 m

/-- STRIKE: the Strikes of slot 1023 and the Strike watcher. -/
def strikeEvent (s : State) : State :=
  if !s.mal.scanning then s else
    let s := s.onMal (fun x => { x with slot := 1023 })
    let muted (n : Nat) : Bool := s.hasStim bMALLET 9 n
    let ok (n : Nat) : Bool := !muted n && (s.mal.struck.getLsbD n || (match s.server n with
      | some m => s.earned m
      | none => false))
    let miss := selN 8 (fun n => !ok n && !muted n)
    let injd (n : Nat) : Bool := match s.server n with
      | some m => s.hasStim bMALLET 1 m || s.hasStim bMALLET 2 m
      | none => false
    let clear (s : State) : State := (List.range 9).foldl (fun s m => dropStim bMALLET 1 m s) s
    let s' := s.onMal (fun x => { x with struck := BitVec.ofNat 8 (sumL ((selN 8 ok).map (2 ^ ·))) })
    match miss with
    | [] => clear s'
    | [n] => clear (detect n 1 (injd n) false s')
    | _ => clear (record bMALLET 11 (noUnit.inj (miss.any injd)) s')

/-- HANG_WATCH: no row write of Mallet m in 32 plane slots. -/
def hangWatchEvent (m : Nat) (s : State) : State :=
  match s.segOf m with
  | none => s
  | some seg =>
    if !s.mal.scanning || s.hasStim bMALLET 9 seg then s
    else detect seg 2 (s.hasStim bMALLET 2 m) false (dropStim bMALLET 2 m s)

/-- One segment's timer has expired (R56, R298). -/
def timerExpire (n : Nat) (s : State) : State :=
  let stim := s.hasStim bMALLET 9 n
  let s := (dropStim bMALLET 9 n s).onMal (fun m => { m with timerExpired := m.timerExpired ||| BitVec.twoPow 8 n })
  record bMALLET 9 { (atUnit n).inj stim with minSev := 2 } (showGong (BitVec.twoPow 8 n) s)

/-- GONG_TIMER_EXPIRY: a spare takes one segment over; otherwise GONG (R55, R56). -/
def gongTimerEvent (segs : BitVec 8) (s : State) : State :=
  let l := selN 8 (fun n => segs.getLsbD n)
  if !s.isLit then s
  else
    let s := l.foldl (fun s n => timerExpire n s) s
    match l with
    | [] => s
    | [n] =>
      if s.spareReady && s.mal.hits.all (· == n) then connectSpare n 9 true s
      else connectSpare n 9 true (enterGong 3 s)
    | n :: _ => record bMALLET 10 (atUnitVal ((s.server n).getD 8) n) (enterGong 3 s)

/-! Latch readback (R310, R311, R305). -/

/-- Columns of a row that differ from the record, cut columns left out: canvas column and changed bits. -/
def State.rowDiff (s : State) (seg : Nat) (dev : List (Nat × BitVec 3)) : List (Nat × BitVec 3) :=
  dev.filter (fun d => decide (d.1 < 1536) && decide (d.2 ≠ 0) && !s.isCut seg d.1)

/-- The deviations of a row as one bit row. -/
def devRow (mx : Bool) (dev : List (Nat × BitVec 3)) (k : Nat) : BitVec 1536 :=
  dev.foldl (fun m d => if d.1 < 1536 ∧ d.2.getLsbD k = true then m ||| BitVec.twoPow 1536 (colOf mx d.1) else m) 0

/-- A latch reads above its record (R331): duty 1 against 0, or a higher current tier, which has the lower number. -/
def latchAbove (s : State) (y x : Nat) (d : BitVec 3) : Bool :=
  let pc := colOf s.mirrorX x
  let bit (k : Nat) : Nat := bit01 ((s.recRow y k).getLsbD pc)
  let t := bit 1 + 2 * bit 2
  let t' := (bit 1 + bit01 (d.getLsbD 1)) % 2 + 2 * ((bit 2 + bit01 (d.getLsbD 2)) % 2)
  (d.getLsbD 0 && decide (bit 0 = 0)) || decide (t' < t)

/-- A confirmed row mismatch (R305, R311). -/
def rowConfirmed (seg m : Nat) (s : State) : State :=
  let again := decide (m = 8) && (match s.mal.takeover with
    | some (_, g, c, _) => decide (g = seg) && decide (c = 5)
    | none => false)
  let s := showGong (BitVec.twoPow 8 seg) s
  if again then record bMALLET 12 (atUnitVal m seg) s else detect seg 5 false true s

/-- The readback of one row; again: it repeats a row found with 8 or more mismatches. -/
def readRow (seg y : Nat) (again : Bool) (dev : List (Nat × BitVec 3)) (s : State) : State :=
  let m := (s.server seg).getD 8
  let diff := s.rowDiff seg dev
  let py := s.physRow y
  let s := s.onMal (fun x => { x with latch := (List.range 3).foldl (fun r k => spSet 0 r (py * 3 + k) (s.recRow y k ^^^ devRow s.mirrorX dev k)) x.latch })
  let n := diff.length
  if n = 0 then (if again then record bMALLET 6 (atUnitVal m seg) s else s)
  else
    let s := (s.bump (0x90060 + 4 * m) 16 16 1).onMal (fun x => { x with repair := x.repair.map (fun r => if r.1 = seg then (seg, false) else r) })
    if 8 ≤ n then
      (if again then rowConfirmed seg m s else s.onMal (fun x => { x with rbConfirm := x.rbConfirm ++ [(seg, y)] }))
    else
      let s := if again then record bMALLET 6 (atUnitVal m seg) s else s
      let s := record bMALLET 7 (atUnitVal m seg) s
      diff.foldl (fun s d => latchFault (y * 1536 + d.1) (latchAbove s y d.1 d.2) s) s

/-- LATCH_READBACK in non-plane slot j, where that is a READBACK slot (R281): two rows of a segment, rows to be repeated first. -/
def latchReadbackEvent (seg j : Nat) (dev0 dev1 : List (Nat × BitVec 3)) (s : State) : State :=
  if !s.mal.scanning || slotFn s.porch (16 * j + 15) != .readback then s else
    let rep := ((s.mal.rbConfirm.filter (fun c => c.1 == seg)).map (·.2)).take 2
    let p := s.mal.rbPtr.getD seg 0
    let new := (List.range (2 - rep.length)).map (fun i => 96 * seg + (p + i) % 96)
    let s := s.onMal (fun x => { x with rbConfirm := x.rbConfirm.filter (fun c => c.1 != seg), rbPtr := x.rbPtr.set seg ((p + new.length) % 96),
                                        slot := 16 * j + 15 })
    let rows := rep.map (fun y => (y, true)) ++ new.map (fun y => (y, false))
    (rows.zip [dev0, dev1]).foldl (fun s r => if s.mal.scanning then readRow seg r.1.1 r.1.2 r.2 s else s) s

/-! Unfence and cuts (R308, R312, R332). -/

/-- A Mallet's BIST at unfence ends (R308). -/
def unfenceMallet (m : Nat) (bad : Bool) (s : State) : State :=
  if s.mal.fenced.getLsbD m = false then s
  else if bad then record bMALLET 15 (atUnit m) s
  else s.onMal (fun x => { x with fenced := x.fenced &&& ~~~(BitVec.twoPow 9 m), bistOut := x.bistOut &&& ~~~(BitVec.twoPow 9 m),
                                  spareSeg := if x.spareSeg = some m then none else x.spareSeg })

/-- The cut set goes to both configuration copies (R332). -/
def saveCuts (s : State) : State := saveCfg (fun d => { d with cuts := s.mal.cutSw }) s

/-- Requested cuts open at a beat boundary (R312). -/
def openCuts (s : State) : State :=
  s.mal.cutReq.foldl (fun s c =>
    let k := c.1 * 48 + c.2 / 32
    let s := s.onMal (fun m => { m with cutSw := spSet 0 m.cutSw k (spGet 0 m.cutSw k ||| BitVec.twoPow 32 (c.2 % 32)), cutReq := m.cutReq.erase c })
    record bMALLET 13 (atUnitVal c.1 c.2) (saveCuts s)) s

/-- Cuts are removed by a write in READY (R312). -/
def removeCuts (seg w : Nat) (v : Word) (s : State) : State :=
  let k := seg * 48 + w
  let old := spGet 0 s.mal.cutSw k
  if old &&& v = 0 then s else saveCuts (s.onMal (fun m => { m with cutSw := spSet 0 m.cutSw k (old &&& ~~~v) }))

/-! What changes at a beat boundary (R285, R305, R465). -/

/-- The array is dark and scanning stops (R57, R74, R169, R285). -/
def goDark (s : State) : State :=
  let s := s.onMal (fun m => { m with scanning := false, stopDue := false, gongSegs := 0, frozen := false, repair := [], rbConfirm := [], dark := [] })
  let s := s.onCarl (fun c => { c with job := none, lastJob := none })
  let s := s.onStore (fun t => { t with shown := none })
  let s := s.onPix (fun p => { p with inactive := 0 })
  match s.clap.held with
  | some l => (match l.kind with
    | .lightOff => finish l.ctx ok (s.onClap (fun c => { c with held := none }))
    | _ => s)
  | none => s

/-- Segments whose Gong pattern Mallet 8 has made good (R305). -/
def releaseRepair (s : State) : State :=
  let free := s.mal.repair.filter (fun r => r.2 && s.mal.struck.getLsbD r.1)
  let segs := BitVec.ofNat 8 (sumL (free.map (fun r => 2 ^ r.1)))
  s.onMal (fun m => { m with gongSegs := m.gongSegs &&& ~~~segs,
                             repair := (m.repair.filter (fun r => !free.contains r)).map (fun r => (r.1, true)) })

/-- A RESTORE_FACTORY of the column trims is under way: their new generation acts before its completion record makes it current (R481). -/
def State.restoringCols (s : State) : Bool :=
  s.clap.long.any (fun l => match l.kind with
    | .restore _ => (byteAt l.ctx.pkt.params 0).getLsbD 3
    | _ => false)

/-- Mallets begin a beat; one that took over near the end of the last goes on from its slot. -/
def beatStart (s : State) : State :=
  s.onMal (fun m => { m with mallets := m.mallets.map (fun x => malStart (if 1024 < x.nextSlot then x.nextSlot - 1024 else 0) x),
                             struck := 0, hits := [], slot := 0, trim := if s.restoringCols then [] else s.nvm.cur.colDelta })

/-- Scanning starts: duty latches are cleared and every row is dark until written (R285). -/
def startScan (s : State) : State :=
  s.onMal (fun m =>
    { m with scanning := true, stopDue := false, gongSegs := 0, frozen := false, repair := [], rbConfirm := [], dark := [], hits := [],
             latch := m.latch.filter (fun e => decide (e.1 % 3 ≠ 0)), record := m.record.filter (fun e => decide (e.1 % 3 ≠ 0)),
             mallets := m.mallets.map (malStart 0), struck := 0xFF, lbFirst := true, lbExit := false, firstFrame := true })

/-- LIT is entered: a DEGRADED cause still in force leads on at once (R375). -/
def enterLit (s : State) : State :=
  let s := enterState .lit (litEntered s)
  if s.safe.causes = 0 then s else enterState .degraded s

/-! Current factors (R293, R295). -/

/-- STILL factor of a segment: the frozen bank's codes against the newest. -/
def stillFactor (old new : List (Nat × Byte)) (seg : Nat) : Nat :=
  Nat.min 256 (((List.range 1152).map (fun i => 256 * (derOf new (seg * 1152 + i) + 1) / (derOf old (seg * 1152 + i) + 1))).foldl Nat.min 256)

/-- A frame boundary in STILL (R295): a segment that has needed less than 128 is held at 128 until the next swap. -/
def stillBoundary (s : State) : State :=
  let a := (List.range 8).map (stillFactor s.pix.shownDerate s.pwr.derate)
  let old := s.mal.held128
  let low := BitVec.ofNat 8 (sumL ((selN 8 (fun n => decide (a.getD n 256 < 128))).map (2 ^ ·)))
  let s := s.onMal (fun m => { m with scale := a.zipIdx.map (fun e => if (old ||| low).getLsbD e.2 then 128 else e.1),
                                      scaleStill := List.replicate 8 true, held128 := old ||| low })
  if low &&& ~~~old = 0 then s else startStillExit (record bMALLET 14 noUnit s)

/-! Frame boundaries (R25 to R28, R42, R203, R222, R294, R376). -/

/-- What the light-budget check will need of the frame that ends: demands in units of 10,000/1,023 nA, as PIX_SEG_DEMAND gives them
(R376, R377). -/
def budgetSnap (s : State) : State :=
  let s := if s.mal.scanning && s.store.shown.isSome then
      let fr := (List.range 8).map (fun n => (s.pix.shownSegDemand.getD n 0 / 16, s.pix.shownCutDemand.getD n 0 / 16, s.mal.scale.getD n 256,
        s.mal.skipLb.getLsbD n || s.mal.lbFirst))
      (s.onSafe (fun f => { f with lbFrame := fr })).onMal (fun m => { m with lbFirst := m.lbExit, lbExit := false })
    else s.onSafe (fun f => { f with lbFrame := [] })
  s.onMal (fun m => { m with skipLb := m.gongSegs })

/-- A GONG_EXIT with target LIT, or a LIGHT_ON, is complete with its first frame (R74, R169). -/
def firstShown (s : State) : State :=
  let s := if s.sys.st = .gong then (enterLit (armRefresh (startScan s))).onMal (fun m => { m with struck := 0 }) else s
  let s := s.onMal (fun m => { m with firstFrame := false })
  finishAll (fun l => match l.kind with
    | .lightOn => true
    | .gongExit _ => true
    | _ => false) ok s

/-- The frame in work at a boundary: swapped in, kept, or late (R27, R28, R30); whether a state may be latched. -/
def jobBoundary (s : State) : State × Bool :=
  match s.carl.job with
  | none => (s, true)
  | some j =>
    if j.failed then (s.onCarl (fun c => { c with job := none }), true)
    else if j.passed then
      let s := swapIn j s
      let s := s.onMal (fun m => { m with scale := List.replicate 8 s.pix.assist, scaleStill := List.replicate 8 false, held128 := 0, frozen := false })
      (if s.mal.firstFrame then firstShown s else s, true)
    else
      let s := onJob (fun j => { j with overran := true }) s
      (if j.quiet then s else record bCARL 3 noUnit s, false)

/-- Zones and caps that act on the light (R254, R368). -/
def State.damperNow (s : State) : List (List (BitVec 64)) := [s.zonesA, s.zonesB, if s.capsAct then s.caps else []]

/-- The bank on show was composed from the committed state (R294) and from the Damper sets and caps in force, so that no change of
them is still to act (R31). -/
def State.shownIsCommitted (s : State) : Bool :=
  decide (s.pix.shownSh = s.store.committed) && decide (s.pix.shownDamper = s.damperNow) &&
  (match s.findRec 0xFFFFFFFF with
  | some r => decide (r.lseq = s.store.commitSeq) && decide (r.keepGen = s.store.tabs.keepout.gen) && decide (r.floorGen = s.store.tabs.floor.gen)
  | none => false)

/-- STILL is entered (R46, R294). DESIGN CHOICE (log entry 92): a frame still incomplete at that boundary is abandoned, since the
Carillon that composes it is switched off. -/
def enterStill (s : State) : State :=
  let s := if s.cv.scan.any (fun c => c.space == 0) then abortScan (refuse0 0x12) s else s
  let s := s.onSys (fun y => { y with pd := (y.pd.set 6 .off).set 7 .ret, pdWant := (y.pdWant.set 6 .off).set 7 .ret })
  let s := (s.onMal (fun m => { m with frozen := true, held128 := 0 })).onCarl (fun c => { c with job := none })
  enterState .still (s.onPix (fun p => { p with inactive := 0 }))

/-- A pending STILL_ENTER at a frame boundary (R294). -/
def stillTry (s : State) : State :=
  match s.clap.long.find? (fun l => match l.kind with
    | .stillEnter _ => true
    | _ => false) with
  | none => s
  | some l =>
    let n := match l.kind with
      | .stillEnter n => n + 1
      | _ => 0
    if s.sys.st = .lit ∧ s.store.queue.isEmpty = true ∧ s.store.keepNext.isNone = true ∧ s.pix.assist = 256 ∧ s.shownIsCommitted = true then
      finishLong l ok (enterStill s)
    else if 16 ≤ n then finishLong l (refuse0 0x17) s
    else s.onClap (fun c => { c with long := c.long.map (fun x => if x = l then { x with kind := .stillEnter n } else x) })

/-- The state is left for LIT, or for DEGRADED while a cause is in force, once PD6 and PD7 are on again (R296). -/
def stillDone (s : State) : State :=
  if s.sys.st = .still ∧ s.pdIs 6 .on = true ∧ s.pdIs 7 .on = true then
    let s := s.onMal (fun m => { m with lbExit := true })
    let s := if s.safe.causes = 0 then enterState .lit (litEntered s) else enterState .degraded (litEntered s)
    finishAll (fun l => match l.kind with
      | .stillExit => true
      | _ => false) ok s
  else s

/-- Words of the write-back route in force. -/
def State.routeWords (s : State) : List Word := [0x60030, 0x60034, 0x60038, 0x6003C].map s.inForce

/-- A GONG_EXIT with target LIT has reached its composition (step 3 of R74): its first frame is composed, again where one failed. -/
def State.exitComposes (s : State) : Bool := decide (s.sys.st = .gong) && s.mal.firstFrame

/-- Caps of that first frame: those of the state it will be shown in, LIT or DEGRADED (R74, R368, R375). -/
def State.exitCaps (s : State) : Bool := decide (s.sys.st = .gong) && (decide (s.safe.causes ≠ 0) || !s.safe.beamAdb)

/-- A latching boundary (R203, R219, R231, R240, R245, R261, R375). -/
def latchBoundary (s : State) : State :=
  let route := s.routeWords
  let s := s.onPix (fun p => { p with gov := p.govNext })
  let (s, late) := latchStep s
  let s := gainSwap s
  let s := if s.loadNow ≤ s.capacity then clearCause 5 s else s
  let s := fcLatch (degradedAtLatch s)
  let s := if s.routeWords = route then s else s.onCarl (fun c => { c with wbDone := false })
  let s := s.onSense (fun e => { e with zones := s.zonesA ++ s.zonesB ++ (if s.capsAct then s.caps else []) })
  if s.pdIs 6 .on && (s.exitComposes || (s.isLit && s.sys.st != .still)) then startFrame s.mal.firstFrame (s.exitCaps || s.capsAct) late s else s

/-- A frame boundary (R280). -/
def frameBoundary (s : State) : State :=
  let s := budgetSnap s
  let shownBefore := s.store.shown.isSome
  let swapped := match s.carl.job with
    | some j => j.passed && !j.failed
    | none => false
  let (s, may) := jobBoundary s
  let s := if shownBefore && !swapped && s.isLit && s.sys.st != .still then showAgain s else s
  let s := stillTry (derateBoundary (pwrFrame s))
  if s.sys.st = .still then stillBoundary s
  else
    let s := if s.pdIs 7 .on then ageEntry s else s
    if may && s.pdIs 7 .on then latchBoundary s else s

/-- The beat in progress begins at a frame boundary (R280). -/
def State.atFrame (s : State) : Bool := s.sys.st.run && s.pdIs 9 .on && decide (s.mal.beat % s.frameBeats = 0)

/-- BEAT_BOUNDARY (R279, R280). -/
def beatBoundaryEvent (heads : List (Option (BitVec 5))) (s : State) : State :=
  if !(s.tabor 2).running then s else
    let s := senseRoll s
    let s := s.onMal (fun m => { m with beat := m.beat + 1 })
    let s := if s.mal.stopDue then syncOwner (goDark s) else s
    let s := vledBeat heads (hkBeat s)
    let s := beatStart (releaseRepair (openCuts s))
    let s := if s.atFrame then frameBoundary s else s
    digitalTakeover (senseBeat s)

/-! What the array and BEAT_OUT show (R282, R299, R313). -/

/-- Nominal full scale of a tier in nA (R269). -/
def tierNa : Nat → Nat
  | 0 => 40000
  | 1 => 10000
  | 2 => 2500
  | _ => 625

/-- Tier that the latches of a physical row and column hold. -/
def State.latchTier (s : State) (py pc : Nat) : Nat :=
  bit01 ((spGet 0 s.mal.latch (py * 3 + 1)).getLsbD pc) + 2 * bit01 ((spGet 0 s.mal.latch (py * 3 + 2)).getLsbD pc)

/-- A pixel, named by its physical row and column, conducts in a slot. In its segment's Gong pattern the limp bits decide in every
slot (R299); else the latched duty bit, in every slot but STRIKE, while the row drivers are enabled (R282, R285). A cut column is dark
in both (R312). -/
def State.conducts (s : State) (slot py pc : Nat) : Bool :=
  let y := rowOf s.sys.mirrorY py
  let seg := y / 96
  decide (s.pwr.owner ≠ 0) && !s.isCut seg (colOf s.mirrorX pc) &&
  (if s.mal.gongSegs.getLsbD seg then (spGet 0 s.mal.limpBits py).getLsbD pc
   else s.mal.scanning && decide (slot ≠ 1023) && (spGet 0 s.mal.latch (py * 3)).getLsbD pc)

/-- Factor of a tier's current source of canvas column x in a segment, in 1/3200: that of the effective column code on tier 0
(R465), else 1. -/
def State.columnFactor (s : State) (tier seg x : Nat) : Nat :=
  if tier = 0 then
    let e := seg * 1536 + x
    (3200 + 3 * (clampI 0 255 (((Config.factCol e).toNat : Int) + spGet 0 s.mal.trim e) - 128)).toNat
  else 3200

/-- Current of a pixel in a slot, in units of 1 nA / (1023 * 256 * 3200): the limp current of 10.0 uA in the Gong pattern (R299), else
I_k * 1024 / 1023 with the column's factor, scaled by the segment's factor (R282, R293, R465). -/
def State.pixelCurrent (s : State) (slot py pc : Nat) : Nat :=
  let seg := rowOf s.sys.mirrorY py / 96
  let tier := s.latchTier py pc
  if !s.conducts slot py pc then 0
  else if s.mal.gongSegs.getLsbD seg then 10000 * 1023 * 256 * 3200
  else tierNa tier * 1024 * s.columnFactor tier seg (colOf s.mirrorX pc) * s.mal.scale.getD seg 256

/-- Level of BEAT_OUT in slot n of the beat (R313). -/
def State.beatOut (s : State) (n : Nat) : Bool :=
  s.sys.st.run && s.lands && s.rfld 0x90000 9 1 == 1 && s.pdIs 9 .on && decide (n < if s.atFrame then 64 else 16)

/-! The light commands (R73, R74, R169, R294, R296). -/

/-- Frame code of a length in beats. -/
def fCode : Nat → Option Nat
  | 10 => some 0
  | 20 => some 1
  | 40 => some 2
  | 80 => some 3
  | _ => none

/-- F is set before lighting (R280, R452). -/
def setFrameCode (code : Nat) (s : State) : State :=
  if s.rfld 0x90010 0 2 = code then s else frameCfgChanged (s.setReg 0x90010 (BitVec.ofNat 32 code))

/-- Governor and factors at the start of light (R267, R293). -/
def freshLight (s : State) : State :=
  let s := s.onPix (fun p => { p with gov := 65536, govNext := 65536, assist := 256, tileDemand := [] })
  s.onMal (fun m => { m with scale := List.replicate 8 256, scaleStill := List.replicate 8 false, firstFrame := true })

/-- LIGHT_ON. The frame code may bring an event of TABOR (R452); where its severity enters GONG, the command is abandoned (R58). -/
def bodyLightOn : Body := fun c s =>
  let f := numAt c.pkt.params 0 1
  if s.lightForbidden then no (refuse0 0x30) s
  else if c.pkt.params.length ≠ 1 then no badLen s
  else if f ≠ 0 ∧ (fCode f).isNone then no (badParam 0) s
  else
    let s := match fCode f with
      | some k => setFrameCode k s
      | none => s
    if s.sys.st = .gong then (s, .done (refuse0 0x12) .none)
    else
      let s := safeLightOn (freshLight (startScan s))
      (if s.sys.st = .ready then enterLit s else syncOwner (litEntered s), .later .lightOn)

def bodyLightOff : Body := fun c s =>
  if c.pkt.params.length ≠ 0 then no badLen s
  else
    let lit := s.mal.scanning
    let service := decide (s.sys.st = .service)
    let s := s.onSys (fun y => { y with pdWant := (y.pdWant.set 6 .on).set 7 .on })
    let s := enterState .ready ((s.onMal (fun m => { m with stopDue := lit })).onCarl (fun c => { c with job := none }))
    if service || !lit then did s else (s, .held .lightOff)

def bodyStillEnter : Body := fun c s =>
  if c.pkt.params.length ≠ 0 then no badLen s else (s, .later (.stillEnter 0))

def bodyStillExit : Body := fun c s =>
  if c.pkt.params.length ≠ 0 then no badLen s else (startStillExit s, .later .stillExit)

def bodyGongEnter : Body := fun c s =>
  if c.pkt.params.length ≠ 0 then no badLen s
  else did (enterGong 6 s)

/-- Domains PD6 to PD9 are on. -/
def State.lightPowered (s : State) : Bool := (List.range 4).all (fun n => s.pdIs (6 + n) .on)

/-- GONG_EXIT once its domains are powered and tested (R74): none while the first frame is still to come. -/
def gongExitGo (toLit : Bool) (s : State) : State × Option Res :=
  if toLit then
    (if s.lightForbidden then (s, some (refuse0 0x30)) else (startFrame true s.exitCaps 0 (freshLight s), none))
  else (toReady (s.onMal (fun m => { m with stopDue := true })), some ok)

def bodyGongExit : Body := fun c s =>
  let t := numAt c.pkt.params 0 1
  if s.sys.limpN = false ∨ s.criticalSet = true then no (refuse0 0x12) s
  else if s.sys.gongCause = 4 ∧ s.safe.causes ≠ 0 then no (refuse0 0x31) s
  else if c.pkt.params.length ≠ 1 then no badLen s
  else if 1 < t then no (badParam 0) s
  else if t = 1 ∧ s.lightForbidden = true then no (refuse0 0x30) s
  else if s.lightPowered then
    match gongExitGo (decide (t = 1)) s with
    | (s, some r) => (s, .done r .none)
    | (s, none) => (s, .later (.gongExit (decide (t = 1))))
  else
    (s.onSys (fun y => { y with pdWant := (List.range 4).foldl (fun l n => l.set (6 + n) .on) y.pdWant }), .later (.gongExit (decide (t = 1))))

end Sys2Proof.Machine
end

