-- ==== Sys2Proof/Machine/Faults.lean ====
section
/-!
DEFINITION. The fault registers of a block as words (R400), clearing and its condition sources (R404, R416), the checks of
writes (R405, R406, R411), fault injection (R428, R429), FAULT_QUERY and FAULT_CLEAR (R414, R415), and the Clapper's pass
over the event queues with the fault log (R421, R422).
-/
namespace Sys2Proof.Machine

/-! Register words (R400). -/

/-- FLT_FIRST, FLT_SECOND. -/
def FltBlock.firstWord (f : FltBlock) : Word :=
  match f.first with
  | some h => BitVec.ofNat 32 (h.src + h.sev * 32 + 128 + bit01 f.coincident * 256 + bit01 h.tally * 512 + bit01 h.injected * 1024)
  | none => 0

def FltBlock.secondWord (f : FltBlock) : Word :=
  match f.second with
  | some h => BitVec.ofNat 32 (h.src + h.sev * 32 + 128 + bit01 h.tally * 256 + bit01 h.injected * 512 + f.deltaUs * 65536)
  | none => 0

def FltBlock.reactWord (f : FltBlock) : Word := BitVec.ofNat 32 (f.fltNSev + bit01 f.logInfo * 4)
def FltBlock.queueWord (f : FltBlock) : Word := BitVec.ofNat 32 (f.queue.length + f.lost * 65536)

/-- A slot that is in use. -/
def Tally.used (y : Tally) : Bool := decide (y.src ≠ 31)

def Tally.cfgWord (y : Tally) : Word := BitVec.ofNat 32 (y.src + y.n * 32 + y.wMs * 8192)

/-- Events in the window that ends now: the highest count of any unit. -/
def Tally.count (y : Tally) (now : Nat) : Nat :=
  maxL (y.hist.map (fun h => (h.2.filter (fun t => decide (now ≤ t + y.wMs * 1000000))).length))

def Tally.statWord (y : Tally) (now : Nat) : Word := BitVec.ofNat 32 (Nat.min 255 (y.count now) + y.reached * 256)

/-- Word of a fault register by its window offset; none where the offset is undefined (R548). -/
def State.fltWord (s : State) (b off : Nat) : Option Word :=
  let f := s.flts b
  match off with
  | 0xFF00 => some f.stat
  | 0xFF04 => some f.mask
  | 0xFF08 => some f.sev0
  | 0xFF0C => some f.sev1
  | 0xFF10 => some f.firstWord
  | 0xFF14 => some f.secondWord
  | 0xFF18 => some (BitVec.ofNat 32 (if f.first.isSome then f.firstTs else 0))
  | 0xFF1C => some (BitVec.ofNat 32 (if f.first.isSome then f.firstTs / 2 ^ 32 else 0))
  | 0xFF20 => some f.reactWord
  | 0xFF24 => some f.queueWord
  | 0xFF28 => some 0
  | _ =>
    if 0xFF30 ≤ off ∧ off < 0xFF50 ∧ off % 4 = 0 then
      let y := f.tallies.getD ((off - 0xFF30) / 8) default
      some (if off % 8 = 0 then y.cfgWord else y.statWord s.now)
    else none

/-- Fault registers that are wholly RO. -/
def fltRo (off : Nat) : Bool :=
  off == 0xFF10 || off == 0xFF14 || off == 0xFF18 || off == 0xFF1C || off == 0xFF24 || (decide (0xFF30 ≤ off) && decide (off % 8 = 4))

/-- Bits of the sources that exist. -/
def srcMask (b : Nat) : Nat := 2 ^ (srcSevs b).length - 1

/-! Clearing (R404, R416). -/

/-- A condition source whose condition holds. -/
def State.condHolds (s : State) (b src : Nat) : Bool :=
  match b with
  | 0 => decide (src = 0)
  | 2 => decide (src = 4)
  | 3 => (decide (src = 6) && !s.link.refclkOk) || (decide (src = 5) && decide (s.link.ls ≠ .active))
  | 4 => (decide (src = 2) && s.can.busOff) || (decide (src = 1) && !s.can.busOff && (decide (128 ≤ s.can.txErr) || decide (128 ≤ s.can.rxErr)))
  | 10 => decide (src = 11) && s.cutsOver
  | 11 => if src < 16 then s.hk.out.getLsbD src else decide (src = 16) && s.hk.refBad
  | _ => false

/-- Sources of a mask are cleared; FIRST and SECOND go with the last bit of FLT_STAT. -/
def clearStat (b : Nat) (mask : Word) (s : State) : State :=
  let hold := BitVec.ofNat 32 (sumL ((selN 32 (fun i => mask.getLsbD i && s.condHolds b i)).map (2 ^ ·)))
  onFlts b (fun f =>
    let st := f.stat &&& ~~~(mask &&& ~~~hold)
    if st = 0 then { f with stat := 0, raised := 0, first := none, second := none, firstTs := 0, coincident := false, deltaUs := 0 }
    else { f with stat := st, raised := f.raised &&& st }) s

/-! Injection (R428, R429). -/

/-- Sources with a stimulus, and the largest parameter. -/
def stimMax (b src : Nat) : Option Nat :=
  if b = bCARL ∧ src = 0 then some 3
  else if b = bPIX ∧ src = 2 then some 0xFFFF
  else if b = bPIX ∧ src = 1 then some 767
  else if b = bSAFE ∧ src = 0 then some 95
  else if b = bMALLET ∧ (src = 2 ∨ src = 1) then some 8
  else if b = bMALLET ∧ src = 9 then some 7
  else if b = bSENSE ∧ src = 7 then some 64
  else if b = bLINK ∧ src = 0 then some 3
  else if b = bSTORE ∧ src = 1 then some 3
  else if b = bHK ∧ src < 16 then some 0xFFFF
  else none

/-- An event recorded as though detected, without a unit: reactions that need none follow (log entry 40). -/
def injectRecord (b src : Nat) (s : State) : State :=
  let x := noUnit.inj true
  if b = bSAFE then
    let s := recordSafe src x (s.onSafe (fun f =>
      { f with cleanSkew := if src = 7 ∨ src = 8 then 0 else f.cleanSkew, cleanMis := if src = 6 then 0 else f.cleanMis,
               lbClean := if src = 12 then List.replicate 8 0 else f.lbClean }))
    match src with
    | 7 => addCause 0 s
    | 9 => addCause 3 s
    | 10 => addCause 4 s
    | 13 => enterGong 4 s
    | _ => s
  else if b = bCARL ∧ src = 4 then addCause 5 (record b src x s)
  else if b = bMALLET ∧ src = 0 then
    let r := recordT b src x s
    if r.2 then paceRaise r.1 else r.1
  else if b = bPWR ∧ src = 0 then syncOwner ((record b src x s).onPwr (fun p => { p with fenced := true }))
  else record b src x s

/-- A stimulus is applied; the block's own mechanism detects the fault. -/
def injectStimulus (b src param : Nat) (s : State) : State :=
  if b = bLINK then iter 32 (laneErrEvent param 0) s
  else if b = bSENSE then s.onSense (fun e => { e with stim := param :: e.stim.erase param })
  else if b = bHK then s.onHk (fun h => { h with stim := spSet 0 h.stim src 3 })
  else
    let p := if b = bPIX ∧ src = 2 then 0 else param
    s.onStims (fun l => (b, src, p) :: l.erase (b, src, p))

/-! Checks of writes (R400, R405, R406, R428): the rules of R584 by order. -/

/-- Severity fields of a word that break R405; sources from 16 * half on. -/
def sevBad (b half : Nat) (v : Word) (s : State) : Bool :=
  (List.range 16).any (fun i =>
    let src := 16 * half + i
    let n := fld v (2 * i) 2
    srcExists b src && (decide (n < srcSev b src) || (decide (b = bHK) && decide (src < 16) && decide (n ≠ (s.flts b).sev src))))

/-- Reserved bits of a writable fault register. -/
def fltResv (b off : Nat) : Nat :=
  let n := (srcSevs b).length
  match off with
  | 0xFF00 => 2 ^ 32 - 1 - srcMask b
  | 0xFF04 => 2 ^ 32 - 1 - srcMask b
  | 0xFF08 => 2 ^ 32 - 4 ^ Nat.min 16 n
  | 0xFF0C => 2 ^ 32 - 4 ^ (n - 16)
  | 0xFF20 => 2 ^ 32 - 8
  | 0xFF28 => 0xFF80
  | _ => 0xF8000000

/-- A value that breaks a range or severity rule (order 9 of R584). -/
def fltRange (b off : Nat) (v : Word) (s : State) : Bool :=
  match off with
  | 0xFF00 => false
  | 0xFF04 => (List.range 32).any (fun i => v.getLsbD i && decide (2 ≤ (s.flts b).sev i))
  | 0xFF08 => sevBad b 0 v s
  | 0xFF0C => sevBad b 1 v s
  | 0xFF20 => decide (fld v 0 2 = 0) || decide (fld v 0 2 = 3)
  | 0xFF28 =>
    if v.getLsbD 6 then
      !srcExists b (fld v 0 5) || (v.getLsbD 5 &&
        (match stimMax b (fld v 0 5) with
        | some m => decide (m < fld v 16 16)
        | none => true))
    else false
  | _ =>
    let y := (s.flts b).tallies.getD ((off - 0xFF30) / 8) default
    !y.used || decide (fld v 5 8 = 0) || decide (fld v 13 14 = 0) || decide (10000 < fld v 13 14)

/-- The effect of an accepted write of a fault register. -/
def fltPut (b off : Nat) (v : Word) (s : State) : State :=
  match off with
  | 0xFF00 => clearStat b v s
  | 0xFF04 => onFlts b (fun f => { f with mask := v }) s
  | 0xFF08 => onFlts b (fun f => { f with sev0 := v }) s
  | 0xFF0C => onFlts b (fun f => { f with sev1 := v }) s
  | 0xFF20 => onFlts b (fun f => { f with fltNSev := fld v 0 2, logInfo := v.getLsbD 2 }) s
  | 0xFF28 =>
    if v.getLsbD 6 then (if v.getLsbD 5 then injectStimulus b (fld v 0 5) (fld v 16 16) s else injectRecord b (fld v 0 5) s) else s
  | _ => onFlts b (fun f =>
      { f with tallies := modAt f.tallies ((off - 0xFF30) / 8) (fun y => { y with n := fld v 5 8, wMs := fld v 13 14, hist := [] }) }) s

/-! FAULT_QUERY and FAULT_CLEAR (R414 to R416). -/

def State.fltRecord (s : State) (b : Nat) : Bytes :=
  let f := s.flts b
  let w (v : Word) : Bytes := leOf 4 v
  [BitVec.ofNat 8 b, 0, 0, 0] ++ w f.stat ++ w f.mask ++ w f.sev0 ++ w f.sev1 ++ w f.firstWord ++ w f.secondWord ++
  natLe 8 (if f.first.isSome then f.firstTs else 0) ++ w f.reactWord ++
  (List.range 4).flatMap (fun k => w ((f.tallies.getD k default).statWord s.now)) ++ w f.queueWord ++ zeros 4

/-- Order of two events: tick, severity, block, source. -/
def evLt (a b : Nat × Nat × Nat × Nat) : Bool :=
  decide (a.1 < b.1) || (decide (a.1 = b.1) && (decide (b.2.1 < a.2.1) || (decide (a.2.1 = b.2.1) &&
    (decide (a.2.2.1 < b.2.2.1) || (decide (a.2.2.1 = b.2.2.1) && decide (a.2.2.2 < b.2.2.2))))))

/-- The blocks in the order that FAULT_QUERY gives for 0xFF. -/
def State.fltOrder (s : State) : List Nat :=
  let key (b : Nat) : Nat × Nat × Nat × Nat :=
    let f := s.flts b
    ((f.firstTs), (f.first.map (·.sev)).getD 0, b, (f.first.map (·.src)).getD 0)
  let held := (List.range 16).filter (fun b => (s.flts b).first.isSome)
  sortBy (fun a b => evLt (key a) (key b)) held ++ (List.range 16).filter (fun b => (s.flts b).first.isNone)

def bodyFaultQuery : Body := fun c s =>
  let b := numAt c.pkt.params 0 1
  if c.pkt.params.length ≠ 1 then no badLen s
  else if b = 0xFF then answer (okData (s.fltOrder.flatMap s.fltRecord)) s
  else if 16 ≤ b then no (badParam 0) s
  else answer (okData (s.fltRecord b)) s

def bodyFaultClear : Body := fun c s =>
  let b := numAt c.pkt.params 0 1
  let m := u32At c.pkt.params 1
  if c.pkt.params.length ≠ 5 then no badLen s
  else if 16 ≤ b then no (badParam 0) s
  else if m.toNat / 2 ^ (srcSevs b).length ≠ 0 then no (badParam 1) s
  else
    let s := clearStat b m s
    didData (leOf 4 (s.flts b).stat) s

/-! The fault log (R421, R422). -/

/-- One event or record that a pass takes up. -/
structure PassItem where
  tick : Nat
  sev : Nat
  blk : Nat
  src : Nat
  kind : Nat
  flags : Nat
  count : Nat
  state : DevState
  detail : Bytes
  deriving DecidableEq, Repr

def PassItem.key (p : PassItem) : Nat × Nat × Nat × Nat := (p.tick, p.sev, p.blk, p.src)

def FltEvent.item (e : FltEvent) (b : Nat) : PassItem :=
  { tick := e.tick, sev := e.sev, blk := b, src := e.src, kind := 0, state := e.state, count := e.count,
    flags := e.sev + bit01 e.first * 4 + bit01 e.coincident * 8 + bit01 e.tally * 16 + bit01 e.masked * 32 + bit01 e.coalesced * 64 +
      bit01 e.injected * 128,
    detail := leOf 4 e.unit ++ leOf 4 e.value }

def LogItem.item (l : LogItem) : PassItem :=
  { tick := l.tick, sev := l.sev, blk := l.blk, src := l.src, kind := l.kind, state := l.state, detail := l.detail,
    count := if l.coal = 0 then 1 else l.coal, flags := l.sev + (if l.coal = 0 then 0 else 64) }

/-- A record of 64 bytes is appended; the oldest of 4,096 is overwritten. -/
def appendLog (p : PassItem) (s : State) : State :=
  let r := leOf 4 s.clap.logSeq ++ natLe 8 p.tick ++ leOf 2 s.epoch ++
    [BitVec.ofNat 8 p.blk, BitVec.ofNat 8 p.src, BitVec.ofNat 8 p.flags, BitVec.ofNat 8 p.kind] ++ natLe 2 (Nat.min 65535 p.count) ++
    [BitVec.ofNat 8 p.state.code] ++ zeros 3 ++ padTo 40 (p.detail.take 40)
  touchMram (0x514000 + 64 * (s.clap.logSeq.toNat % 4096)) 64 (s.onClap (fun c => { c with log := (if c.log.length < 4096 then c.log else c.log.drop 1) ++ [r], logSeq := c.logSeq + 1 }))

/-- The coalesced record of a window (R422). -/
def closeWin (w : RateWin) (s : State) : State :=
  let s := s.onClap (fun c => { c with rates := c.rates.erase w })
  if w.surplus = 0 then s
  else
    appendLog { tick := w.lastTick, sev := (s.flts w.blk).sev w.src, blk := w.blk, src := w.src, kind := w.kind,
                flags := (s.flts w.blk).sev w.src + 64, count := w.surplus, state := s.sys.st,
                detail := if w.kind = 0 then leOf 4 (0xFFFFFFFF : Word) else [] } s

def State.rateWin (s : State) (blk kind src : Nat) : Option RateWin :=
  s.clap.rates.find? (fun w => w.blk == blk && w.kind == kind && w.src == src)

def putWin (old : Option RateWin) (w : RateWin) (s : State) : State :=
  s.onClap (fun c => { c with rates := (match old with
    | some o => c.rates.erase o
    | none => c.rates) ++ [w] })

/-- One item is logged, or counted for the coalesced record of its second. -/
def logPass (p : PassItem) (s : State) : State :=
  if p.kind = 0 ∧ p.sev = 0 ∧ (s.flts p.blk).logInfo = false then s
  else if p.kind = 0 ∨ p.kind = 1 ∨ p.kind = 4 then
    let fresh : RateWin := ⟨p.blk, p.kind, p.src, p.tick, 1, 0, p.tick⟩
    match s.rateWin p.blk p.kind p.src with
    | none => putWin none fresh (appendLog p s)
    | some w =>
      if w.start + 1000000000 ≤ p.tick then putWin none fresh (appendLog p (closeWin w s))
      else if w.n < 16 then putWin (some w) { w with n := w.n + 1, lastTick := p.tick } (appendLog p s)
      else putWin (some w) { w with surplus := w.surplus + p.count, lastTick := p.tick } s
  else appendLog p s

/-- EVT FAULT of an event that is not masked (R179, R407). -/
def evtFault (e : FltEvent) (b : Nat) (s : State) : State :=
  if e.masked then s
  else postEvent b e.sev 2 [BitVec.ofNat 8 e.src, if e.first then 0 else if e.second then 1 else 2, BitVec.ofNat 8 (bit01 e.coincident)] s

/-- The event of a confirmation, whose one record is its PIXEL_CONFIRM record (R330). -/
def FltEvent.pixel (e : FltEvent) (b : Nat) : Bool := b == bSENSE && decide (e.src < 6) && !e.injected && !e.coalesced

/-- The Clapper's pass over the event queues (R414, R422). -/
def logPassAll (s : State) : State :=
  if s.clap.restarting then s else
    let evs := (List.range 16).flatMap (fun b => (s.flts b).queue.map (fun e => (e.item b, some e)))
    let recs := s.clap.logPend.map (fun l => (l.item, (none : Option FltEvent)))
    let all := sortBy (fun a b => evLt a.1.key b.1.key) (evs ++ recs)
    let s := s.onFlt (fun l => l.map (fun f => { f with queue := [] }))
    let s := s.onClap (fun c => { c with logPend := [] })
    all.foldl (fun s x =>
      match x.2 with
      | some e => evtFault e x.1.blk (if e.pixel x.1.blk then s else logPass x.1 s)
      | none => logPass x.1 s) s

/-- End of a one-second window (R422). -/
def logCoalesce (blk kind src : Nat) (s : State) : State :=
  if s.clap.restarting then s else
    match s.rateWin blk kind src with
    | some w => closeWin w s
    | none => s

end Sys2Proof.Machine
end

