-- ==== Sys2Proof/Machine/Sec.lean ====
section
/-!
DEFINITION. Security (R523 to R546): which right a command needs, KEY_INSTALL, KEY_RETIRE and the key directory, images
with their verification, FW_STAGE, FW_ACTIVATE, SERVICE_UNLOCK and the end of a lockout.
-/
namespace Sys2Proof.Machine

/-! Requirements (R533, R534). -/

/-- The right that an opcode alone requires. -/
def needOf (op : Nat) : Option Nat :=
  if op = 0x900 ∨ op = 0x901 then some 3
  else if op = 0x902 ∨ op = 0x903 then some 4
  else if op = 0x904 then some 7
  else if op = 0x403 then some 5
  else if op = 0x303 ∨ op = 0x005 ∨ op = 0x402 ∨ op = 0x700 ∨ (0x800 ≤ op ∧ op ≤ 0x803) then some 0
  else none

/-- Commands that need authentication with a right that depends on their parameters. -/
def needsMac (op : Nat) : Bool := (needOf op).isSome || decide (op = 0x302)

def State.requireAll (s : State) : Bool := s.rfld 0xF000C 0 1 == 1 && !s.sys.profileL

/-- A command requires authentication. -/
def State.mustAuth (s : State) (op : Nat) : Bool := needsMac op || (s.requireAll && decide (2 < op)) || s.sys.profileL

/-- The MAC of a command verifies under an ACTIVE slot that holds what the opcode requires (R533, R534). A command whose
right depends on its parameters needs a key here and that right at step 10. -/
def State.authOk (s : State) (p : CmdPkt) : Bool :=
  match s.keyOf p.slot.toNat with
  | none => false
  | some k =>
    (macOf k 1 s.sys.profileL serialBytes p.covered == p.mac) &&
    (match needOf p.opcode.toNat with
    | some r => s.hasRight p.slot.toNat r
    | none => decide (p.opcode = 0x302) || s.hasRight p.slot.toNat 0)

/-! Keys (R526, R527, R529). -/

def onSlot (n : Nat) (f : KeySlot → KeySlot) (s : State) : State := s.onSec (fun k => { k with slots := modAt k.slots n f })

/-- The key of slot n changes: a TSY exchange under way that uses the slot is discarded under R444 (R528). -/
def changeKey (n : Nat) (f : KeySlot → KeySlot) (s : State) : State :=
  let uses (k : Nat) : Bool := match (s.tabor k).exch with
    | some e => e.slots.contains n
    | none => false
  let s := if uses 0 then breakExch 0 s else s
  onSlot n f (if uses 1 then breakExch 1 s else s)

/-- First 4 bytes of the encryption of a zero block. -/
def kcvOf (key : Bytes) : Bytes := (aesEnc key (zeros 16)).take 4

/-- What a KEY_INSTALL record breaks: status and offset. -/
def keyBad (ps : Bytes) (own : Nat) (key : Bytes) (s : State) : Option (Nat × Nat) :=
  let slot := numAt ps 0 1
  let rights := u16At ps 2
  let grant := (s.sec.slots.getD own default).rights
  if 16 ≤ slot ∨ slot = own then some (0x11, 0)
  else if numAt ps 1 1 ≠ 0 then some (0x11, 1)
  else if numAt ps 3 1 ≠ 0 then some (0x11, 3)
  else if u32At ps 4 = 0 then some (0x11, 4)
  else if sliceB ps 24 4 ≠ kcvOf key then some (0x11, 24)
  else
    match findIdx? (fun b => b ≠ 0) (sliceB ps 28 4) with
    | some i => some (0x11, 28 + i)
    | none => if rights &&& 0xF8 &&& ~~~grant ≠ 0 then some (0x14, 2) else none

def bodyKeyInstall : Body := fun c s =>
  let ps := c.pkt.params
  let own := c.pkt.slot.toNat
  if ps.length ≠ 32 then no badLen s
  else
    let key := aesDec ((s.keyOf own).getD (zeros 16)) (sliceB ps 8 16)
    match keyBad ps own key s with
    | some (st, off) => no (refuse st off 0xFFFFFFFF) s
    | none =>
      let n := numAt ps 0 1
      did (record bSEC 5 (atUnit n)
        (changeKey n (fun _ => { st := .active, key := key, rights := u16At ps 2, keyId := u32At ps 4, last := 0 }) s))

def bodyKeyRetire : Body := fun c s =>
  let n := numAt c.pkt.params 0 1
  if c.pkt.params.length ≠ 1 then no badLen s
  else if 16 ≤ n ∨ n = c.pkt.slot.toNat then no (badParam 0) s
  else did (record bSEC 5 (atUnit n) (changeKey n (fun k => { k with st := .retired, key := [] }) s))

def SlotState.code : SlotState → Nat
  | .empty => 0
  | .active => 1
  | .retired => 2

/-- Entry n of KEY_DIR. -/
def State.keyDir (s : State) (n : Nat) : Bytes :=
  let k := s.sec.slots.getD n default
  [BitVec.ofNat 8 n, BitVec.ofNat 8 k.st.code] ++ leOf 2 k.rights ++ leOf 4 k.keyId ++ leOf 4 k.last ++
  (if k.key.isEmpty then zeros 4 else kcvOf k.key)

/-! Images (R537 to R542). -/

def imgBytes (s : State) (r off n : Nat) : Bytes := (List.range n).map (fun i => imgByte s (r * 0x100000 + off + i))
def imgLen (s : State) (r : Nat) : Nat := imgNum s r 12 4

/-- The conditions of R538 but that on svn; the image delivered in region A meets them (log entry 6). -/
def imgSound (s : State) (r : Nat) : Bool :=
  imgDelivered s r ||
  (decide (imgNum s r 0 4 = 0x5A554657) && decide (4 ≤ imgLen s r) && decide (imgLen s r ≤ 1048320) && decide (imgLen s r % 4 = 0) &&
   (sha256 (imgBytes s r 0x100 (imgLen s r)) == imgBytes s r 16 32) && decide (imgKey s r ≤ 1) &&
   Config.ecdsaOk (imgKey s r) (sha256 (imgBytes s r 0 48)) (imgBytes s r 48 64) && !(decide (imgKey s r = 0) && s.sec.revoked))

def imgFresh (s : State) (r : Nat) : Bool := decide (s.sec.minSvn.toNat ≤ (imgSvn s r).toNat)
def imgGood (s : State) (r : Nat) : Bool := imgSound s r && imgFresh s r

/-- An image refused only on svn records ROLLBACK (R540). -/
def rollback (r : Nat) (s : State) : State := if imgSound s r && !imgFresh s r then record bSEC 2 (atUnit r) s else s

/-- The region that FW_STAGE writes (R541). -/
def State.stageRegion (s : State) : Nat :=
  match s.sys.fwImage.toNat with
  | 0 => 1
  | 1 => 0
  | _ => if s.sec.active then 0 else 1

def bodyFwStage : Body := fun c s =>
  let ps := c.pkt.params
  let off := numAt ps 0 4
  let n := ps.length - 4
  if ps.length < 4 ∨ 4096 < n then no badLen s
  else if off % 4 ≠ 0 then no (badParam 0) s
  else if n % 4 ≠ 0 then no badLen s
  else if s.sec.stageEnd < off ∨ 0x100000 < off + n then no (badParam 0) s
  else
    let r := s.stageRegion
    let a := r * 0x100000 + off
    let put (m : List Host.Cell) : List Host.Cell :=
      ((ps.drop 4).zipIdx).foldl (fun m e => spSet (if a + e.2 < 0x100000 then Config.imageByte (a + e.2) else 0) m (a + e.2) e.1) m
    let s := touchMram a n (s.onNvm (fun x =>
      { x with mem := put x.mem, staged := x.staged ||| BitVec.twoPow 2 r, delivered := if r = 0 then (false, x.delivered.2) else (x.delivered.1, false) }))
    let e := off + n
    did (s.onSec (fun k => { k with stageEnd := e, stage := if 16 ≤ e ∧ 0x100 + imgLen s r ≤ e then 2 else 1 }))

/-- STAGE_VERIFY_DONE (R541). -/
def stageVerify (s : State) : State :=
  if s.sec.stage = 2 then
    let r := s.stageRegion
    if imgGood s r then s.onSec (fun k => { k with stage := 3 })
    else record bSEC 3 (atUnit r) (rollback r (s.onSec (fun k => { k with stage := 4 })))
  else s

/-- The anti-rollback record names an image active; its region is no staged one any more (R541, R542). -/
def activateImage (n : Nat) (s : State) : State :=
  (s.onNvm (fun x => { x with staged := x.staged &&& ~~~(BitVec.twoPow 2 n) })).onSec (fun k =>
    { k with active := decide (n = 1), arGen := k.arGen + 1 })

def bodyFwActivate : Body := fun c s =>
  let n := numAt c.pkt.params 0 1
  if c.pkt.params.length ≠ 1 then no badLen s
  else if 1 < n then no (badParam 0) s
  else if n = s.sys.fwImage.toNat ∨ (n = s.stageRegion ∧ s.sec.stage = 3) then
    (activateImage n s, .done ok .cold)
  else no (refuse 0x11 0 (n * 0x100000)) s

/-! SERVICE_UNLOCK (R543) and the end of a lockout (R535). -/

def bodyServiceUnlock : Body := fun c s =>
  let ps := c.pkt.params
  if ps.length ≠ 80 then no badLen s
  else if ps.take 8 ≠ serialBytes then no (badParam 0) s
  else if u16At ps 8 ≠ s.nvm.cur.bootCount then no (badParam 8) s
  else
    match findIdx? (fun b => b ≠ 0) (sliceB ps 10 6) with
    | some i => no (badParam (10 + i)) s
    | none =>
      if Config.ecdsaOk 2 (sha256 (ps.take 16)) (ps.drop 16) then did (enterState .service s)
      else (record bSEC 6 noUnit (authFail c.pkt.path 3 c.pkt.slot.toNat s), .done (refuse0 0x15) .none)

/-- LOCKOUT_END. -/
def lockoutEnd (s : State) : State := s.onSec (fun k => { k with lockAt := none })

end Sys2Proof.Machine
end

