-- ==== Sys2Proof/Machine/Views.lean ====
section
/-!
DEFINITION. What registers read: the words of the read-only fields as the state of their blocks gives them (R82 to R87,
R137, R139, R181, R215, R251, R277, R314, R349, R351, R385, R398, R457, R505, R521, R545), the 64-bit pairs (R19), and the
read of one register word with its side effects (R19, R20, R521).
-/
namespace Sys2Proof.Machine

/-- Fields at their places: low bit and value. -/
def pack (l : List (Nat × Nat)) : Word := BitVec.ofNat 32 (l.foldl (fun a e => a + e.2 * 2 ^ e.1) 0)

/-- Mask of the numbers below n that satisfy p. -/
def maskN (n : Nat) (p : Nat → Bool) : Nat := sumL ((selN n p).map (2 ^ ·))

/-! One function a block: the word of the read-only fields at an address. -/

def sysView (a : Nat) (s : State) : Word :=
  let y := s.sys
  match a with
  | 0x10 => pack [(0, y.st.code), (4, y.prev.code), (8, y.gongCause.toNat), (12, bit01 s.linkUp), (13, bit01 (s.canEnabled && s.fwRuns)), (14, bit01 y.gongCapable),
      (15, bit01 y.testmode), (16, bit01 y.profSel), (17, bit01 y.profileL)]
  | 0x14 => pack [(0, y.bootPhase.toNat), (4, y.fwImage.toNat), (6, y.limpSrc.toNat), (8, bit01 y.cfgCopy), (9, bit01 y.cfgFactory), (10, bit01 y.bistFail),
      (11, bit01 y.mirrorX), (12, bit01 y.mirrorY)]
  | 0x18 => y.tGongcap
  | 0x1C => y.tReady
  | 0x20 => pack [(0, y.rstLast.toNat), (4, y.rstLastCold.toNat), (8, y.warmCount.toNat)]
  | _ => s.reg a

def clapView (a : Nat) (s : State) : Word :=
  match a with
  | 0x10000 => pack [(0, Nat.min 255 s.clap.queue.length), (8, Nat.min 31 s.clap.long.length), (13, bit01 s.clap.restarting)]
  | 0x10004 => s.clap.ledgerSeq
  | _ => s.reg a

/-- Code of a link state (R137). -/
def LinkState.code : LinkState → Nat
  | .down => 0
  | .detect => 1
  | .config => 2
  | .step => 3
  | .adapt => 4
  | .linkUp => 5
  | .active => 6
  | .recovery => 7
  | .refclkWait => 8

def linkView (a : Nat) (s : State) : Word :=
  let l := s.link
  if a = 0x30008 then
    pack [(0, l.ls.code), (4, l.grade.toNat), (7, bit01 l.refclkOk), (8, if l.ls = .active ∨ l.ls = .linkUp then l.active.toNat else 0), (12, s.lockedSet.toNat), (16, s.fencedSet.toNat),
      (20, l.width.toNat), (24, l.attempts.toNat)]
  else if 0x30020 ≤ a ∧ a < 0x30060 then
    let x := s.lane ((a - 0x30020) / 16)
    match a % 16 with
    | 0 => pack [(0, bit01 x.locked), (1, bit01 x.polInv), (2, x.preset.toNat), (4, bit01 x.frozen), (5, bit01 x.fenced), (6, bit01 x.training),
        (16, x.drops.toNat)]
    | 4 => pack [(0, x.eyeH.toNat), (12, x.eyeW.toNat)]
    | 12 => pack [(0, x.freezes.toNat), (16, x.frozenMs.toNat)]
    | _ => s.reg a
  else s.reg a

def canView (a : Nat) (s : State) : Word :=
  let c := s.can
  if a = 0x40010 then
    let err := if c.busOff then 2 else if 128 ≤ c.txErr ∨ 128 ≤ c.rxErr then 1 else 0
    pack [(0, Nat.min 255 c.txErr), (8, Nat.min 255 c.rxErr), (16, err), (18, bit01 c.stb)]
  else s.reg a

/-- Time in the HOLDOVER of a Tabor, in ms; Tabor 2 is in that of the Tabor it follows (R450). -/
def State.holdMs (s : State) (n : Nat) : Nat :=
  let k := if n = 2 then s.t2Source.getD 2 else n
  if s.tState n = 3 then
    match (s.tabor k).holdSince with
    | some t => Nat.min max32 ((s.now - t) / 1000000)
    | none => 0
  else 0

def taborView (a : Nat) (s : State) : Word :=
  if a < 0x50100 then
    let n := (a - 0x50000) / 0x40
    let t := s.tabor n
    match a % 0x40 with
    | 0x08 => pack [(0, t.epoch.toNat), (16, (s.tState n).toNat), (19, bit01 (s.slewing n)), (20, bit01 (s.tClamped n)), (24, t.consistent)]
    | 0x0C => ofSgn 32 (s.tRate n)
    | 0x2C => ofSgn 32 (s.lastOffset n)
    | 0x30 => pack [(0, t.master.toNat), (16, t.port.toNat)]
    | 0x34 => BitVec.ofNat 32 (s.holdMs n)
    | _ => s.reg a
  else
    match a with
    | 0x5013C => pack [(0, bit01 s.tab.onCrystal), (1, bit01 s.tab.ratioValid)]
    | 0x50140 => ofSgn 32 s.tab.xtalPpb
    | _ => s.reg a

/-- Bands of the frame in work that have gone on to pixel processing. -/
def State.bandsComposed (s : State) : Nat :=
  match s.carl.job with
  | some j => j.outs.length
  | none => 0

def carlView (a : Nat) (s : State) : Word :=
  let c := s.carl
  match a with
  | 0x60004 => pack [(0, c.inService.toNat), (4, c.fenced.toNat), (8, bit01 (c.job.isSome && decide (s.bandsComposed < 96))), (9, s.bandsComposed)]
  | 0x60008 => c.frameIndex
  | 0x6000C => BitVec.ofNat 32 (Nat.min 0xFFFFF c.composeUs)
  | 0x60010 => BitVec.ofNat 32 (c.margins.foldl Nat.min 0xFFFFF)
  | 0x60014 => BitVec.ofNat 32 c.loadK
  | 0x60018 => c.outSig
  | 0x6001C => BitVec.ofNat 32 (Nat.min 0x1FFFFF c.satPix)
  | 0x60020 => pack [(0, c.prefixLen), (4, c.dirtyCount)]
  | 0x60028 => BitVec.ofNat 32 (Nat.min 0xFFFFF c.marginUs)
  | 0x60040 => c.wbStat
  | 0x60044 => c.wbUp
  | 0x60050 => s.store.tabs.keepout.gen
  | 0x60054 => BitVec.ofNat 32 (keepRects s.store.tabs.keepout).length
  | _ => s.reg a

def storeView (a : Nat) (s : State) : Word :=
  let t := s.store
  let live := (t.bufs.filter (fun b => b.live)).length
  let runs := s.freeRuns.map (fun r => r.2)
  match a with
  | 0x70000 => pack [(0, live), (9, t.banksOut.toNat), (13, sumL runs)]
  | 0x70004 => pack [(0, maxL runs), (13, (t.bufs.filter (fun b => b.live && b.pendFree)).length)]
  | 0x70008 => pack [(0, t.queue.length), (3, s.waitingMask.toNat)]
  | 0x70030 => BitVec.ofNat 32 t.viol
  | 0x70034 => t.violAddr
  | 0x70038 => pack [(0, t.violHandle.toNat), (16, t.violSeq.toNat)]
  | _ => s.reg a

/-- Frame that pixel processing works on, or worked on last. -/
def State.pixFrame (s : State) : Word :=
  match s.carl.job with
  | some j => if j.outs.isEmpty && j.words.isEmpty then s.carl.frameIndex - 1 else s.carl.frameIndex
  | none => s.carl.frameIndex

/-- Byte offset and bank in PIX_SB_ADDR. -/
def State.sbData (s : State) : Word :=
  let off := s.rfld 0x80070 0 21
  let bank := s.rfld 0x80070 21 1 == 1
  BitVec.ofNat 32 (leNat ((List.range 4).map (fun i => s.bankByte bank (off + i))))

def pixView (a : Nat) (s : State) : Word :=
  let p := s.pix
  match a with
  | 0x80000 => pack [(0, bit01 p.active), (1, p.inactive), (3, p.bandsDone), (10, bit01 p.gainBank), (11, bit01 p.rebuild)]
  | 0x80004 => s.pixFrame
  | 0x80008 => p.gainGen
  | 0x8000C => p.derGen
  | 0x80010 => p.gov.setWidth 32
  | 0x80014 => p.govNext.setWidth 32
  | 0x80018 => BitVec.ofNat 32 p.assist
  | 0x80020 => p.driveSig
  | 0x80024 => p.rbCrc
  | 0x80028 => BitVec.ofNat 32 p.satPix
  | 0x80060 => (match p.conflict with
    | some (t, z, cap) => pack [(0, t), (14, z), (21, bit01 cap), (22, 1)]
    | none => 0)
  | 0x80068 => (match p.floorDer with
    | some (t, d) => pack [(0, t), (14, d), (22, 1)]
    | none => 0)
  | 0x80074 => s.sbData
  | _ => if 0x80040 ≤ a ∧ a < 0x80060 then BitVec.ofNat 32 (p.segDemand.getD ((a - 0x80040) / 4) 0 / 16) else s.reg a

/-- What Mallet 8 does: the segment it serves, 0xF in standby, 0xE fenced. -/
def State.spareCode (s : State) : Nat :=
  if s.mal.fenced.getLsbD 8 then 14 else s.mal.spareSeg.getD 15

def malletView (a : Nat) (s : State) : Word :=
  let m := s.mal
  match a with
  | 0x90004 => pack [(0, m.fenced.toNat), (9, s.spareCode), (13, m.gongSegs.toNat), (21, bit01 m.scanning), (22, bit01 m.frozen)]
  | 0x90034 => if s.custom then s.store.tabs.score.gen else 0
  | 0x90090 => (match m.takeover with
    | some (frm, seg, cause, n) => pack [(0, frm), (4, seg), (7, 1), (8, cause), (12, n)]
    | none => 0)
  | 0x90094 => pack [(0, m.gongSegs.toNat), (8, m.timerExpired.toNat)]
  | 0x90098 => BitVec.ofNat 32 (sumL ((List.range 8).map s.cutCount))
  | _ =>
    if 0x90040 ≤ a ∧ a < 0x90060 then
      let n := (a - 0x90040) / 4
      pack [(0, m.scale.getD n 256), (9, bit01 (m.scaleStill.getD n false))]
    else if 0x90400 ≤ a ∧ a < 0x90A00 then spGet 0 m.cutSw ((a - 0x90400) / 4)
    else s.reg a

def senseView (a : Nat) (s : State) : Word :=
  let e := s.sense
  match a with
  | 0xA0008 => pack [(0, e.row), (7, e.paused.toNat), (15, e.spareOn), (22, e.spareMode)]
  | 0xA000C => e.roll
  | 0xA0028 => BitVec.ofNat 32 e.cand.length
  | 0xA002C => BitVec.ofNat 32 e.rollMap.length
  | 0xA0030 => BitVec.ofNat 32 e.unmeas
  | _ =>
    if 0xA0100 ≤ a ∧ a < 0xA0308 then
      let c := s.slice ((a - 0xA0100) / 8)
      if a % 8 = 0 then corrWord c.o c.g else pack [(0, Nat.min 0xFFF c.rms), (12, Nat.min 0xFFFFF c.count)]
    else s.reg a

def hkView (a : Nat) (s : State) : Word :=
  let h := s.hk
  match a with
  | 0xB0008 => pack [(0, h.seq.length), (5, bit01 h.running), (8, seqTime h.seq)]
  | 0xB000C => BitVec.ofNat 32 h.rep
  | 0xB0010 => h.out.setWidth 32
  | _ =>
    if 0xB0100 ≤ a ∧ a < 0xB01A0 then spGet 0 h.ch ((a - 0xB0100) / 4)
    else if 0xB0200 ≤ a ∧ a < 0xB0220 then h.iseg.getD ((a - 0xB0200) / 4) 0
    else s.reg a

def pwrView (a : Nat) (s : State) : Word :=
  let p := s.pwr
  match a with
  | 0xC0000 => pack [(0, p.owner), (2, p.phases), (5, bit01 p.fenced), (6, bit01 (vMode p.vledArm)), (7, bit01 (vMode p.vcoreArm)), (8, bit01 p.paceHold)]
  | 0xC0004 => BitVec.ofNat 32 p.vledCode
  | 0xC0008 => BitVec.ofNat 32 p.vcoreCode
  | 0xC0034 => pack [(0, p.tjMax.1), (16, (p.tjMax.2 % 65536).toNat)]
  | 0xC0038 => pack [(0, p.derMin.1), (14, p.derMin.2)]
  | 0xC003C => p.excl.setWidth 32
  | 0xC0060 => pack [(0, fld p.vledArm.2 0 28), (28, bit01 (vMode p.vledArm))]
  | 0xC0064 => pack [(0, fld p.vcoreArm.2 0 25), (25, bit01 (vMode p.vcoreArm))]
  | _ => if 0xC0040 ≤ a ∧ a < 0xC0060 then p.heads.getD ((a - 0xC0040) / 4) 0x20 else s.reg a

def safeView (a : Nat) (s : State) : Word :=
  let f := s.safe
  match a with
  | 0xD0000 => pack [(0, s.assurance), (2, s.safeFlags), (7, f.pend.length), (11, bit01 f.beamAdb)]
  | 0xD0004 => f.causes.setWidth 32
  | 0xD0008 => BitVec.ofNat 32 s.degRemain
  | 0xD0020 => s.seqA
  | 0xD0024 => s.seqB
  | 0xD0028 => f.seqHigh
  | 0xD0030 => f.mmE
  | 0xD0034 => f.mmC
  | 0xD0038 => f.mmSeq
  | 0xD0040 => f.auditPix
  | 0xD0044 => f.auditWord
  | 0xD0080 => pack [(0, f.lbFailed.toNat), (8, f.lbSkipped.toNat)]
  | _ => if 0xD0060 ≤ a ∧ a < 0xD0080 then f.lb.getD ((a - 0xD0060) / 4) 0 else s.reg a

def cvView (a : Nat) (s : State) : Word :=
  let c := s.cv.scan.getD s.cv.last
  match a with
  | 0xE0008 => s.sigWord
  | 0xE000C => s.sigStat
  | 0xE0010 => pack [(0, bit01 s.cv.scan.isSome), (1, c.space), (2, c.poly), (4, bit01 c.disturbed), (5, bit01 (s.cv.scan.isNone && s.cv.lastAborted))]
  | 0xE0014 => BitVec.ofNat 32 c.start
  | 0xE0018 => BitVec.ofNat 32 c.len
  | 0xE001C => s.cv.lastResult
  | _ => s.reg a

/-- What is left of a lockout, in ms. -/
def State.lockoutRem (s : State) : Nat :=
  match s.sec.lockAt with
  | some t => 1000 - Nat.min 1000 ((s.now - t) / 1000000)
  | none => 0

def secView (a : Nat) (s : State) : Word :=
  let k := s.sec
  match a with
  | 0xF0000 => pack [(0, bit01 s.lockout), (1, k.fails.length), (6, k.stage), (9, bit01 k.revoked)]
  | 0xF0004 => BitVec.ofNat 32 s.lockoutRem
  | 0xF0010 => pack [(0, k.minSvn.toNat), (16, s.runSvn.toNat)]
  | 0xF0014 => BitVec.ofNat 32 k.stageEnd
  | _ => s.reg a

/-! 64-bit registers (R19). -/

/-- The value of the 64-bit register whose low word lies at an address. -/
def State.wide (s : State) (a : Nat) : Option Nat :=
  let fences (p : FenceSt) : Nat := maskN 64 (fun n => decide ((s.fence n).st = p))
  let pair : Nat := (s.reg a).toNat + (s.reg (a + 4)).toNat * 2 ^ 32
  match a with
  | 0x30 => some (s.sys.keeper * 131072 / 1000000000)
  | 0x50128 => some (s.tab.camT1 % 2 ^ 64).toNat
  | 0x50130 => some s.tab.camT3
  | 0x70010 => some (fences .armed)
  | 0x70018 => some (fences .signalled)
  | 0x70020 => some (fences .timedOut)
  | 0x80030 => some s.pix.demand
  | 0x90008 => some s.mal.beat
  | 0xA0020 => some s.sense.fenced.toNat
  | _ =>
    if 0x50000 ≤ a ∧ a < 0x50100 then
      (match a % 0x40 with
      | 0x00 => some (s.tabor (a / 0x40 % 4)).ns
      | 0x10 => some ((s.tabor (a / 0x40 % 4)).off % 2 ^ 64).toNat
      | 0x20 => some pair
      | _ => none)
    else if 0xD00A0 ≤ a ∧ a < 0xD00C0 ∧ a % 8 = 0 then some pair
    else if a % 0x10000 = 0xFF18 then some (let f := s.flts (a / 0x10000); if f.first.isSome then f.firstTs else 0)
    else none

/-- A word of a 64-bit register. -/
def State.wideWord (s : State) (a : Nat) : Option Word :=
  match s.wide a with
  | some v => some (BitVec.ofNat 32 v)
  | none => (s.wide (a - 4)).map (fun v => BitVec.ofNat 32 (v / 2 ^ 32))

/-- The read-only fields of a register. -/
def State.roWord (s : State) (a : Nat) : Word :=
  match s.wideWord a with
  | some v => v
  | none =>
    match a / 0x10000 with
    | 0 => sysView a s
    | 1 => clapView a s
    | 3 => linkView a s
    | 4 => canView a s
    | 5 => taborView a s
    | 6 => carlView a s
    | 7 => storeView a s
    | 8 => pixView a s
    | 9 => malletView a s
    | 10 => senseView a s
    | 11 => hkView a s
    | 12 => pwrView a s
    | 13 => safeView a s
    | 14 => cvView a s
    | 15 => secView a s
    | _ => 0

/-! A register word as it reads (R20, R548). -/

def word32 (n : Nat) : Word := BitVec.ofNat 32 n

/-- The word at an address, without the side effects of the read. -/
def State.regWord (s : State) (a : Nat) : Word :=
  match s.fltWord (a / 0x10000) (a % 0x10000) with
  | some w => if a < 0x100000 then w else 0
  | none =>
    match regRow a with
    | none => 0
    | some r =>
      (s.roWord a &&& word32 (r.ro ||| r.w1c)) ||| (s.reg a &&& word32 (r.rw ||| r.rc)) ||| (shGet s.store.shadow a &&& word32 r.sh)

/-- Reading clears the RC fields of a word (R20). -/
def clearRc (a : Nat) (s : State) : State :=
  match regRow a with
  | some r => if r.rc = 0 then s else s.setReg a (s.reg a &&& ~~~(word32 r.rc))
  | none => s

/-- A word latched by the read of another (R19, R521). -/
def State.latched (s : State) (a : Nat) : Option Word := (s.latches.find? (fun e => e.1 == a)).map (·.2)

def latchWord (a : Nat) (v : Word) (s : State) : State := s.onLatches (fun l => (a, v) :: l.filter (fun e => e.1 != a))
def unlatch (a : Nat) (s : State) : State := s.onLatches (fun l => l.filter (fun e => e.1 != a))

/-- One register word is read (R19, R20): the state and the word. -/
def readReg (a : Nat) (s : State) : State × Word :=
  match s.latched a with
  | some v => (unlatch a s, v)
  | none =>
    let v := s.regWord a
    let s := clearRc a s
    if a = 0xE0008 then (latchWord 0xE000C s.sigStat s, v)
    else
      match s.wide a with
      | some w => (latchWord (a + 4) (word32 (w / 2 ^ 32)) s, v)
      | none => (s, v)

/-- Some of a register's fields do not exist while its domain is off or in retention (R550). -/
def regUnreachable (a : Nat) (s : State) : Bool :=
  !s.blockOn (a / 0x10000) && decide (a % 0x10000 < 0xFF00) &&
  (match regRow a with
  | some r => decide (r.ro ||| r.rc ||| r.w1c ≠ 0)
  | none => false)

end Sys2Proof.Machine
end

