-- ==== Sys2Proof/Machine/Dump.lean ====
section
/-!
DEFINITION. LOG_READ (R164, R174, R423), dumps (R424 to R427), and every byte of MRAM (R44).
-/
namespace Sys2Proof.Machine

/-! Ledger entries in the form of R164. -/

/-- A command packet as received, with its check value. -/
def pktBytes (p : CmdPkt) : Bytes :=
  let b := p.covered ++ p.mac
  b ++ (if p.profL then leOf 2 (crcP2 b) else leOf 4 (crcP1 b))

/-- The CRC of a packet that the Ledger compares (R152, R164): over what the packet's own check value covers (DEDUCED: with
that value included P1 would be the same number for every packet). -/
def cmdCrc (p : CmdPkt) : Word := crcP1 (p.covered ++ p.mac)

/-- The stored reply: header and up to 32 bytes of data. -/
def storedReply (e : LedgerEntry) : Bytes :=
  let p := e.pkt
  let d := e.data.take 32
  if p.profL then
    [BitVec.ofNat 8 (lOpcode p.opcode), BitVec.ofNat 8 (e.status % 64)] ++ natLe 2 d.length ++ leOf 4 p.seq ++ d
  else
    [0x21, BitVec.ofNat 8 (bit01 p.auth)] ++ leOf 2 p.opcode ++ leOf 2 p.tag ++ natLe 2 d.length ++ leOf 4 p.seq ++
      [p.slot, BitVec.ofNat 8 e.status] ++ leOf 2 e.detail ++ d

def pad32 (n : Nat) : Nat := (n + 31) / 32 * 32

def entryBytes (e : LedgerEntry) : Bytes :=
  let p := pktBytes e.pkt
  let r := if e.state = 0 then [] else storedReply e
  leOf 4 e.lseq ++ leOf 4 e.pkt.seq ++ [BitVec.ofNat 8 (pathCode e.pkt.path + bit01 e.pkt.auth * 4 + e.state * 16), e.pkt.slot] ++
  leOf 2 e.pkt.opcode ++ natLe 2 p.length ++ natLe 2 r.length ++ leOf 8 e.tAccept ++ leOf 2 e.epoch ++
  [BitVec.ofNat 8 (if e.state = 0 then 1 else e.status), 0] ++ leOf 4 (cmdCrc e.pkt) ++ padTo (pad32 p.length) p ++ padTo 64 r

/-! LOG_READ. -/

/-- The records from number r on, of records numbered up to newest; none where r lies beyond it. -/
def logFrom {α : Type} (recs : List α) (newest r : Word) : Option (List α) :=
  let back := (newest - r).toNat
  if recs.isEmpty ∨ 2 ^ 31 ≤ back then none else some (recs.drop (recs.length - 1 - back))

/-- Whole records up to 4,096 bytes; a first record longer than that is cut there (log entry 44). -/
def wholeRecs : List Bytes → Nat → Bytes
  | [], _ => []
  | r :: t, room => if r.length ≤ room then r ++ wholeRecs t (room - r.length) else if room = 4096 then r.take 4096 else []

def bodyLogRead : Body := fun c s =>
  let ps := c.pkt.params
  let n := numAt ps 5 2
  let send (l : Option (List Bytes)) : State × Ans := match l with
    | none => no (badParam 1) s
    | some rs => answer (okData (wholeRecs (rs.take n) 4096)) s
  if ps.length ≠ 7 then no badLen s
  else if 1 < numAt ps 0 1 then no (badParam 0) s
  else if n < 1 ∨ 64 < n then no (badParam 5) s
  else if numAt ps 0 1 = 0 then send (logFrom s.clap.log (s.clap.logSeq - 1) (u32At ps 1))
  else send ((logFrom s.clap.ledger s.clap.ledgerSeq (u32At ps 1)).map (·.map entryBytes))

/-! Writing a dump (R424 to R426). -/

/-- The lower-numbered free slot. -/
def State.freeSlot (s : State) : Option Nat := findIdx? (fun d => d.state == 0) s.nvm.dumps

/-- Address of word k of the block-register section: 1,024 words a block, offsets 0x0000 to 0x0EFF, then 0xFF00 to 0xFFFF. -/
def dumpRegAddr (k : Nat) : Nat := k / 1024 * 0x10000 + (if k % 1024 < 960 then 4 * (k % 1024) else 0xFF00 + 4 * (k % 1024 - 960))

/-- Bytes of a Tabor in a dump: count, epoch, rate, state. -/
def dumpTabor (s : State) (n : Nat) : Bytes :=
  natLe 8 (s.tabor n).ns ++ leOf 2 (s.tabor n).epoch ++ leOf 4 (ofSgn 32 (s.tRate n)) ++ natLe 2 (s.tState n).toNat

/-- The most recent whole entries that fit in a number of bytes, newest last. -/
def tailFit (l : List Bytes) (room : Nat) : List Bytes :=
  (l.reverse.foldl (fun (a : List Bytes × Nat × Bool) e =>
    if a.2.2 && decide (e.length ≤ a.2.1) then (e :: a.1, a.2.1 - e.length, true) else (a.1, a.2.1, false)) ([], room, true)).1

/-- The dump of a fatal error (cause 4) or a watchdog expiry (cause 5). Registers that do not exist in an off domain are free
values. -/
def makeDump (cause : Nat) (s : State) : DumpSlot :=
  let led := tailFit (s.clap.ledger.map entryBytes) 389120
  let log := s.clap.log.drop (s.clap.log.length - 512)
  let word (k : Nat) : Word :=
    if regUnreachable (dumpRegAddr k) s then Config.freeWord (s.freeIdx + k) else s.regWord (dumpRegAddr k)
  { state := 2,
    hdr := leOf 4 (s.nvm.dumpSeq + 1) ++ [2, BitVec.ofNat 8 cause, 1, BitVec.ofNat 8 (if cause = 4 then 7 else 6)] ++ natLe 8 s.now ++ leOf 2 s.epoch ++
      leOf 2 s.sys.warmCount ++ leOf 4 s.release ++ leOf 4 s.clap.ledgerSeq ++ natLe 4 led.length ++ natLe 4 log.length ++ zeros 20,
    tabors := (List.range 4).flatMap (dumpTabor s),
    regs := (List.range 16384).filterMap (fun k => let v := word k; if v = 0 then none else some (k, v)),
    log := log, ctxIdx := s.freeIdx, ledger := led.flatMap id }

/-- Write a dump to a slot, with its DUMP record. -/
def writeDump (slot cause : Nat) (s : State) : State :=
  let d := makeDump cause s
  let src := if cause = 4 then 7 else 6
  let s := touchMram (0x554000 + slot * 0x80000) 0x80000
    (s.onNvm (fun n => { n with dumps := n.dumps.set slot d, dumpSeq := n.dumpSeq + 1 }))
  let s := s.onFreeIdx (· + 16384)
  appendLog { tick := s.now, sev := (s.flts bCLAP).sev src, blk := bCLAP, src := src, kind := 5, flags := (s.flts bCLAP).sev src, count := 1,
              state := s.sys.st, detail := [BitVec.ofNat 8 slot, BitVec.ofNat 8 cause] ++ leOf 4 s.nvm.dumpSeq } s

/-! Reading a dump (R425 to R427). -/

/-- Byte of a dump's sections; bytes that belong to none are free values (log entry 42). -/
def dumpBody (d : DumpSlot) (o : Nat) : Byte :=
  let free : Byte := Config.mramByte d.ctxIdx o
  let of (l : Bytes) (i : Nat) : Byte := l.getD i free
  if o < 0x100 then 0
  else if o < 0x140 then of d.tabors (o - 0x100)
  else if o < 0x1000 then free
  else if o < 0x11000 then byteAt (leOf 4 (spGet 0 d.regs ((o - 0x1000) / 4))) (o % 4)
  else if o < 0x19000 then of (d.log.getD ((o - 0x11000) / 64) []) (o % 64)
  else if o < 0x21000 then Config.clapContext d.ctxIdx (o - 0x19000)
  else of d.ledger (o - 0x21000)

/-- The 64 header bytes as written, with both check values (R426). -/
def dumpHdr (d : DumpSlot) : Bytes :=
  let h := d.hdr ++ leOf 4 (crcP1 ((List.range (0x80000 - 0x100)).map (fun i => dumpBody d (0x100 + i))))
  h ++ leOf 4 (crcP1 h)

/-- Byte of a slot. A slot that has never been written reads free values (log entry 42). -/
def dumpByte (d : DumpSlot) (o : Nat) : Byte :=
  if d.hdr.isEmpty then (if o = 4 then 0 else Config.mramByte d.ctxIdx o)
  else if o = 4 then BitVec.ofNat 8 d.state
  else if o < 64 then byteAt (dumpHdr d) o
  else dumpBody d o

/-- A run of a slot's bytes. -/
def dumpRun (d : DumpSlot) (o n : Nat) : Bytes := (List.range n).map (fun i => dumpByte d (o + i))

/-- Byte of MRAM at an offset (R44). -/
def mramByte (s : State) (a : Nat) : Byte :=
  if 0x554000 ≤ a ∧ a < 0x654000 then dumpByte (s.nvm.dumps.getD ((a - 0x554000) / 0x80000) dumpFree) ((a - 0x554000) % 0x80000)
  else mramLow s a

def bodyDumpRead : Body := fun c s =>
  let ps := c.pkt.params
  let k := numAt ps 0 1
  let o := numAt ps 1 4
  let n := numAt ps 5 2
  let d := s.nvm.dumps.getD k dumpFree
  if ps.length ≠ 7 then no badLen s
  else if 1 < k ∨ d.state = 0 then no (badParam 0) s
  else if n < 4 ∨ 4096 < n then no (badParam 5) s
  else if 0x80000 < o + n then no (accessViol (0x554000 + k * 0x80000 + 0x80000)) s
  else answer (okData (dumpRun d o n)) s

def bodyDumpClear : Body := fun c s =>
  let k := numAt c.pkt.params 0 1
  if c.pkt.params.length ≠ 1 then no badLen s
  else if 1 < k then no (badParam 0) s
  else if (s.nvm.dumps.getD k dumpFree).state = 0 then did s
  else did (touchMram (0x554000 + k * 0x80000 + 4) 1
    (s.onNvm (fun n => { n with dumps := n.dumps.set k { n.dumps.getD k dumpFree with state := 0 } })))

end Sys2Proof.Machine
end

