-- ==== Sys2Proof/Machine/Boot.lean ====
section
/-!
DEFINITION. Cold reset, cold boot (R59 to R72), STANDBY (R76, R77), OFF, warm restart (R78, R79, R161), and the pins and
supplies that lead to them (R55, R67, R565, R572).
-/
namespace Sys2Proof.Machine

/-! What a cold reset leaves (R78, R81, R82). -/

/-- SYS after a cold reset: pins, straps, supplies, PD0's reset causes and the keeper stand. -/
def sysCold (y : Sys) : Sys :=
  { sysReset with profileL := y.profSel, profSel := y.profSel, testmode := y.testmode, ordL1 := y.ordL1, vaon := y.vaon, wake := y.wake, rstN := y.rstN,
                  limpN := y.limpN, lphFltN := y.lphFltN, vio := y.vio, vana := y.vana, ledStage := y.ledStage, coreStage := y.coreStage,
                  supplyLost := y.supplyLost, wakeEdge := y.wakeEdge, wakeLatched := y.wakeLatched, rstLast := y.rstLast,
                  rstLastCold := y.rstLastCold, warmCount := y.warmCount, keeper := y.keeper }

/-- Everything but PD0 and MRAM returns to its reset value. -/
def coldReset (s : State) : State :=
  { State.reset with
    sys := sysCold s.sys,
    clap := { clapReset with ledger := s.clap.ledger, ledgerSeq := s.clap.ledgerSeq, log := s.clap.log, logSeq := s.clap.logSeq },
    nvm := s.nvm,
    sec := { s.sec with fails := [], lockAt := none, stage := 0, stageEnd := 0 },
    freeIdx := s.freeIdx, pending := s.pending }

/-- Straps are sampled (R5, R565). -/
def sampleStraps (st : Straps) (s : State) : State :=
  s.onSys (fun y => { y with profSel := st.profSel.getD y.ordL1, testmode := st.testmode.getD false, wakeEdge := false })

/-! Outcomes of BIST in start-up and before GONG_EXIT (R70). -/

def bistFailed (u : BistUnit) (s : State) : State :=
  match u with
  | .bank n => record bSTORE 2 (atUnit n) (s.onStore (fun t => { t with banksOut := t.banksOut ||| BitVec.twoPow 4 n.val }))
  | .lane n => loseLane n (record bCARL 1 (atUnit n) s)
  | .mallet m =>
    record bMALLET 15 (atUnit m) (s.onMal (fun x =>
      { x with fenced := x.fenced ||| BitVec.twoPow 9 m.val, bistOut := x.bistOut ||| BitVec.twoPow 9 m.val,
               spareSeg := if m.val < 8 ∧ x.spareSeg = none ∧ x.fenced.getLsbD 8 = false then some m.val else x.spareSeg }))
  | .showBuffer n => record bPIX 1 (atUnit n) (s.onPix (fun p => { p with sbBad := true }))
  | .slice i => if i.val = 64 then fenceSpare s else fenceSlice i s
  | .audit => record bSAFE 2 noUnit (s.onSafe (fun f => { f with auditBad := true }))

/-- The block whose domain a unit lies in. -/
def unitPd : BistUnit → Nat
  | .bank _ => 7
  | .lane _ => 6
  | .mallet _ => 9
  | .showBuffer _ => 8
  | .slice _ => 10
  | .audit => 8

/-- Units failing BIST in domains that are on. -/
def bistAll (us : List BistUnit) (s : State) : State :=
  let us := us.filter (fun u => s.pdIs (unitPd u) .on)
  let s := if us.isEmpty then s else s.onSys (fun y => { y with bistFail := true })
  us.foldl (fun s u => bistFailed u s) s

/-! Steps 5 to 7: configuration copy and limp bits (R63 to R67). -/

/-- The factory configuration of the firmware image (R63). -/
def cfgFactory (count : BitVec 16) (ok : Bool) : CfgData :=
  { cfgDelivered with limpCrc := 0, hasLimpCrc := false, limpBuilt := false, bootCount := count, factoryOk := ok }

/-- A sound copy counts the boot, unless the write fails (R431). -/
def countBoot (writeBad : Bool) (c : CfgCopy) : CfgCopy :=
  if c.bad || writeBad then c else { c with data := { c.data with bootCount := c.data.bootCount + 1 } }

/-- SYS_BOOT_CFG and the mirrors in force are taken from the chosen configuration (step 5; R15, R63, R83, R86). -/
def takeBootCfg (s : State) : State :=
  let w := s.cfgReg 0x24
  (s.setReg 0x24 w).onSys (fun y => { y with mirrorX := w.getLsbD 1, mirrorY := w.getLsbD 2 })

/-- A configuration copy is chosen (R63), and the boot is counted in the copies that stand (R80). -/
def chooseCfg (o : BootObs) (s : State) : State :=
  let badA := s.nvm.cfgA.bad || o.cfgBad.1
  let badB := s.nvm.cfgB.bad || o.cfgBad.2
  let s := s.onNvm (fun n => { n with cfgA := { n.cfgA with bad := badA }, cfgB := { n.cfgB with bad := badB } })
  let s := if badA then record bNVM 1 (withVal 0x4B4000) s else s
  let s := if badB then record bNVM 1 (withVal 0x4C4000) s else s
  let differ := !badA && !badB && decide (s.nvm.cfgA.gen = s.nvm.cfgB.gen) && decide (s.nvm.cfgA.data ≠ s.nvm.cfgB.data)
  let s := if differ then record bNVM 2 noUnit s else s
  if differ || (badA && badB) then
    let count : BitVec 16 := s.freeWord.setWidth 16
    takeBootCfg ((s.freeNext.onNvm (fun n => { n with cur := cfgFactory count (!o.factBad) })).onSys (fun y => { y with cfgFactory := true }))
  else
    let useB := badA || (!badB && decide (s.nvm.cfgA.gen.toNat < s.nvm.cfgB.gen.toNat))
    let count := countBoot o.writeBad
    let s := if o.writeBad then record bNVM 5 (withVal 0x4B4000) s else s
    takeBootCfg ((s.onNvm (fun n => { n with cfgA := count n.cfgA, cfgB := count n.cfgB,
                                             cur := (count (if useB then n.cfgB else n.cfgA)).data })).onSys (fun y => { y with cfgCopy := useB }))

/-- What the boot's other reads of MRAM show: corrected errors (R431), and key slots with an uncorrectable error, which stand by their
other copy and are EMPTY where both have failed (R530). -/
def readMram (o : BootObs) (s : State) : State :=
  let s := o.mramCe.foldl (fun s a => record bNVM 0 (withVal a.toNat) s) s
  let s := (o.keyUe ++ o.keyGone).foldl (fun s k => record bSEC 4 (atUnit k.val) s) s
  s.onSec (fun c => { c with slots := o.keyGone.foldl (fun l k => l.set k.val (slotA 2)) c.slots })

/-- The bitmap agrees with the limp CRC of the configuration (R64). -/
def State.limpSound (s : State) : Bool :=
  s.nvm.cur.hasLimpCrc && ((s.nvm.cur.limpBuilt && s.nvm.limp.isEmpty) ||
    decide (crcP1 ((List.range 147456).map (fun i => BitVec.ofNat 8 (s.limpByte i))) = s.nvm.cur.limpCrc))

/-- Row y of the limp bits that the Floor map gives: every pixel of a tile whose Floor is not zero (R64). -/
def floorRow (t : Tabs) (y : Nat) : BitVec 1536 :=
  BitVec.ofNat 1536 (sumL ((selN 96 (fun i => decide (floorAt t (y / 8 * 96 + i) ≠ 0))).map (fun i => 65535 * 2 ^ (16 * i))))

/-- The Floor map that the boot ROM uses: that of the selected copy, with which the Floor map region agrees or yields to it; the
region where no copy has been selected (R63, R64, R585). -/
def State.limpFloor (s : State) : Tabs :=
  if s.sys.cfgFactory then { s.nvm.cur.tabs with floor := { s.nvm.cur.tabs.floor with ents := s.nvm.floorRegion } } else s.nvm.cur.tabs

/-- A canvas row in physical column order (R13). -/
def mirrorRow (mx : Bool) (r : BitVec 1536) : BitVec 1536 := if mx then r.reverse else r

/-- The source of the limp bits and the bits loaded, in physical order (R13, R15, R64). -/
def loadLimp (o : BootObs) (s : State) : State :=
  let good := !o.limpUe && s.limpSound
  let s := if o.limpUe then record bNVM 1 (withVal 0x490000) s else s
  let put (src : BitVec 2) (f : Nat → BitVec 1536) (s : State) : State :=
    (s.onSys (fun y => { y with limpSrc := src })).onMal (fun m =>
      { m with limpBits := spSetRun 0 [] 0 ((List.range 768).map (fun py => mirrorRow s.mirrorX (f (s.physRow py)))) })
  if good then put 0 s.limpAt s
  else if !o.floorUe then put 1 (floorRow s.limpFloor) (record bNVM 3 (withVal 0x490000) s)
  else put 2 (fun _ => 0) (record bNVM 4 (withVal 0x490000) s)

/-- Step 6: the load is read back, and repeated once (R65); step 7: LIMP_N is monitored (R53, R66, R67). -/
def gongPoint (o : BootObs) (s : State) : State :=
  let s := s.onMal (fun m => { m with cutSw := s.nvm.cur.cuts })
  let read := o.readback.1 || o.readback.2
  let s := if read then s else record bSYS 0 noUnit s
  let able := read && decide (s.sys.limpSrc ≠ 2)
  let s := s.onSys (fun y => { y with gongCapable := able, tGongcap := if able then o.tGongcapUs else y.tGongcap, bootPhase := 7 })
  let early := !s.sys.limpN
  let s := if early then record bSYS 2 noUnit (s.onSys (fun y => { y with limpEarly := true })) else s
  if early || (s.cfgReg 0x24).getLsbD 0 then
    enterState .gong ((gongLight (if early then 1 else 5) s).onSys (fun y => { y with gongFromBoot := true }))
  else s

/-! Steps 8 to 11: firmware, configuration, Ledger, tables, BIST (R59, R68 to R72, R585, R587). -/

/-- The image that boots (R68, R539, R540); a region that FW_STAGE has written is no fallback (R541, log entry 107). -/
def chooseImage (s : State) : State :=
  let a := bit01 s.sec.active
  let b := 1 - a
  let s := rollback a s
  if imgGood s a then s.onSys (fun y => { y with fwImage := BitVec.ofNat 2 a, bootPhase := 8 })
  else
    let spare := !s.nvm.staged.getLsbD b
    let s := if spare then rollback b s else s
    if spare && imgGood s b then record bSEC 0 (atUnit a) (s.onSys (fun y => { y with fwImage := BitVec.ofNat 2 b, bootPhase := 8 }))
    else record bSEC 1 noUnit (s.onSys (fun y => { y with fwImage := 3, bootPhase := 14 }))

/-- An entry that a loss of power or a cold reset left incomplete (R587): one that writes a single MRAM region has been
executed again, which leaves what the model's one execution left; every other is without effect. -/
def settleEntry (s : State) (e : LedgerEntry) : LedgerEntry :=
  if e.state ≠ 0 then e
  else
    let p := e.pkt
    if p.opcode = 0x403 ∧ (byteAt p.params 0).getLsbD 4 = true then { e with state := 2, status := 0, detail := 0xFFFF, data := [] }
    else if p.opcode = 0x400 ∧ numAt p.params 0 2 = 0x104 then
      { e with state := 2, status := 0, detail := 0xFFFF, data := calBytes 4 0 { s.calRec 4 0 with result := 1 } }
    else { e with state := 2, status := 0x12, detail := 0xFFFF, data := natLe 4 0xFFFFFFFF }

/-- The Floor map region is rewritten where it differs from the configuration (R585). -/
def mendFloor (s : State) : State :=
  if s.nvm.floorRegion = s.nvm.cur.tabs.floor.ents then s
  else touchMram 0x48B000 0x4800 (s.onNvm (fun n => { n with floorRegion := n.cur.tabs.floor.ents }))

/-- Step 9: firmware starts, configuration applied, Tabors 0 to 2 start at the count of Tabor 3 (R434, R463, R587). -/
def startFirmware (s : State) : State :=
  let s := s.onRegs (fun _ => s.nvm.cur.regs)
  let s := if s.sys.cfgFactory then
      s.onNvm (fun n => { n with gainU := [], cur := { n.cur with calGen := n.cur.calGen + 1 } })
    else s
  let s := s.onClap (fun c => { c with ledger := c.ledger.map (settleEntry s) })
  let s := mendFloor s
  let t3 := (s.tabor 3).count
  let s := s.onTab (fun b => { b with t := b.t.zipIdx.map (fun x => if x.2 = 3 then x.1 else { x.1 with running := true, count := t3 }) })
  let s := s.onMal (fun m => { m with beat := s.now * 3 / 1250000 })
  let s := forN 2 0 newAcquisition s
  let can : PdCond := if s.canEnabled then .on else .off
  syncStb (s.onSys (fun y => { y with pd := (y.pd.set 3 .on).set 4 can, pdWant := (y.pdWant.set 3 .on).set 4 can,
                                      bootPhase := 9 }))

/-- Step 11: domains on, tables loaded into their blocks, factory corrections of the slices, HK running, BIST. In a GONG entered
at step 7 only PD10 is switched on (R72). -/
def startBlocks (o : BootObs) (s : State) : State :=
  let ds := if s.sys.st = .gong then [10] else [10, 9, 8, 7, 6]
  let s := s.onSys (fun y => { y with pd := ds.foldl (fun l d => l.set d .on) y.pd, pdWant := ds.foldl (fun l d => l.set d .on) y.pdWant })
  let d := s.nvm.cur
  let custom : Word := if d.tabs.custom then 1 else 0
  let s := s.onStore (fun t => { t with tabs := d.tabs, shadow := shPut t.shadow 0x90030 custom, committed := shPut t.committed 0x90030 custom })
  let s := s.onPix (fun p => { p with gainF0 := s.nvm.gainF, gainU0 := s.nvm.gainU, gainGen := d.calGen })
  let s := s.onMal (fun m => { m with trim := d.colDelta })
  let s := factorySlices s
  let s := s.onHk (fun h => { h with running := true })
  bistAll o.bistFail (s.onSys (fun y => { y with bootPhase := 11 }))

/-- A cold boot from a cold reset (R59): READY follows when step 10 allows it (R60). -/
def coldBoot (cause : BitVec 4) (o : BootObs) (s : State) : State :=
  let s := s.onSys (fun y => { y with st := .boot, prev := .standby, tTabor := o.tTaborUs, profileL := y.profSel, rstLast := cause, rstLastCold := cause, warmCount := 0,
                                      wakeLatched := false,
                                      pd := [.on, .on, .on, .off, .off, .on, .off, .off, .off, .off, .off, .on],
                                      pdWant := [.on, .on, .on, .off, .off, .on, .off, .off, .off, .off, .off, .on], bootPhase := 3 })
  let s := readMram o (chooseCfg o s)
  let s := s.onTab (fun b => { b with t := modAt b.t 3 (fun t => { t with running := true, count := 0, epoch := s.nvm.cur.bootCount }) })
  let s := syncOwner s
  let s := gongPoint o (loadLimp o s)
  let s := chooseImage s
  if s.sys.bootPhase = 14 then s
  else
    let s := startBlocks o (startFirmware s)
    startDetect (s.onSys (fun y => { y with readyWaits := true, tReadyObs := o.tReadyUs }))

/-- FW_ACTIVATE: a cold reset, then a boot that keeps the straps (R78, R542, R565). -/
def activateReset (o : BootObs) (s : State) : State := coldBoot 6 o (coldReset s)

/-! STANDBY (R76, R77) and OFF. -/

/-- Entry begins: dark at the next beat boundary, pending records written, EVT STANDBY_ENTRY, lanes idle. -/
def standbyBegin (s : State) : State :=
  if !s.powered || s.sys.standbyEntry then s else
    let s := abandonLight s
    let s := logPassAll { s with clap := { s.clap with restarting := false } }
    let s := if s.linkUp then postEvent bSYS 0 10 [] s else s
    let s := s.onMal (fun m => { m with stopDue := true })
    let s := enterState .standby (s.onSys (fun y => { y with standbyEntry := true, readyWaits := false, wakeLatched := false }))
    s.onLink (fun l => { l with ls := .down, active := 0, width := 0 })

/-- In OFF and STANDBY the supplies may be removed, and they are restored before the next boot (R570, R571, log entry 108). -/
def suppliesBack (s : State) : State :=
  s.onSys (fun y => { y with vio := true, vana := true, ledStage := true, coreStage := true, supplyLost := false })

/-- What is left once entry has completed: PD0 and MRAM. -/
def standbyState (s : State) : State :=
  suppliesBack ((coldReset s).onSys (fun y => { y with st := .standby, prev := s.sys.prev, wakeLatched := false }))

/-- STANDBY_ENTRY_DONE: a rising edge of WAKE during entry starts a cold boot (R77). -/
def standbyDone (o : BootObs) (s : State) : State :=
  if !s.sys.standbyEntry then s
  else if s.sys.wakeLatched then coldBoot 1 o (coldReset s)
  else standbyState s

/-- WAKE low for 1 ms (R55). While RST_N holds a cold reset, STANDBY is reached with nothing left to switch off. -/
def wakeLowEvent (s : State) : State :=
  let s := s.onSys (fun y => { y with wake := false })
  if s.sys.rstN then standbyBegin s
  else if s.powered then standbyState s
  else s

/-- A rising edge of WAKE (R55, R77, R565). -/
def wakeRiseEvent (st : Straps) (o : BootObs) (s : State) : State :=
  if !s.sys.vaon || s.sys.wake then s.onSys (fun y => { y with wake := true })
  else
    let s := s.onSys (fun y => { y with wake := true })
    if !s.sys.rstN then
      let s := s.onSys (fun y => { y with wakeEdge := true })
      if s.sys.st = .standby then (coldReset s) else s
    else
      let s := sampleStraps st s
      if s.sys.standbyEntry then s.onSys (fun y => { y with wakeLatched := true })
      else if s.sys.st = .standby then coldBoot 1 o (coldReset s)
      else s

/-- VAON is applied (R55, R565): PD0 starts, and with WAKE high a cold boot. -/
def vaonApplyEvent (st : Straps) (o : BootObs) (s : State) : State :=
  if s.sys.vaon then s
  else
    let s := coldReset (s.onSys (fun y => { y with vaon := true, keeper := 0, rstLast := 0, rstLastCold := 0, warmCount := 0, wakeEdge := false }))
    if !s.sys.wake then standbyState s
    else
      let s := sampleStraps st s
      if s.sys.rstN then coldBoot 0 o s else s

/-- VAON is lost: OFF, and only MRAM stands (R55, R81). -/
def vaonLossEvent (s : State) : State :=
  (suppliesBack (coldReset (s.onSys (fun y => { y with vaon := false, keeper := 0, rstLast := 0, rstLastCold := 0, warmCount := 0, wakeEdge := false })))).onSys
    (fun y => { y with st := .off, prev := s.sys.st, pd := y.pd.set 0 .off, pdWant := y.pdWant.set 0 .off })

/-- RST_N low for 10 us: a cold reset, held until release (R78). A STANDBY entry under way ends with it (R77). -/
def rstLowEvent (s : State) : State :=
  let s := s.onSys (fun y => { y with rstN := false })
  if s.sys.standbyEntry then
    (if s.sys.wakeLatched then coldReset s else standbyState s)
  else if s.powered then coldReset s
  else s

/-- RST_N is released: BOOT when WAKE is high (R78); the supplies are back (R572). Straps are sampled here only after a rising
edge of WAKE during the reset (R565). -/
def rstReleaseEvent (st : Straps) (o : BootObs) (s : State) : State :=
  if s.sys.rstN then s
  else
    let s := s.onSys (fun y => { y with rstN := true })
    if !s.powered then s
    else
      let s := suppliesBack s
      if !s.sys.wake then standbyState s
      else coldBoot 2 o (coldReset (if s.sys.wakeEdge then sampleStraps st s else s))

/-- LIMP_N low for 10 us (R55, R67): GONG from every powered state in which it is monitored. -/
def limpLowEvent (held : Bool) (s : State) : State :=
  let s := s.onSys (fun y => { y with limpN := !held })
  if !s.sys.rstN || !s.lands then s
  else if s.sys.st = .boot then enterState .gong ((gongLight 1 s).onSys (fun y => { y with gongFromBoot := true }))
  else enterGong 1 s

/-- A supply is removed in a powered state (R572): without VANA the controllers and the limp regulator stop and the array goes dark;
without VIO no control land is driven or read. -/
def supplyEvent (w : Supply) (s : State) : State :=
  if !s.powered then s else
  let s := s.onSys (fun y => match w with
    | .vio => { y with vio := false }
    | .vana => { y with vana := false }
    | .ledStage => { y with ledStage := false }
    | .coreStage => { y with coreStage := false })
  if w == .vana then syncOwner (s.onSys (fun y => { y with supplyLost := true })) else s

/-! Power domains (R74, R296, R483, R484). -/

/-- A domain reports power-good: its isolation is released. -/
def powerGoodEvent (d : Nat) (s : State) : State :=
  if !s.powered || s.sys.pdWant.getD d .off != .on || s.pdIs d .on then s
  else stillDone (syncStb (s.onSys (fun y => { y with pd := y.pd.set d .on })))

/-- Units of a domain (R70, R551). -/
def pdUnits : Nat → List BistUnit
  | 6 => (List.range 4).map (fun n => .lane (Fin.ofNat 4 n))
  | 7 => (List.range 4).map (fun n => .bank (Fin.ofNat 4 n))
  | 8 => [.showBuffer 0, .showBuffer 1, .audit]
  | 9 => (List.range 9).map (fun n => .mallet (Fin.ofNat 9 n))
  | 10 => (List.range 65).map (fun n => .slice (Fin.ofNat 65 n))
  | _ => []

/-- DOMAIN_SW: a domain is not in its commanded condition (R430, R483); its units count as failing BIST. -/
def domainSwEvent (d : Nat) (s : State) : State :=
  if !s.powered || d == 0 then s
  else
    let want := s.sys.pdWant.getD d .off
    let s := if want = .on then s.onSys (fun y => { y with pd := y.pd.set d .off }) else s
    let s := record bSYS 1 (atUnit d) s
    let s := if (pdUnits d).isEmpty then s else s.onSys (fun y => { y with bistFail := true })
    (pdUnits d).foldl (fun s u => bistFailed u s) s

/-- BIST at unfence of one unit ends (R220, R308, R340). -/
def unfenceDone (fails : List BistUnit) (u : BistUnit) (s : State) : State :=
  match u with
  | .lane n => unfenceLane n (fails.contains u) s
  | .mallet m => unfenceMallet m (fails.contains u) s
  | .slice i => unfenceSlice i (fails.contains u) s
  | _ => s

/-- The domains that a pending GONG_EXIT switched on, or failed to, are tested, and the exit goes on (R74), unless a CRITICAL
failure has just abandoned it (R58). -/
def gongBist (fails : List BistUnit) (s : State) : State :=
  match s.clap.long.find? (fun l => match l.kind with
    | .gongExit _ => true
    | _ => false) with
  | some l =>
    if s.sys.st = .gong ∧ s.carl.job = none ∧ (s.lightPowered || (s.flts bSYS).stat.getLsbD 1) = true then
      let s := bistAll (fails.filter (fun u => decide (6 ≤ unitPd u) && decide (unitPd u ≤ 9))) s
      if s.clap.long.contains l then
        match l.kind with
        | .gongExit toLit =>
          let r := gongExitGo toLit s
          (match r.2 with
          | some res => finishLong l res r.1
          | none => r.1)
        | _ => s
      else s
    else s
  | none => s

/-- BIST_DONE. -/
def bistDoneEvent (fails : List BistUnit) (s : State) : State :=
  let us := s.sys.bist
  let s := us.foldl (fun s u => unfenceDone fails u s) (s.onSys (fun y => { y with bist := [] }))
  gongBist (fails.filter (fun u => !us.contains u)) s

/-- What IDCODE shifts out: revision, 0x1536, the BSDL file's manufacturer field, 1 (R581). -/
def idcodeWord : Word := (Config.siliconRev.setWidth 4 ++ (0x1536 : BitVec 16)) ++ (Config.jtagMaker ++ (1 : BitVec 1))

/-- A TAP instruction (R581). -/
def tapEvent (i : TapInstr) (s : State) : State :=
  if !s.powered || !s.lands || s.sys.st = .service || !s.sys.rstN then s
  else s.onSys (fun y => { y with tap := if (i = .extest ∨ i = .clamp) ∧ y.st ≠ .ready then .bypass else i })

/-! Warm restart (R78, R79, R161, R420, R424, R586). -/

/-- The Clapper firmware runs, so that it can restart. -/
def State.clapRuns (s : State) : Bool := s.powered && s.sys.rstN && !s.sys.standbyEntry && decide (s.sys.fwImage.toNat < 2)

/-- SERVICE ends in READY, dark from the next beat boundary (R57). -/
def endService (s : State) : State :=
  if s.sys.st = .service then
    let s := abandonLight s
    toReady ((s.onMal (fun m => { m with stopDue := m.scanning })).onCarl (fun c => { c with job := none }))
  else s

/-- The commands whose final replies a warm restart takes from the SPI port and which are executed again (R586). -/
def Spi.again (p : Spi) : List Ctx :=
  p.replies.filterMap (fun r => match r.2 with
    | .again k => some ⟨k, none, false, none⟩
    | _ => none)

/-- Records that a warm restart discards from the event queue record EVT_LOST, but for those of EVT_LOST itself (R180). -/
def recordLost (q : List EvtRec) (s : State) : State :=
  (q.filter (fun e => !isEvtLostRec e)).foldl (fun s _ => record bCLAP 5 noUnit s) s

/-- A warm restart begins: causes, the dump of a fatal error, the event queue emptied, replies on SPI emptied. -/
def warmBegin (cause : Nat) (s : State) : State :=
  if !s.clapRuns then s else
    let irq := !s.irqN
    let fatal := decide (cause = 4) || decide (cause = 5)
    let slot := if fatal then s.freeSlot else none
    let gone := s.clap.evtQ
    let kept := s.clap.retained ++ s.spi.again
    let s := s.onClap (fun c =>
      { c with restarting := true, cause := BitVec.ofNat 4 cause, evtDiscarded := c.evtDiscarded + gone.length, evtQ := [], irqHeld := irq,
               evtLost := c.evtLost || !gone.isEmpty, retained := kept,
               held := c.held.map (fun l => { l with ctx := { l.ctx with replayed := true } }),
               ledger := c.ledger.map (fun e =>
                 if e.state = 0 ∧ (c.long.any (fun l => decide (l.ctx.ledger = some e.lseq))) = false then { e with restarts := e.restarts + 1 } else e) })
    let s := recordLost gone (s.onSpi (fun p => { p with replies := [] }))
    let s := s.onSys (fun y => { y with rstLast := BitVec.ofNat 4 cause, warmCount := if y.warmCount = 0xFFFF then y.warmCount else y.warmCount + 1 })
    let s := endService s
    if fatal then
      let s := record bCLAP (if cause = 4 then 7 else 6) (match slot with
        | some k => atUnit k
        | none => noUnit) s
      match slot with
      | some k => (writeDump k cause s).onClap (fun c => { c with dumpDone := some k })
      | none => s
    else s

/-- Bytes clocked to the host, and what a SPI transaction returned. -/
def spiOut (status : Byte) (out : Bytes) (s : State) : State := s.onSpi (fun p => { p with lastStatus := status, lastOut := out })

/-- Replies wait for a full port while rx_ready is 0 (R580). -/
def State.spiReady (s : State) : Bool :=
  s.powered && s.lands && s.sys.rstN && decide (s.spi.replies.length < 4) && (decide (s.sys.st ≠ .boot) || decide (s.sys.bootPhase = 14))

/-- The status byte, which clears frame_err when the transaction ends (R579). -/
def spiStatus (s : State) : Byte :=
  BitVec.ofNat 8 (128 + bit01 s.spiReady + bit01 (!s.spi.replies.isEmpty) * 2 + bit01 s.spi.frameErr * 4)

/-- READ_LEN (R579). -/
def spiReadLen (s : State) : State :=
  if !s.lands then s else
  let n := (s.spi.replies.head?.map (fun r => r.1.length)).getD 0
  spiOut (spiStatus s) (0 :: natLe 2 n) (s.onSpi (fun p => { p with frameErr := false, lastLen := n }))

/-- READ_PKT with a number of bytes clocked after byte 0: byte 1 is 0x00, the reply follows; a reply clocked out whole is delivered
(R580). -/
def spiReadPkt (clocked : Nat) (s : State) : State :=
  if !s.lands then s else
  let out := ((0 : Byte) :: (s.spi.replies.head?.map (·.1)).getD [])
  let s1 := spiOut (spiStatus s) (padTo clocked (out.take clocked)) (s.onSpi (fun p => { p with frameErr := false }))
  match s.spi.replies with
  | (b, l) :: rest =>
    if b.length + 1 ≤ clocked then
      markDelivered l (s1.onSpi (fun p => { p with replies := rest }))
    else s1
  | [] => s1

/-- WRITE_PKT (R579): the packet passed on, or none where the transaction is discarded. -/
def spiWrite (mosi : Bytes) (s : State) : State × Option Bytes :=
  if !s.lands then (s, none) else
  let n := numAt mosi 1 2
  let ready := s.spiReady
  let s1 := spiOut (spiStatus s) (zeros (mosi.length - 1)) (s.onSpi (fun p => { p with frameErr := false }))
  if byteAt mosi 0 ≠ 1 ∨ n < 20 ∨ 4160 < n ∨ ready = false ∨ mosi.length < 3 + n then (s1.onSpi (fun p => { p with frameErr := true }), none)
  else (s1, some (sliceB mosi 3 n))

end Sys2Proof.Machine
end

