-- ==== Sys2Proof/Machine/Registers.lean ====
section
/-!
DEFINITION. REG_READ and REG_WRITE (R20, R21, R176, R547 to R550, R584): the nine rules a write is checked against, the
ranges of the owning chapters, and what each accepted word does.
-/
namespace Sys2Proof.Machine

/-! REG_READ. -/

/-- The words of a run from an address: addresses. -/
def regRun (a n : Nat) : List Nat := (List.range n).map (fun i => a + 4 * i)

def bodyRegRead : Body := fun c s =>
  let a := numAt c.pkt.params 0 4
  let n := numAt c.pkt.params 4 1
  if c.pkt.params.length ≠ 5 then no badLen s
  else if n < 1 ∨ 64 < n then no (badParam 4) s
  else if a % 4 ≠ 0 then no (refuse 0x11 0 a) s
  else
    match (regRun a n).find? (fun x => decide (0x100000 ≤ x)) with
    | some x => no (refuse 0x14 0 x) s
    | none =>
      match (regRun a n).find? (fun x => regUnreachable x s) with
      | some x => no (refuse 0x12 0 x) s
      | none =>
        let (s, d) := (regRun a n).foldl (fun (r : State × Bytes) x =>
          let (s, v) := readReg x r.1
          (s, r.2 ++ leOf 4 v)) (s, [])
        didData d s.freeNext

/-! Rules 3 to 8 of R584, one word at a time. -/

def isFlt (a : Nat) : Bool := decide (0xFF00 ≤ a % 0x10000)

/-- Rule 3: the register is defined, has a field that can be written, and is none that the rule excludes. -/
def regWritable (a : Nat) (s : State) : Bool :=
  let off := a % 0x10000
  if isFlt a then
    (s.fltWord (a / 0x10000) off).isSome && !fltRo off && (decide (off ≠ 0xFF28) || decide (s.sys.st = .service))
  else
    match regRow a with
    | none => false
    | some r => decide (r.rw ||| r.wo ||| r.w1c ||| r.sh ≠ 0) && !(decide (0x500C0 ≤ a) && decide (a < 0x50100))

/-- Items of R383 that REG_WRITE changes. -/
def regLockable (a : Nat) : Bool :=
  let off := a % 0x10000
  let blk := a / 0x10000
  a == 0xD0010 || a == 0xD0014 || a == 0xD0018 || (decide (0xD00A0 ≤ a) && decide (a < 0xD00C0)) || a == 0x24 || a == 0x90030 ||
  a == 0xA0010 || a == 0xA0014 || a == 0xA0018 ||
  ((blk == 8 || blk == 9 || blk == 10 || blk == 11 || blk == 13) && (off == 0xFF04 || off == 0xFF08 || off == 0xFF0C || off == 0xFF20 ||
    (decide (0xFF30 ≤ off) && decide (off % 8 = 0))))

/-- Rule 5. -/
def regLocked (a : Nat) (v : Word) (s : State) : Bool :=
  (s.locked && regLockable a) || (a == 0xB0000 && v.getLsbD 5 && s.hkLocked (s.hk.staging.take (fld v 0 5)))

/-- Rule 6: a field that does not exist while the block's domain is off or in retention would be written. -/
def regAsleep (a : Nat) (v : Word) (s : State) : Bool :=
  !isFlt a && !s.blockOn (a / 0x10000) &&
  (match regRow a with
  | some r => decide (r.rw ||| r.sh = 0) || decide (v &&& word32 (r.wo ||| r.w1c) ≠ 0)
  | none => false)

/-- Rule 7: the state does not allow the write. -/
def regState (a : Nat) (v : Word) (s : State) : Bool :=
  let notReady := decide (s.sys.st ≠ .ready)
  match a with
  | 0x24 => notReady
  | 0x40000 => notReady && (v.getLsbD 0 != s.canEnabled)
  | 0x40008 => s.rfld 0x40000 0 1 == 1
  | 0x4000C => s.rfld 0x40000 0 1 == 1
  | 0x60000 => notReady && decide (fld v 4 4 ≠ 0)
  | 0x90000 => notReady && decide (fld v 0 9 ≠ 0)
  | 0x90010 => notReady
  | 0xA0004 => notReady && v.getLsbD 7
  | 0xC0020 => notReady && v.getLsbD 2
  | 0xC0028 => notReady
  | 0xC0030 => notReady
  | 0xD0010 => notReady
  | 0xD0014 => notReady
  | 0xD0018 => notReady
  | _ =>
    if 0xD00A0 ≤ a ∧ a < 0xD00C0 then notReady
    else if 0x90400 ≤ a ∧ a < 0x90A00 then notReady
    else if 0x50000 ≤ a ∧ a < 0x500C0 ∧ a % 0x40 = 0x28 then v.getLsbD 0 && decide (s.tMode ((a - 0x50000) / 0x40) ≠ 3)
    else false

/-- Rule 8: reserved bits set. -/
def regReserved (a : Nat) (v : Word) : Bool :=
  if isFlt a then decide (v &&& word32 (fltResv (a / 0x10000) (a % 0x10000)) ≠ 0)
  else
    match regRow a with
    | some r => decide (v &&& ~~~(word32 r.used) ≠ 0)
    | none => false

/-! Rule 9: ranges and combinations, judged on the fields as they stand after the write. -/

/-- The RW and SH fields of a word take a value. -/
def placeWord (a : Nat) (v : Word) (s : State) : State :=
  if isFlt a then s
  else
    match regRow a with
    | none => s
    | some r =>
      let s := if r.rw = 0 then s else s.setReg a ((s.reg a &&& ~~~(word32 r.rw)) ||| (v &&& word32 r.rw))
      if r.sh = 0 then s else s.onStore (fun t => { t with shadow := shPut t.shadow a (v &&& word32 r.sh) })

/-- TABORn_CFG outside R455. -/
def taborCfgBad (n : Nat) (v : Word) (profL : Bool) : Bool :=
  let mode := fld v 0 3
  if n = 2 then decide (3 < mode) || decide (fld v 3 2 ≠ 0) || decide (fld v 5 2 = 3) || decide (fld v 7 6 ≠ 0)
  else decide (3 < mode) || (decide (n = 0) && (decide (mode = 2) || v.getLsbD 12)) || decide (fld v 3 2 = 3) || decide (fld v 5 2 ≠ 0) ||
    (profL && !v.getLsbD 7)

/-- The phase of Tabor 2 does not lie below its alignment period. -/
def phaseBad (s : State) : Bool := decide (s.alignPeriod < 3 * (s.rfld 0x5011C 0 27 + 1))


/-- The route record in the shadow. -/
def routeRec (m : ShMap) : Bytes := [0x60030, 0x60034, 0x60038, 0x6003C].flatMap (fun a => leOf 4 (shGet m a))

/-- A word of the route record breaks R243: a field of its own, or one that it combines with. DESIGN CHOICE, log entry 100: a word is not
held to the fields of the words beside it, which read 0 at reset; CARL_WB_CFG is held to the handle, and to the stride where it switches
a Layer Store route on. -/
def routeWordBad (a : Nat) (m : ShMap) : Bool :=
  let k := a - 0x60030
  (routeRules (routeRec m)).any (fun e => e.2 &&
    ((decide (k ≤ e.1) && decide (e.1 < k + 4)) || (k == 0 && (e.1 == 4 || (e.1 == 12 && wbMem m)))))

def timBad (tseg1 tseg2 sjw lo : Nat) : Bool :=
  decide (tseg1 < lo) || decide (tseg2 < 1) || decide (sjw < 1) || decide (tseg2 < sjw)

/-- Length of a nominal and of a data bit in cycles of the 80 MHz clock (R388). -/
def State.nomBit (s : State) : Nat := (s.rfld 0x40008 0 5 + 1) * (1 + s.rfld 0x40008 5 8 + s.rfld 0x40008 13 7)
def State.dataBit (s : State) : Nat := (s.rfld 0x4000C 0 5 + 1) * (1 + s.rfld 0x4000C 5 5 + s.rfld 0x4000C 10 4)

/-- The nominal rate lies outside 125 kbit/s to 1 Mbit/s, or the data rate outside the nominal rate to 8 Mbit/s (R388). -/
def State.ratesBad (s : State) : Bool := outside 80 640 s.nomBit || outside 10 s.nomBit s.dataBit

/-- One layer lies in two groups. -/
def groupsOverlap (v : Word) : Bool :=
  (List.range 8).any (fun k => decide (2 ≤ ((List.range 4).filter (fun g => v.getLsbD (8 * g + k))).length))

/-- A plain range of a register; `s` is the state after the write. -/
def plainRange (a : Nat) (v : Word) (s : State) : Bool :=
  let f (lo n : Nat) : Nat := fld v lo n
  match a with
  | 0x30000 => decide (f 1 2 = 3) || outside 1 4 (f 4 4) || decide (f 8 8 = 0)
  | 0x3000C => outside 10 1000 (f 0 10)
  | 0x30010 => decide (f 8 8 ≤ f 0 8) || decide (f 24 8 ≤ f 16 8)
  | 0x40000 => outside 2 100 (f 3 7) || (!v.getLsbD 0 && (decide (s.pathMode = 0) || decide (s.pathMode = 2)))
  | 0x40004 => decide (f 0 4 ≠ 0)
  | 0x40008 => timBad (f 5 8) (f 13 7) (f 20 7) 2 || s.ratesBad
  | 0x4000C => timBad (f 5 5) (f 10 4) (f 14 4) 1 || s.ratesBad
  | 0x50118 => decide (f 0 16 = 0) || decide (f 16 16 = 0)
  | 0x5011C => phaseBad s
  | 0x50120 => outside 16000000 3200000000 v.toNat
  | 0x50124 => outside 1000 500000 (f 0 20)
  | 0x60060 => groupsOverlap v
  | 0x80070 => decide (f 0 2 ≠ 0) || decide (1769472 ≤ f 0 21)
  | 0xA0004 => v.getLsbD 7 && decide (64 < f 0 7)
  | 0xA0010 => decide (s.rfld 0xA0010 12 12 ≤ s.rfld 0xA0014 0 12)
  | 0xA0014 => decide (s.rfld 0xA0010 12 12 ≤ f 0 12) || decide (f 12 8 < 10) || outside 1 1536 (f 20 11)
  | 0xA0018 => outside 1 1536 (f 0 12)
  | 0xB0000 => outside 1 16 (f 0 5) || (v.getLsbD 5 && (hkApply v s).isNone)
  | 0xB0004 => outside 20 100000 (f 0 17) || !seqFits s.hk.seq (f 0 17)
  | 0xC0028 => decide (f 0 8 = 0) || decide (f 8 8 = 0)
  | 0xC0030 => outside 2240 2800 (f 12 12) || decide (f 12 12 ≤ f 0 12)
  | 0xD0010 => decide (s.pathMode = 3) || (decide (s.pathMode = 0) && !s.canEnabled) || outside 1 16 s.clearCount ||
      (s.sys.profileL && !v.getLsbD 2)
  | 0xD0014 => outside 1 200 (f 0 8) || (decide (f 8 11 ≠ 0) && outside 20 2000 (f 8 11)) || decide (4 < f 19 3)
  | 0xD0018 => outside 100 60000 (f 0 16)
  | _ =>
    if 0xD00A0 ≤ a ∧ a < 0xD00C0 then !capOk (s.cap ((a - 0xD00A0) / 8))
    else if 0x50000 ≤ a ∧ a < 0x500C0 ∧ a % 0x40 = 0x38 then
      let n := (a - 0x50000) / 0x40
      taborCfgBad n v s.sys.profileL || (decide (n = 2) && phaseBad s)
    else if 0x50000 ≤ a ∧ a < 0x500C0 ∧ a % 0x40 = 0x3C then outside 10 10000 (f 0 14) || outside 1 10000 (f 14 14)
    else false

/-- Rule 9 on one word, on the state before and after: status, address named. -/
def regRange (a : Nat) (v : Word) (s0 s : State) : Option (Nat × Nat) :=
  if isFlt a then (if fltRange (a / 0x10000) (a % 0x10000) v s0 then some (0x11, a) else none)
  else if 0x60100 ≤ a ∧ a < 0x60200 then
    let n := (a - 0x60100) / 32
    (recBad n ((recOf s.store.shadow n).flatMap (leOf 4)) true s).map (fun e => (e.2, lyAddr n (e.1 / 4)))
  else if 0x60030 ≤ a ∧ a < 0x60040 then (if routeWordBad a s.store.shadow then some (0x11, a) else none)
  else if a = 0xC0020 then
    (match (if v.getLsbD 0 then vledPairBad s.vledPair else none), (if v.getLsbD 1 then vcorePairBad s.vcorePair else none) with
    | some x, _ => some (0x11, x)
    | none, some x => some (0x11, x)
    | none, none => none)
  else if plainRange a v s then some (0x11, a) else none

/-- A word refused in rule 9 is refused by the intervals of R344 and R345, whose refusals carry detail 0. -/
def gapRefused (a : Nat) (v : Word) (s : State) : Bool :=
  match a with
  | 0xB0000 => !outside 1 16 (fld v 0 5) && seqBad (s.hk.staging.take (fld v 0 5)) true s == some (0x11, 0)
  | 0xB0004 => !outside 20 100000 (fld v 0 17)
  | _ => false

/-- The first rule of R584 that a write breaks: status, address named, and the word that detail names, if any. -/
def regWriteBad (ws : List (Nat × Word)) (slot : Nat) (s : State) : Option (Nat × Nat × Option Nat) :=
  let hit (st : Nat) (p : Nat → Word → Bool) : Option (Nat × Nat × Option Nat) :=
    (ws.find? (fun w => p w.1 w.2)).map (fun w => (st, w.1, some w.1))
  let after := ws.foldl (fun s w => placeWord w.1 w.2 s) s
  if let some r := hit 0x11 (fun a _ => decide (a % 4 ≠ 0)) then some r
  else if let some r := hit 0x14 (fun a _ => decide (0x100000 ≤ a)) then some r
  else if let some r := hit 0x14 (fun a _ => !regWritable a s) then some r
  else if let some r := hit 0x14 (fun a _ => a == 0xF000C && !s.hasRight slot 3) then some r
  else if let some r := hit 0x14 (fun a v => regLocked a v s) then some r
  else if let some r := hit 0x12 (fun a v => regAsleep a v s) then some r
  else if let some r := hit 0x12 (fun a v => regState a v s) then some r
  else if let some r := hit 0x11 (fun a v => regReserved a v) then some r
  else ws.findSome? (fun w => (regRange w.1 w.2 s after).map (fun e => (e.1, e.2, if gapRefused w.1 w.2 after then none else some w.1)))

/-! What an accepted word does. -/

/-- BIST of units at unfence starts (R220, R308, R340). -/
def startBist (us : List BistUnit) (s : State) : State :=
  s.onSys (fun y => { y with bist := y.bist ++ us.filter (fun u => !y.bist.contains u) })

def carlUnfence (v : Word) (s : State) : State :=
  startBist (((List.range 4).filter (fun n => v.getLsbD (4 + n))).map (fun n => .lane (Fin.ofNat 4 n))) s

def malletUnfence (v : Word) (s : State) : State :=
  startBist (((List.range 9).filter (fun m => v.getLsbD m)).map (fun m => .mallet (Fin.ofNat 9 m))) s

def sliceUnfence (v : Word) (s : State) : State :=
  if v.getLsbD 7 then startBist [.slice (Fin.ofNat 65 (fld v 0 7))] s else s

def linkCtrl (v : Word) (s : State) : State :=
  let s := unfenceLanes (BitVec.ofNat 4 (fld v 2 4)) s
  let s := if v.getLsbD 0 then retrain s else s
  if v.getLsbD 1 then recover s else s

def pwrUnfence (s : State) : State := syncOwner (s.onPwr (fun p => { p with fenced := false }))

def pwrCtrl (v : Word) (s : State) : State :=
  let s := if v.getLsbD 0 then applyVled s else s
  let s := if v.getLsbD 1 then applyVcore s else s
  if v.getLsbD 2 then pwrUnfence s else s

/-- HK_CTRL.apply of a staging copy that passes (R348). -/
def hkCtrl (v : Word) (s : State) : State := if v.getLsbD 5 then (hkApply v s).getD s else s

/-- A Tabor's configuration word has been written: a change acts as TIME_CONFIG's does (R455). -/
def taborWord (n : Nat) (changed : Bool) (s : State) : State := if changed then taborCfgChanged n s else s

/-- An accepted word takes effect. -/
def writeWord (a : Nat) (v : Word) (s0 : State) : State :=
  if isFlt a then fltPut (a / 0x10000) (a % 0x10000) v s0
  else
    let s := placeWord a v s0
    let changed := decide (s.reg a ≠ s0.reg a)
    match a with
    | 0x24 => storeReg 0x24 v s
    | 0x30000 => linkEnableChanged (s0.rfld 0x30000 0 1 == 1) (v.getLsbD 0) s
    | 0x30004 => linkCtrl v s
    | 0x40000 => writeCanCfg v s0
    | 0x5011C => taborWord 2 changed s
    | 0x50120 => taborWord 1 (changed && decide (s.tMode 1 = 2)) s
    | 0x50124 => taborWord 1 (changed && decide (s.tMode 1 = 2)) s
    | 0x60000 => carlUnfence v s
    | 0x90000 => malletUnfence v s
    | 0x90010 => if changed then frameCfgChanged s else s
    | 0x90094 => s.onMal (fun m => { m with timerExpired := m.timerExpired &&& ~~~(BitVec.ofNat 8 (fld v 8 8)) })
    | 0xA0004 => sliceUnfence v s
    | 0xB0000 => hkCtrl v s
    | 0xC0020 => pwrCtrl v s
    | 0xE0004 => s.onCv (fun c => { c with sigChosen := true })
    | 0xE0000 => if v.getLsbD 0 then s else forN 256 0 snoopInvalid s
    | _ =>
      if 0x50000 ≤ a ∧ a < 0x500C0 ∧ a % 0x40 = 0x28 then (if v.getLsbD 0 then taborApply ((a - 0x50000) / 0x40) s else s)
      else if 0x50000 ≤ a ∧ a < 0x500C0 ∧ a % 0x40 = 0x38 then taborWord ((a - 0x50000) / 0x40) changed s
      else if 0x50000 ≤ a ∧ a < 0x50080 ∧ a % 0x40 = 0x3C then taborWord ((a - 0x50000) / 0x40) changed s
      else if 0x90400 ≤ a ∧ a < 0x90A00 then removeCuts ((a - 0x90400) / 0xC0) ((a - 0x90400) % 0xC0 / 4) v s
      else s

def bodyRegWrite : Body := fun c s =>
  let ps := c.pkt.params
  let a := numAt ps 0 4
  let n := numAt ps 4 1
  if ps.length < 8 then no badLen s
  else if n < 1 ∨ 64 < n then no (badParam 4) s
  else
    match findIdx? (fun b => b ≠ 0) (sliceB ps 5 3) with
    | some i => no (badParam (5 + i)) s
    | none =>
      if ps.length ≠ 8 + 4 * n then no badLen s
      else
        let ws := (List.range n).map (fun i => (a + 4 * i, u32At ps (8 + 4 * i)))
        match regWriteBad ws c.pkt.slot.toNat s with
        | some (st, named, at_) => no (refuse st (if a % 4 ≠ 0 then 0 else (at_.map (fun x => 8 + (x - a))).getD 0) named) s
        | none => did (ws.foldl (fun s w => writeWord w.1 w.2 s) s)

end Sys2Proof.Machine
end

