-- ==== Sys2Proof/Machine/TableCmds.lean ====
section
/-!
DEFINITION. TABLE_READ and TABLE_WRITE (R176, R467, R468, R529, R552 to R556, R588).
-/
namespace Sys2Proof.Machine

/-- Entries of a table, bytes of an entry as read, and as written (R552); none where the ID names no table (R553). -/
def tabShape : Nat → Option (Nat × Nat × Nat)
  | 1 => some (8192, 2, 2)
  | 2 => some (1179648, 2, 2)
  | 3 => some (1179648, 2, 2)
  | 4 => some (1179648, 1, 1)
  | 5 => some (12288, 2, 1)
  | 6 => some (9216, 2, 2)
  | 7 => some (147456, 1, 1)
  | 8 => some (8, 4, 4)
  | 9 => some (1536, 2, 2)
  | 10 => some (16, 8, 8)
  | 11 => some (9216, 72, 72)
  | 12 => some (16, 8, 8)
  | 13 => some (132, 8, 8)
  | 14 => some (2, 4, 4)
  | 15 => some (16, 16, 16)
  | _ => none

/-- Table ID and entry as an address (R143). -/
def tabAddr (id e : Nat) : Nat := id * 0x1000000 + e % 0x1000000

/-- The first entry of a range that lies beyond a table of n entries. -/
def tabExcess (id first cnt n : Nat) : Option Nat := if n < first + cnt then some (tabAddr id (Nat.max first n)) else none

/-- The free values of one entry (log entry 11). -/
def freeEntry (s : State) (e n : Nat) : Bytes := (List.range n).map (fun i => Config.freeByte (s.freeIdx + e * n + i))

/-- Entry e of DAMPER_ACTIVE (R555). -/
def State.damperEntry (s : State) (e : Nat) : BitVec 64 :=
  let l := if e < 64 then s.zonesA else if e < 128 then s.zonesB else if s.capsAct then s.caps else []
  l.getD (e % 64) 0xFFFFFFFFFFFFFFFF

/-- An entry as TABLE_READ returns it. What a block in an off domain would hold, and HK_SEQ beyond the sequence in force, are
free values. -/
def State.tabEntry (s : State) (id e : Nat) : Bytes :=
  match id with
  | 1 => natLe 2 (s.scoreAt e)
  | 2 => if s.blockOn bPIX then natLe 2 (s.gainOf e) else freeEntry s e 2
  | 3 => leOf 2 (factGainAt s.nvm.gainF e)
  | 4 => [BitVec.ofInt 8 (deltaAt s.nvm.gainU e)]
  | 5 => [Config.factCol e, BitVec.ofInt 8 (spGet 0 s.nvm.cur.colDelta e)]
  | 6 => natLe 2 (floorAt s.store.tabs e)
  | 7 => natLe 1 (s.limpByte e)
  | 8 => leOf 4 (tabAt tDERATE s.store.tabs.derate e)
  | 9 => leOf 2 (tabAt tCOEF s.store.tabs.coef e)
  | 10 => leOf 8 (tabAt tKEEPOUT s.store.tabs.keepout e)
  | 11 => if s.blockOn bSENSE then rollEntry s e else freeEntry s e 72
  | 12 => (match s.hk.seq[e]? with
    | some x => leOf 8 x
    | none => freeEntry s e 8)
  | 13 => leOf 8 (s.damperEntry e)
  | 14 => leOf 4 (s.inForce (if e = 0 then 0x90020 else 0x90024))
  | _ => s.keyDir e

/-- What TABLE_READ and TABLE_WRITE check alike: ID, reserved bytes, count (R553). -/
def tabParams (ps : Bytes) (bytes : Nat × Nat × Nat → Nat) : Option Res :=
  match tabShape (numAt ps 0 1) with
  | none => some (badParam 0)
  | some sh =>
    match findIdx? (fun b => b ≠ 0) (sliceB ps 1 3) with
    | some i => some (badParam (1 + i))
    | none => if numAt ps 8 2 = 0 ∨ 4096 < numAt ps 8 2 * bytes sh then some (badParam 8) else none

def bodyTableRead : Body := fun c s =>
  let ps := c.pkt.params
  let id := numAt ps 0 1
  let first := numAt ps 4 4
  let n := numAt ps 8 2
  if ps.length ≠ 10 then no badLen s
  else
    match tabParams ps (fun sh => sh.2.1) with
    | some r => no r s
    | none =>
      match tabExcess id first n ((tabShape id).getD (0, 0, 0)).1 with
      | some a => no (accessViol a) s
      | none => didData ((List.range n).flatMap (fun i => s.tabEntry id (first + i))) (s.onFreeIdx (· + 2359296))

/-! TABLE_WRITE. -/

/-- Tables that no write changes (R552). -/
def tabRefused (id : Nat) : Bool := id == 2 || id == 11 || id == 13 || id == 15

/-- Tables under the safety lock (R383). -/
def tabLockable (id : Nat) : Bool := id == 1 || id == 6 || id == 7 || id == 10

/-- The state does not allow the write (R552). -/
def tabState (id : Nat) (s : State) : Bool :=
  match id with
  | 1 => !(decide (s.sys.st = .ready) || (decide (s.sys.st = .service) && !s.mal.scanning))
  | 3 => !(decide (s.sys.st = .ready) || decide (s.sys.st = .service))
  | 7 => decide (s.sys.st ≠ .ready)
  | _ => false

/-- The entries of a write, as numbers. -/
def tabVals (ps : Bytes) (size n : Nat) : List Nat := (List.range n).map (fun i => numAt ps (12 + size * i) size)

/-- Offset of the first entry with a reserved bit or a value out of range (R468). -/
def tabValueBad (id : Nat) (vals : List Nat) : Option Nat :=
  match id with
  | 3 => (findIdx? (fun v => decide (1024 ≤ v)) vals).map (fun i => 13 + 2 * i)
  | 5 => (findIdx? (fun v => decide (64 ≤ v) && decide (v < 192)) vals).map (fun i => 12 + i)
  | _ => none

/-- Limp bytes are written in place, with the recomputed limp CRC (R554). -/
def writeLimp (first : Nat) (vals : List Nat) (s : State) : State :=
  let put (m : List (Nat × BitVec 1536)) (e : Nat × Nat) : List (Nat × BitVec 1536) :=
    let y := (first + e.2) / 192
    let lo := 8 * ((first + e.2) % 192)
    let w := spGet (Config.limpRow y) m y
    spSet (Config.limpRow y) m y (BitVec.ofNat 1536 (w.toNat - fld w lo 8 * 2 ^ lo + e.1 * 2 ^ lo))
  let s := touchMram (0x490000 + first) vals.length (s.onNvm (fun n => { n with limp := vals.zipIdx.foldl put n.limp }))
  saveCfg (fun d => { d with limpCrc := crcP1 ((List.range 147456).map (fun i => BitVec.ofNat 8 (s.limpByte i))), hasLimpCrc := true, limpBuilt := false,
                             limpGen := d.limpGen + 1 }) s

/-- An accepted write: the state, and the generation that the reply carries. DESIGN CHOICE (log entry 96): the numbers of the column-trim
table and of the limp bitmap start at 0 and rise by 1. HK_SEQ, which has no generation, gives a free value. -/
def tabWrite (id first : Nat) (vals : List Nat) (s : State) : State × Word :=
  match id with
  | 3 => let s := writeGainF first (vals.map (BitVec.ofNat 10)) s; (s, s.nvm.cur.calGen)
  | 4 => let s := writeGainU (vals.zipIdx.map (fun e => (first + e.2, sgn 8 e.1))) s; (s, s.nvm.cur.calGen)
  | 5 => let s := writeColDelta first (vals.map (sgn 8)) s; (s, s.nvm.cur.colGen)
  | 7 => let s := writeLimp first vals s; (s, s.nvm.cur.limpGen)
  | 12 =>
    let s := s.onHk (fun h => { h with staging := vals.zipIdx.foldl (fun l e => l.set (first + e.2) (BitVec.ofNat 64 e.1)) h.staging })
    (s.freeNext, s.freeWord)
  | _ => writeShadow id first (vals.map (BitVec.ofNat 64)) s

def bodyTableWrite : Body := fun c s =>
  let ps := c.pkt.params
  let id := numAt ps 0 1
  let first := numAt ps 4 4
  let n := numAt ps 8 2
  if ps.length < 12 then no badLen s
  else
    match tabParams ps (fun sh => sh.2.2) with
    | some r => no r s
    | none =>
      let sh := (tabShape id).getD (0, 0, 0)
      let vals := tabVals ps sh.2.2 n
      match findIdx? (fun b => b ≠ 0) (sliceB ps 10 2) with
      | some i => no (badParam (10 + i)) s
      | none =>
        if ps.length ≠ 12 + sh.2.2 * n then no badLen s
        else if tabRefused id || (id == 3 && !s.hasRight c.pkt.slot.toNat 5) || (s.locked && tabLockable id) then no (accessViol (tabAddr id first)) s
        else if tabState id s then no (refuse0 0x12) s
        else
          match tabExcess id first n sh.1 with
          | some a => no (accessViol a) s
          | none =>
            match tabValueBad id vals with
            | some off => no (badParam off) s
            | none => let r := tabWrite id first vals s; didData (leOf 4 r.2) r.1

end Sys2Proof.Machine
end

