-- ==== Sys2Proof/Machine/Commands.lean ====
section
/-!
DEFINITION. Commands: packets and step 1 (R141, R144, R150), the queue (R154), steps 2 to 6 (R150 to R153, R155, R160, R536),
steps 7 to 9 (R149, R165, R166, R393), execution, the system commands (R167, R168), and what a warm restart runs again (R161, R586).
-/
namespace Sys2Proof.Machine

/-! Packets (R141, R144, R146). -/

/-- Opcode of a Profile L opcode (R146). -/
def opOfL (l : Nat) : Nat := l / 16 * 256 + l % 16

/-- A command packet of a dialect; none where its check value fails or it is too short to hold one (step 1). A packet
whose structure fails carries the mark of step 2. -/
def parseCmd (profL : Bool) (path : Path) (b : Bytes) : Option CmdPkt :=
  let n := b.length
  if profL then
    let body := b.take (n - 2)
    let pl := numAt b 2 2
    if n < 18 ∨ crcP2 body ≠ u16At b (n - 2) then none
    else
      some { profL := true, path := path, auth := true, ackReq := (byteAt b 1).getLsbD 4, expert := (byteAt b 1).getLsbD 5,
             opcode := BitVec.ofNat 16 (opOfL (numAt b 0 1)), tag := 0, seq := u32At b 4, slot := BitVec.ofNat 8 (numAt b 1 1 % 16),
             params := sliceB b 8 pl, covered := body.take (n - 10), mac := sliceB b (n - 10) 8,
             bad := if n ≠ 18 + pl ∨ 4132 < pl ∨ 64 ≤ numAt b 1 1 then some 0xFFFF else none }
  else
    let body := b.take (n - 4)
    let pl := numAt b 6 2
    let auth := (byteAt b 1).getLsbD 0
    let m := if auth then 8 else 0
    if n < 20 ∨ crcP1 body ≠ u32At b (n - 4) then none
    else
      some { profL := false, path := path, auth := auth, ackReq := (byteAt b 1).getLsbD 1, expert := (byteAt b 1).getLsbD 2,
             opcode := u16At b 2, tag := u16At b 4, seq := u32At b 8, slot := byteAt b 12,
             params := sliceB b 16 pl, covered := body.take (n - 4 - m), mac := sliceB b (n - 4 - m) m,
             bad := if n ≠ 20 + pl + m ∨ 4132 < pl ∨ byteAt b 0 ≠ 0x11 ∨ 8 ≤ numAt b 1 1 ∨ (auth = false ∧ byteAt b 12 ≠ 0) ∨ 16 ≤ numAt b 12 1 ∨
                        numAt b 13 3 ≠ 0 then some 0xFFFF else none }

/-- The dialect of a path is that of the Profile in force (R145); the service SPI port always carries Profile A (Service SPI port). -/
def State.dialectL (s : State) (path : Path) : Bool := s.sys.profileL && decide (path ≠ .spi)

/-- The packet of a command row, in the dialect of its path. -/
def pktOf (op : Nat) (h : CmdHdr) (ps : Bytes) (s : State) : CmdPkt :=
  let profL := s.dialectL h.path
  let auth := h.auth || profL
  let slot := if auth then h.slot.val else 0
  let head : Bytes :=
    if profL then
      [BitVec.ofNat 8 (lOpcode (BitVec.ofNat 16 op)), BitVec.ofNat 8 (slot + bit01 h.ackReq * 16 + bit01 h.expert * 32)] ++ natLe 2 ps.length ++
        leOf 4 h.seq
    else
      [0x11, BitVec.ofNat 8 (bit01 auth + bit01 h.ackReq * 2 + bit01 h.expert * 4)] ++ natLe 2 op ++ leOf 2 h.tag ++ natLe 2 ps.length ++ leOf 4 h.seq ++
        [BitVec.ofNat 8 slot, 0, 0, 0]
  { profL := profL, path := h.path, auth := auth, ackReq := h.ackReq, expert := h.expert, opcode := BitVec.ofNat 16 op,
    tag := if profL then 0 else h.tag, seq := h.seq, slot := BitVec.ofNat 8 slot, params := ps, covered := head ++ ps,
    mac := if auth then h.mac else [], bad := if 4132 < ps.length then some 0xFFFF else none }

/-! The opcode tables (R167 to R175). -/

/-- State sets and named states of the opcode tables. -/
inductive StSet where
  | any | run | ready | lightOff | lit | still | lightOn | gongEnter | gong | readyLit | fw | unlock
  deriving DecidableEq, Repr

structure OpRow where
  op : Nat
  states : StSet
  expert : Bool
  j : Bool
  l : Bool
  deriving DecidableEq, Repr

/-- A row of the opcode tables; none where the opcode is unknown. -/
def opRow (op : Nat) : Option OpRow :=
  let row (st : StSet) (e j l : Bool) : Option OpRow := some ⟨op, st, e, j, l⟩
  match op with
  | 0x0000 => row .any false false false
  | 0x0001 => row .any false false false
  | 0x0002 => row .any false false false
  | 0x0003 => row .run false true false
  | 0x0004 => row .run false true false
  | 0x0005 => row .run false true false
  | 0x0100 => row .lightOn false true true
  | 0x0101 => row .lightOff false true false
  | 0x0102 => row .lit false true true
  | 0x0103 => row .still false true true
  | 0x0104 => row .gongEnter false true false
  | 0x0105 => row .gong false true true
  | 0x0200 => row .run false true false
  | 0x0201 => row .run false true false
  | 0x0202 => row .run false true false
  | 0x0203 => row .run false true false
  | 0x0204 => row .run false true false
  | 0x0205 => row .run false true false
  | 0x0206 => row .run false true false
  | 0x0207 => row .run false true false
  | 0x0208 => row .run false false false
  | 0x0300 => row .run false false false
  | 0x0301 => row .run false true false
  | 0x0302 => row .ready false true false
  | 0x0303 => row .ready false true false
  | 0x0304 => row .run false false false
  | 0x0400 => row .run false true true
  | 0x0401 => row .run false false false
  | 0x0402 => row .run true true false
  | 0x0403 => row .run false true true
  | 0x0500 => row .run false true false
  | 0x0501 => row .run false false false
  | 0x0502 => row .run false true true
  | 0x0600 => row .any false false false
  | 0x0601 => row .run false true false
  | 0x0602 => row .any false false false
  | 0x0603 => row .any false false false
  | 0x0604 => row .run false true false
  | 0x0605 => row .run false false false
  | 0x0606 => row .readyLit false true false
  | 0x0700 => row .run true true false
  | 0x0701 => row .run false false true
  | 0x0702 => row .run false false false
  | 0x0800 => row .any true false false
  | 0x0801 => row .run true true false
  | 0x0802 => row .run true false false
  | 0x0803 => row .run true true false
  | 0x0900 => row .ready false true false
  | 0x0901 => row .ready false true false
  | 0x0902 => row .fw false false false
  | 0x0903 => row .fw false true false
  | 0x0904 => row .unlock false true false
  | _ => none

/-- RECOVERY: no image runs, and the boot ROM serves the service SPI port alone (R69). A GONG entered there on LIMP_N or auto-light
shows the limp beam and leaves RECOVERY in force (log entry 83). -/
def State.recovery (s : State) : Bool := decide (s.sys.bootPhase = 14)

/-- The state allows an opcode (R149, R166, R169 to R175), with what JTAG refuses (R581) and layer commands in GONG (R166). -/
def stateAllows (r : OpRow) (p : CmdPkt) (s : State) : Bool :=
  let st := s.sys.st
  let set := if s.recovery then st.any && (r.states == .any || (r.states == .fw && decide (p.path = .spi))) else match r.states with
    | .any => st.any
    | .run => st.run
    | .ready => decide (st = .ready)
    | .lightOff => st.lights || decide (st = .service)
    | .lit => decide (st = .lit)
    | .still => decide (st = .still)
    | .lightOn => decide (st = .ready) || (decide (st = .service) && !s.mal.scanning)
    | .gongEnter => decide (st = .ready) || st.lights || decide (st = .gong) || decide (st = .service)
    | .gong => decide (st = .gong)
    | .readyLit => decide (st = .ready) || st.lights
    | .fw => decide (st = .ready) && decide (p.path ≠ .spi)
    | .unlock => decide (st = .ready) && s.sys.testmode
  let jtag := (s.sys.tap == .extest || s.sys.tap == .clamp) && (r.op == 0x100 || r.op == 0x105 || r.op == 0x904)
  let layer := decide (r.op / 256 = 2) && decide (st = .gong) && s.pdIs 7 .off
  set && !jtag && !layer

/-- Opcodes accepted over CAN FD (R393). -/
def canOpcode (op : Nat) : Bool :=
  op == 0x000 || op == 0x001 || op == 0x002 || op == 0x003 || op == 0x100 || op == 0x101 || op == 0x104 || op == 0x105 || op == 0x304 || op == 0x600 ||
  op == 0x601 || op == 0x501

/-! The system commands (R7, R76, R78, R167, R168). -/

def bodyNop : Body := fun c s => if c.pkt.params.length ≠ 0 then no badLen s else did s

def bodyPing : Body := fun c s =>
  if 64 < c.pkt.params.length then no badLen s else didData (c.pkt.params ++ natLe 8 s.now ++ leOf 2 s.epoch) s

/-- The GET_INFO record. -/
def infoRecord (s : State) : Bytes :=
  natLe 2 0x1536 ++ [BitVec.ofNat 8 (bit01 s.sys.ordL1), Config.siliconRev] ++ leOf 4 s.release ++ serialBytes ++ leOf 4 s.nvm.cur.calGen ++
  leOf 2 s.nvm.cur.bootCount ++ [BitVec.ofNat 8 (bit01 s.sys.profileL), 0] ++ leOf 4 s.clap.ledgerSeq ++ zeros 4

def bodyGetInfo : Body := fun c s => if c.pkt.params.length ≠ 0 then no badLen s else didData (infoRecord s) s

def bodyResetWarm : Body := fun c s => if c.pkt.params.length ≠ 0 then no badLen s else (s, .done ok .warm)

def bodyEnterStandby : Body := fun c s => if c.pkt.params.length ≠ 0 then no badLen s else (s, .done ok .standby)

def bodySetProfile : Body := fun c s =>
  if c.pkt.params.length ≠ 1 then no badLen s
  else if 1 < numAt c.pkt.params 0 1 then no (badParam 0) s
  else (s, .done ok (.profile (decide (numAt c.pkt.params 0 1 = 1))))

/-- Steps 10 and 11 of an opcode. -/
def opBody (op : Nat) : Body :=
  match op with
  | 0x0000 => bodyNop
  | 0x0001 => bodyPing
  | 0x0002 => bodyGetInfo
  | 0x0003 => bodyResetWarm
  | 0x0004 => bodyEnterStandby
  | 0x0005 => bodySetProfile
  | 0x0100 => bodyLightOn
  | 0x0101 => bodyLightOff
  | 0x0102 => bodyStillEnter
  | 0x0103 => bodyStillExit
  | 0x0104 => bodyGongEnter
  | 0x0105 => bodyGongExit
  | 0x0200 => bodyBufAlloc
  | 0x0201 => bodyBufFree
  | 0x0202 => bodyLayerSet
  | 0x0203 => bodyLayerGroup
  | 0x0204 => bodyFenceArm
  | 0x0205 => bodyFenceSignal
  | 0x0206 => bodyCommit
  | 0x0207 => bodyWritebackSet
  | 0x0208 => bodyFrameRecordGet
  | 0x0300 => bodyFloorGet
  | 0x0301 => bodyKeepoutSet
  | 0x0302 => bodySafetyPolicySet
  | 0x0303 => bodyDegradeLimitSet
  | 0x0304 => bodySafetyStatus
  | 0x0400 => bodyCalRun
  | 0x0401 => bodyCalQuery
  | 0x0402 => bodyTrimDeltaWrite
  | 0x0403 => bodyRestoreFactory
  | 0x0500 => bodyTimeConfig
  | 0x0501 => bodyTimeQuery
  | 0x0502 => bodyScheduleAt
  | 0x0600 => bodyFaultQuery
  | 0x0601 => bodyFaultClear
  | 0x0602 => bodyLogRead
  | 0x0603 => bodyDumpRead
  | 0x0604 => bodyDumpClear
  | 0x0605 => bodyRollMapRead
  | 0x0606 => bodyHkSeqSet
  | 0x0700 => bodyCvConfig
  | 0x0701 => bodyCvScan
  | 0x0702 => bodyCvResult
  | 0x0800 => bodyRegRead
  | 0x0801 => bodyRegWrite
  | 0x0802 => bodyTableRead
  | 0x0803 => bodyTableWrite
  | 0x0900 => bodyKeyInstall
  | 0x0901 => bodyKeyRetire
  | 0x0902 => bodyFwStage
  | 0x0903 => bodyFwActivate
  | 0x0904 => bodyServiceUnlock
  | _ => fun _ s => no (refuse0 0x10) s

/-! Steps 7 to 11 (R150, R155, R156). -/

/-- Steps 7 to 9: the refusal, if any. -/
def check79 (c : Ctx) (s : State) : Option Res :=
  let p := c.pkt
  match opRow p.opcode.toNat with
  | none => some (refuse0 0x10)
  | some r =>
    if p.path = .can ∧ canOpcode r.op = false then some (refuse0 0x10)
    else if r.expert && !p.expert then some (accessViol 0xFFFFFFFF)
    else if !stateAllows r p s then some (refuse0 0x12)
    else if p.path = .can ∧ r.op = 0x600 ∧ numAt p.params 0 1 = 0xFF then some (badParam 0)
    else none

/-- PENDING of a long command that asked for it (R156). -/
def sendPending (c : Ctx) (s : State) : State :=
  if c.pkt.ackReq && !c.replayed && c.outer.isNone then sendReply c.pkt c.pkt.path 1 0xFFFF [] false .none s else s

/-- What follows the final reply. A RESET_WARM completes before its restart, and its reply is sent after it (R161). -/
def afterReply (p : Post) (s : State) : State :=
  match p with
  | .none => s
  | .standby => standbyBegin s
  | .warm => warmBegin 3 s
  | .cold => s.onSys (fun y => { y with coldDue := true })
  | .profile l => s.onSys (fun y => { y with profileL := l })

/-- The completion record of RESET_WARM, without its reply. -/
def completeSilent (c : Ctx) (s : State) : State :=
  match c.ledger with
  | some l => modEntry l (fun e => { e with state := 1, status := 0, detail := 0xFFFF, data := [], firstDue := true }) s
  | none => s

/-- A command has been executed: its answer goes out, or it stays in its unit. -/
def conclude (c : Ctx) (a : Ans) (s : State) : State :=
  let long := match opRow c.pkt.opcode.toNat with
    | some r => r.l
    | none => false
  match a with
  | .done r p =>
    if p = .warm then afterReply p (completeSilent c s)
    else
      let s := if long && decide (r.status < 0x10) then sendPending c s else s
      afterReply p (finish c r s)
  | .later k =>
    let s := sendPending c (s.onClap (fun x => { x with long := x.long ++ [⟨c, k⟩] }))
    (match k, c.ledger with
    | .schedule _ _ _ _ true, some l => enqueueDue l true s
    | _, _ => s)
  | .held k => s.onClap (fun x => { x with held := some ⟨c, k⟩ })

/-- The context that a body sees: expert values need a checked MAC (R165, R533). -/
def bodyCtx (c : Ctx) : Ctx := { c with pkt := { c.pkt with expert := c.pkt.expert && c.pkt.auth } }

/-- Steps 7 to 11. -/
def run7 (c : Ctx) (s : State) : State :=
  match check79 c s with
  | some r => finish c r s
  | none =>
    let r := opBody c.pkt.opcode.toNat (bodyCtx c) s
    conclude c r.2 r.1

/-! Steps 2 to 6 (R150 to R153, R155, R160, R471, R533 to R536). -/

/-- A refusal before step 7: no Ledger entry, no sequence number used, and nothing kept over a warm restart (R586). -/
def turnAway (p : CmdPkt) (status : Nat) (s : State) : State :=
  let r := refuse0 status
  sendReply p p.path r.status r.detail r.data false .none s

/-- A packet lies in the same sequence space as another. -/
def sameSpace (a b : CmdPkt) : Bool := a.auth == b.auth && (!a.auth || a.slot == b.slot)

/-- The last number accepted in a packet's space. -/
def State.lastSeq (s : State) (p : CmdPkt) : BitVec 32 := if p.auth then (s.sec.slots.getD p.slot.toNat default).last else s.clap.seqU

def takeSeq (p : CmdPkt) (s : State) : State :=
  if p.auth then onSlot p.slot.toNat (fun k => { k with last := p.seq }) s else s.onClap (fun c => { c with seqU := p.seq })

/-- A number not greater than the last accepted (R152). DESIGN CHOICE (log entry 97): of several Ledger entries with the same space and
number (space U across cold resets, a slot with a new key) the newest is compared. -/
def seqRefused (p : CmdPkt) (s : State) : State :=
  match s.clap.ledger.reverse.find? (fun e => sameSpace e.pkt p && e.pkt.seq == p.seq) with
  | some e =>
    if cmdCrc e.pkt = cmdCrc p then
      (if e.state = 0 then sendReply p p.path 1 0xFFFF [] true .none s
      else sendReply p p.path (if e.status = 0 then 2 else e.status) e.detail e.data true (.reply e.lseq) s)
    else turnAway p 0x16 (violation p 0x16 0xFFFFFFFF (record bCLAP 4 noUnit s))
  | none => turnAway p 0x16 (record bCLAP 4 noUnit s)

/-- A calibrated unit that a running command occupies. -/
def State.calBusy (s : State) (u : Nat) : Bool :=
  s.clap.long.any (fun l => match l.kind with
    | .restore m => m.getLsbD u
    | k => (match k.cal with
      | some (v, _) => decide (v = u)
      | none => false))

/-- The unit that a command needs runs a long command, or the commit queue is full (R155, R199, R471). -/
def State.unitBusy (s : State) (p : CmdPkt) : Bool :=
  let op := p.opcode.toNat
  let tab := numAt p.params 0 1
  if op = 0x104 then false
  else if op / 256 = 1 then s.clap.long.any (fun l => l.kind.isLight)
  else if op = 0x400 then s.calBusy tab
  else if op = 0x403 then (List.range 8).any (fun u => (byteAt p.params 0).getLsbD u && s.calBusy u)
  else if op = 0x402 then s.calBusy 4
  else if op = 0x803 then ((tab == 3 || tab == 4) && s.calBusy 4) || (tab == 5 && s.calBusy 3)
  else if op = 0x701 then s.clap.long.any (fun l => decide (l.kind = .scan))
  else if op = 0x206 then decide (4 ≤ s.store.queue.length)
  else false

/-- Bytes that an entry takes in the ring (R160, R164). -/
def entrySize (p : CmdPkt) : Nat := 96 + pad32 (pktBytes p).length

/-- An entry finds room: nothing that is not complete is overwritten, and the reserve stays (R160). -/
def State.ledgerRoom (s : State) (p : CmdPkt) : Bool :=
  let op := p.opcode.toNat
  let live := s.clap.ledger.dropWhile (fun e => e.state ≠ 0)
  let reserve := if op = 0x104 ∨ op = 0x004 then 0 else 8512
  decide (sumL (live.map (fun e => entrySize e.pkt)) + entrySize p + reserve ≤ 262144)

/-- The oldest entries give way to the newest. -/
def trimLedger : List LedgerEntry → List LedgerEntry
  | [] => []
  | e :: t => if sumL ((e :: t).map (fun x => entrySize x.pkt)) ≤ 262144 then e :: t else trimLedger t

/-- A journalled command is written to the Ledger (R158, R164): its number. -/
def journal (p : CmdPkt) (s : State) : State × Option Word :=
  let n := s.clap.ledgerSeq + 1
  let e : LedgerEntry := { lseq := n, pkt := p, state := 0, status := 1, detail := 0xFFFF, data := [], tAccept := BitVec.ofNat 64 s.now,
                           epoch := s.epoch, restarts := 0, firstDue := false }
  ((touchLedger s).onClap (fun c => { c with ledgerSeq := n, ledger := trimLedger (c.ledger ++ [e]) }), some n)

/-- A command that passes step 6: its number is used, it is journalled where its row says so, and steps 7 to 11 follow. -/
def accept (p : CmdPkt) (s : State) : State :=
  let s := takeSeq p s
  let j := match opRow p.opcode.toNat with
    | some r => r.j
    | none => false
  if j then
    let r := journal p s
    run7 ⟨p, r.2, false, none⟩ r.1
  else run7 ⟨p, none, false, none⟩ s

/-- Steps 3 and 4 refuse: the status (R533 to R536). -/
def State.authRefused (s : State) (p : CmdPkt) : Option Nat :=
  let op := p.opcode.toNat
  let mac := p.auth || s.mustAuth op
  if s.lockout && mac && !(decide (op = 0x104) || decide (op = 0x004)) then some 0x1A
  else if mac && !(p.auth && s.authOk p) then some 0x15
  else none

/-- Steps 2 to 11 of one command taken from the queue. -/
def process (p : CmdPkt) (s : State) : State :=
  if p.bad.isSome then turnAway p 0x11 s
  else
    match s.authRefused p with
    | some 0x15 => turnAway p 0x15 (authFail p.path 0 p.slot.toNat (record bCLAP 2 noUnit s))
    | some st => turnAway p st s
    | none =>
      if p.seq.toNat ≤ (s.lastSeq p).toNat then seqRefused p s
      else
        let j := match opRow p.opcode.toNat with
          | some r => r.j
          | none => false
        if s.unitBusy p || (j && !s.ledgerRoom p) then turnAway p 0x17 s
        else accept p s

/-! The queue (R154, R155). -/

/-- A SCHEDULE_AT whose target has been reached: its embedded command runs steps 7 to 11 (R173, R454). -/
def runDue (arrived : Nat) (lseq : Word) (s : State) : State :=
  match s.clap.long.find? (fun l => l.ctx.ledger = some lseq) with
  | some l =>
    (match l.kind with
    | .schedule _ _ op ps late =>
      let late := late || decide (arrived + 100000 < s.now)
      run7 { l.ctx with pkt := { l.ctx.pkt with opcode := op, params := ps }, outer := some (BitVec.ofNat 64 s.now, late) } (dropLong l s)
    | _ => s)
  | none => s

/-- The Clapper takes no command now: it restarts, the command before has not passed step 11, or a cold reset is due. -/
def State.clapWaits (s : State) : Bool := s.clap.restarting || s.clap.held.isSome || s.sys.coldDue

/-- The Clapper takes one command from the queue: the credits that its packet took on the link return (R122). -/
def drainOne (s : State) : State :=
  if s.clapWaits then s else
    match s.clap.queue with
    | [] => s
    | q :: rest =>
      let s := s.onClap (fun c => { c with queue := rest })
      let s := if q.units = 0 then s else returnCredits 0 q.units s
      match q.what with
      | .pkt p => process p s
      | .due l => runDue q.t l s

/-- The Clapper takes what it can: every packet that waits, every SCHEDULE_AT that is due or comes due meanwhile. -/
def drain (s : State) : State := iter (2 * s.clap.queue.length + s.clap.long.length + 1) drainOne s

def pathRank : Path → Nat := pathCode


/-- A command enters the queue, with the pool 0 credits that its packet holds. -/
def arrive (p : CmdPkt) (units : Nat) (s : State) : State :=
  s.onClap (fun c => { c with queue := insertBy qLt ⟨s.now, pathRank p.path, .pkt p, units⟩ c.queue })

/-! Step 1 (R150, R507). -/

/-- The check-value unit of a path has checked a command packet. -/
def cvInner (path : Path) (good : Bool) (s : State) : State :=
  if path = .envex then
    (if good then s else (cvEvent 0 (fun x => { x with b := satAdd max32 x.b 1 }) s).bump 0xE0030 0 32 1)
  else cvCheck 2 good s

/-- A command packet has arrived: it enters the queue, or its check value fails and the credits it took return at once. -/
def rxCmd (path : Path) (units : Nat) (b : Bytes) (s : State) : State :=
  match parseCmd (s.dialectL path) path b with
  | some p => arrive p units (cvInner path true s)
  | none =>
    let s := if units = 0 then s else returnCredits 0 units s
    let s := record bCLAP 0 noUnit (cvInner path false s)
    postEvent bCLAP ((s.flts bCLAP).sev 0) 8 ([BitVec.ofNat 8 (pathCode path), 0, 0, 0] ++ padTo 16 (b.take 16)) s

/-- A packet on the Envex link goes to the block of its class (R110). -/
def rxAny (raw : Bytes) (s : State) : State :=
  match linkRx raw s with
  | (s, some (1, pl, _, _)) => rxCmd .envex (creditsOf pl.length) pl s
  | (s, some (3, pl, _, q)) => wrEvent pl q s
  | (s, some (4, pl, _, q)) => fenEvent pl q s
  | (s, some (5, pl, _, _)) => smsgEvent pl true s
  | (s, some (6, pl, replay, _)) => tsyMsg 1 pl replay s
  | (s, _) => s

/-- A frame on CAN FD. -/
def rxCan (id : Nat) (data : Bytes) (s : State) : State :=
  match canRx id data s with
  | (s, some b) => rxCmd .can 0 b s
  | (s, none) => s

/-- A SPI transaction with WRITE_PKT. -/
def rxSpi (mosi : Bytes) (s : State) : State :=
  match spiWrite mosi s with
  | (s, some b) => rxCmd .spi 0 b s
  | (s, none) => s

/-! After a warm restart (R161, R420, R585, R586). -/

/-- An entry of the Ledger tail that is not replayed: INTERNAL, and LEDGER_ERR (R161, R420). -/
def ledgerErr (e : LedgerEntry) (s : State) : State :=
  let s := modEntry e.lseq (fun x => { x with state := 0, firstDue := false }) s
  finish ⟨e.pkt, some e.lseq, true, none⟩ (refuse0 0x3F) (record bCLAP 8 (withVal e.lseq.toNat) s)

/-- One entry of the Ledger tail; `ue` are the entries whose records show an uncorrectable error (R161). A long command whose action
is still under way in its unit runs on. -/
def replayEntry (ue : List Word) (s : State) (e : LedgerEntry) : State :=
  if 2 ≤ e.state then s
  else if s.clap.long.any (fun l => decide (l.ctx.ledger = some e.lseq)) || (s.clap.held.map (·.ctx.ledger)) == some (some e.lseq) then s
  else if ue.contains e.lseq || (decide (e.state = 0) && decide (2 ≤ e.restarts)) then ledgerErr e s
  else if e.state = 0 then run7 ⟨e.pkt, some e.lseq, true, none⟩ s
  else if e.state = 1 then
    let s := modEntry e.lseq (fun x => { x with firstDue := false }) s
    sendReply e.pkt e.pkt.path (if e.firstDue = false ∧ e.status = 0 then 2 else e.status) e.detail e.data (!e.firstDue) (.reply e.lseq) s
  else s

/-- WARM_RESTART. -/
def warmEnd (ue : List Word) (s : State) : State :=
  if !s.clap.restarting then s else
    let c := s.clap
    let s := mendFloor (s.freeNext.onClap (fun c => { c with restarting := false, evtDiscarded := 0, dumpDone := none, retained := [] }))
    let s := postEvent bCLAP 0 9 (BitVec.ofNat 8 c.cause.toNat :: natLe 2 (Nat.min 65535 c.evtDiscarded)) s
    let s := match c.dumpDone with
      | some k => postEvent bCLAP 0 11 [BitVec.ofNat 8 k] s
      | none => s
    let s := c.ledger.foldl (replayEntry ue) s
    let s := c.retained.foldl (fun s x => run7 x s) s
    if s.link.heldCredits = 0 then s
    else
      sendCredit 0 (s.onLink (fun l => { l with ownLimit := modAt l.ownLimit 0 (· + l.heldCredits), heldCredits := 0 }))

/-! What every command row ends with. -/

/-- The Clapper takes what waits, and what has become free or complete in the units is taken up. -/
def settleNow (s : State) : State := tellScan (calPoll (sweepBufs (drain s)))

/-- Settle; a cold reset that an FW_ACTIVATE asks for finds what `o` says (R542). -/
def settleWith (o : State → BootObs) (s : State) : State :=
  let s := settleNow s
  if s.sys.coldDue then activateReset (o s) s else s

def settle (s : State) : State := settleWith (fun s => Config.bootObs s.freeIdx) s

/-- The path of a command row carries traffic. -/
def State.hears (s : State) (p : Path) : Bool :=
  match p with
  | .envex => decide (s.link.ls = .active)
  | .can => s.canOn
  | .spi => s.spiReady
  | .sched => false

/-- A command row: its packet has passed step 1 on its path. -/
def hostCmd (op : Nat) (h : CmdHdr) (ps : Bytes) (s : State) : State :=
  if s.hears h.path then settle (arrive (pktOf op h ps s) 0 s) else s

/-- A register-write row: a REG_WRITE of one register (log entry 45). -/
def hostReg (a : Nat) (v : Word) (h : CmdHdr) (s : State) : State :=
  hostCmd 0x801 h (natLe 4 a ++ [1, 0, 0, 0] ++ leOf 4 v) s

end Sys2Proof.Machine
end

