-- ==== Sys2Proof/Machine/CmdDiag.lean ====
section
/-!
DEFINITION. Diagnostic, check-value, expert, key and firmware commands (R174, R175): the meaning of each row, on everything but the queue of waiting commands.
-/
namespace Sys2Proof.Machine

/-- FW_ACTIVATE: the cold reset that follows the reply finds what `o` says (R542). -/
def hostActivate (h : CmdHdr) (ps : Bytes) (o : BootObs) (s : State) : State :=
  if s.hears h.path then settleWith (fun _ => o) (arrive (pktOf 0x0903 h ps s) 0 s) else s

/-- FAULT_QUERY (R415). -/
def execFaultQuery (h : CmdHdr) (ps : Bytes) (s : State) : Host.Outcome State Fault Refusal := .next (hostCmd 0x0600 h ps s)

/-- FAULT_CLEAR (R416). -/
def execFaultClear (h : CmdHdr) (ps : Bytes) (s : State) : Host.Outcome State Fault Refusal := .next (hostCmd 0x0601 h ps s)

/-- LOG_READ (R423). -/
def execLogRead (h : CmdHdr) (ps : Bytes) (s : State) : Host.Outcome State Fault Refusal := .next (hostCmd 0x0602 h ps s)

/-- DUMP_READ (R427). -/
def execDumpRead (h : CmdHdr) (ps : Bytes) (s : State) : Host.Outcome State Fault Refusal := .next (hostCmd 0x0603 h ps s)

/-- DUMP_CLEAR (R427). -/
def execDumpClear (h : CmdHdr) (ps : Bytes) (s : State) : Host.Outcome State Fault Refusal := .next (hostCmd 0x0604 h ps s)

/-- ROLL_MAP_READ (R334). -/
def execRollMapRead (h : CmdHdr) (ps : Bytes) (s : State) : Host.Outcome State Fault Refusal := .next (hostCmd 0x0605 h ps s)

/-- HK_SEQ_SET (R348). -/
def execHkSeqSet (h : CmdHdr) (ps : Bytes) (s : State) : Host.Outcome State Fault Refusal := .next (hostCmd 0x0606 h ps s)

/-- CV_CONFIG (R519). -/
def execCvConfig (h : CmdHdr) (ps : Bytes) (s : State) : Host.Outcome State Fault Refusal := .next (hostCmd 0x0700 h ps s)

/-- CV_SCAN (R515). -/
def execCvScan (h : CmdHdr) (ps : Bytes) (s : State) : Host.Outcome State Fault Refusal := .next (hostCmd 0x0701 h ps s)

/-- CV_RESULT (R520). -/
def execCvResult (h : CmdHdr) (ps : Bytes) (s : State) : Host.Outcome State Fault Refusal := .next (hostCmd 0x0702 h ps s)

/-- REG_READ (R549). -/
def execRegRead (h : CmdHdr) (ps : Bytes) (s : State) : Host.Outcome State Fault Refusal := .next (hostCmd 0x0800 h ps s)

/-- REG_WRITE (R584). -/
def execRegWrite (h : CmdHdr) (ps : Bytes) (s : State) : Host.Outcome State Fault Refusal := .next (hostCmd 0x0801 h ps s)

/-- TABLE_READ (R553). -/
def execTableRead (h : CmdHdr) (ps : Bytes) (s : State) : Host.Outcome State Fault Refusal := .next (hostCmd 0x0802 h ps s)

/-- TABLE_WRITE (R588). -/
def execTableWrite (h : CmdHdr) (ps : Bytes) (s : State) : Host.Outcome State Fault Refusal := .next (hostCmd 0x0803 h ps s)

/-- KEY_INSTALL (R526). -/
def execKeyInstall (h : CmdHdr) (ps : Bytes) (s : State) : Host.Outcome State Fault Refusal := .next (hostCmd 0x0900 h ps s)

/-- KEY_RETIRE (R527). -/
def execKeyRetire (h : CmdHdr) (ps : Bytes) (s : State) : Host.Outcome State Fault Refusal := .next (hostCmd 0x0901 h ps s)

/-- FW_STAGE (R541). -/
def execFwStage (h : CmdHdr) (ps : Bytes) (s : State) : Host.Outcome State Fault Refusal := .next (hostCmd 0x0902 h ps s)

/-- FW_ACTIVATE (R542). -/
def execFwActivate (h : CmdHdr) (ps : Bytes) (o : BootObs) (s : State) : Host.Outcome State Fault Refusal := .next (hostActivate h ps o s)

/-- SERVICE_UNLOCK (R543). -/
def execServiceUnlock (h : CmdHdr) (ps : Bytes) (s : State) : Host.Outcome State Fault Refusal := .next (hostCmd 0x0904 h ps s)

end Sys2Proof.Machine
end

