-- ==== Sys2Proof/Machine/CmdLayer.lean ====
section
/-!
DEFINITION. Layer commands (R170): the meaning of each row, on everything but the queue of waiting commands.
-/
namespace Sys2Proof.Machine

/-- BUF_ALLOC (R183). -/
def execBufAlloc (h : CmdHdr) (ps : Bytes) (s : State) : Host.Outcome State Fault Refusal := .next (hostCmd 0x0200 h ps s)

/-- BUF_FREE (R210). -/
def execBufFree (h : CmdHdr) (ps : Bytes) (s : State) : Host.Outcome State Fault Refusal := .next (hostCmd 0x0201 h ps s)

/-- LAYER_SET (R194). -/
def execLayerSet (h : CmdHdr) (ps : Bytes) (s : State) : Host.Outcome State Fault Refusal := .next (hostCmd 0x0202 h ps s)

/-- LAYER_GROUP (R195). -/
def execLayerGroup (h : CmdHdr) (ps : Bytes) (s : State) : Host.Outcome State Fault Refusal := .next (hostCmd 0x0203 h ps s)

/-- FENCE_ARM (R196). -/
def execFenceArm (h : CmdHdr) (ps : Bytes) (s : State) : Host.Outcome State Fault Refusal := .next (hostCmd 0x0204 h ps s)

/-- FENCE_SIGNAL (R197). -/
def execFenceSignal (h : CmdHdr) (ps : Bytes) (s : State) : Host.Outcome State Fault Refusal := .next (hostCmd 0x0205 h ps s)

/-- COMMIT (R200). -/
def execCommit (h : CmdHdr) (ps : Bytes) (s : State) : Host.Outcome State Fault Refusal := .next (hostCmd 0x0206 h ps s)

/-- WRITEBACK_SET (R243). -/
def execWritebackSet (h : CmdHdr) (ps : Bytes) (s : State) : Host.Outcome State Fault Refusal := .next (hostCmd 0x0207 h ps s)

/-- FRAME_RECORD_GET (R214). -/
def execFrameRecordGet (h : CmdHdr) (ps : Bytes) (s : State) : Host.Outcome State Fault Refusal := .next (hostCmd 0x0208 h ps s)

end Sys2Proof.Machine
end

