-- ==== Sys2Proof/Machine/CmdReg.lean ====
section
/-!
DEFINITION. Register writes with a behaviour of their own (R549, R584): the meaning of each row, on everything but the queue of waiting commands.
-/
namespace Sys2Proof.Machine

/-- A word of FLT_INJECT with go set: source, stimulus, parameter (R409, R428, R429). -/
def injectWord (src param stim : Nat) : Word := BitVec.ofNat 32 (src + 32 * stim + 64 + 65536 * param)

/-- LINK_CFG_ENABLE (R135). -/
def execLinkCfgEnable (h : CmdHdr) (v : Word) (s : State) : Host.Outcome State Fault Refusal := .next (hostReg 0x30000 v h s)

/-- LINK_CTRL_RETRAIN (R136). -/
def execLinkCtrlRetrain (h : CmdHdr) (s : State) : Host.Outcome State Fault Refusal := .next (hostReg 0x30004 1 h s)

/-- LINK_CTRL_RECOVER (R136). -/
def execLinkCtrlRecover (h : CmdHdr) (s : State) : Host.Outcome State Fault Refusal := .next (hostReg 0x30004 2 h s)

/-- LINK_CTRL_UNFENCE (R131). -/
def execLinkCtrlUnfence (h : CmdHdr) (lanes : BitVec 4) (s : State) : Host.Outcome State Fault Refusal := .next (hostReg 0x30004 (lanes.setWidth 32 <<< 2) h s)

/-- CARL_CTRL_UNFENCE (R220). -/
def execCarlCtrlUnfence (h : CmdHdr) (v : Word) (s : State) : Host.Outcome State Fault Refusal := .next (hostReg 0x60000 v h s)

/-- MALLET_CTRL_UNFENCE (R308). -/
def execMalletCtrlUnfence (h : CmdHdr) (v : Word) (s : State) : Host.Outcome State Fault Refusal := .next (hostReg 0x90000 v h s)

/-- MALLET_CUT_REMOVE (R312). -/
def execMalletCutRemove (h : CmdHdr) (seg : Fin 8) (w : Fin 48) (v : Word) (s : State) : Host.Outcome State Fault Refusal := .next (hostReg (0x90400 + 0xC0 * seg + 4 * w) v h s)

/-- SENSE_SLC_UNFENCE (R340). -/
def execSenseSlcUnfence (h : CmdHdr) (v : Word) (s : State) : Host.Outcome State Fault Refusal := .next (hostReg 0xA0004 v h s)

/-- HK_CTRL_APPLY (R348). -/
def execHkCtrlApply (h : CmdHdr) (v : Word) (s : State) : Host.Outcome State Fault Refusal := .next (hostReg 0xB0000 v h s)

/-- TABOR_CTRL_APPLY (R439). -/
def execTaborCtrlApply (h : CmdHdr) (n : Fin 4) (s : State) : Host.Outcome State Fault Refusal := .next (hostReg (0x50028 + 0x40 * n) 1 h s)

/-- PWR_APPLY_VLED (R499). -/
def execPwrApplyVled (h : CmdHdr) (s : State) : Host.Outcome State Fault Refusal := .next (hostReg 0xC0020 1 h s)

/-- PWR_APPLY_VCORE (R499). -/
def execPwrApplyVcore (h : CmdHdr) (s : State) : Host.Outcome State Fault Refusal := .next (hostReg 0xC0020 2 h s)

/-- PWR_UNFENCE_VLED (R493). -/
def execPwrUnfenceVled (h : CmdHdr) (s : State) : Host.Outcome State Fault Refusal := .next (hostReg 0xC0020 4 h s)

/-- FLT_STAT_CLEAR (R416). -/
def execFltStatClear (h : CmdHdr) (blk : Fin 16) (mask : Word) (s : State) : Host.Outcome State Fault Refusal := .next (hostReg (0x10000 * blk + 0xFF00) mask h s)

/-- FLT_INJECT_RECORD (R428). -/
def execFltInjectRecord (h : CmdHdr) (blk : Fin 16) (src : Fin 32) (s : State) : Host.Outcome State Fault Refusal := .next (hostReg (0x10000 * blk + 0xFF28) (injectWord src 0 0) h s)

/-- FLT_INJECT_STIMULUS (R429). -/
def execFltInjectStimulus (h : CmdHdr) (blk : Fin 16) (src : Fin 32) (param : BitVec 16) (s : State) : Host.Outcome State Fault Refusal := .next (hostReg (0x10000 * blk + 0xFF28) (injectWord src param.toNat 1) h s)

/-- FLT_TALLY_CFG_WRITE (R411). -/
def execFltTallyCfgWrite (h : CmdHdr) (blk : Fin 16) (k : Fin 4) (v : Word) (s : State) : Host.Outcome State Fault Refusal := .next (hostReg (0x10000 * blk + 0xFF30 + 8 * k) v h s)

/-- CAN_CFG_ENABLE (R397). -/
def execCanCfgEnable (h : CmdHdr) (v : Word) (s : State) : Host.Outcome State Fault Refusal := .next (hostReg 0x40000 v h s)

/-- CAN_AUTO_RECOVER (R396). -/
def execCanAutoRecover (h : CmdHdr) (v : Word) (s : State) : Host.Outcome State Fault Refusal := .next (hostReg 0x40000 v h s)

/-- SYS_BOOT_CFG_WRITE (R71). -/
def execSysBootCfgWrite (h : CmdHdr) (v : Word) (s : State) : Host.Outcome State Fault Refusal := .next (hostReg 0x24 v h s)

end Sys2Proof.Machine
end

