-- ==== Sys2Proof/Machine/CmdService.lean ====
section
/-!
DEFINITION. Drive, safety, calibration and time commands (R171 to R173): the meaning of each row, on everything but the queue of waiting commands.
-/
namespace Sys2Proof.Machine

/-- FLOOR_GET (R258). -/
def execFloorGet (h : CmdHdr) (ps : Bytes) (s : State) : Host.Outcome State Fault Refusal := .next (hostCmd 0x0300 h ps s)

/-- KEEPOUT_SET (R229). -/
def execKeepoutSet (h : CmdHdr) (ps : Bytes) (s : State) : Host.Outcome State Fault Refusal := .next (hostCmd 0x0301 h ps s)

/-- SAFETY_POLICY_SET (R382). -/
def execSafetyPolicySet (h : CmdHdr) (ps : Bytes) (s : State) : Host.Outcome State Fault Refusal := .next (hostCmd 0x0302 h ps s)

/-- DEGRADE_LIMIT_SET (R374). -/
def execDegradeLimitSet (h : CmdHdr) (ps : Bytes) (s : State) : Host.Outcome State Fault Refusal := .next (hostCmd 0x0303 h ps s)

/-- SAFETY_STATUS (R384). -/
def execSafetyStatus (h : CmdHdr) (ps : Bytes) (s : State) : Host.Outcome State Fault Refusal := .next (hostCmd 0x0304 h ps s)

/-- CAL_RUN (R478). -/
def execCalRun (h : CmdHdr) (ps : Bytes) (s : State) : Host.Outcome State Fault Refusal := .next (hostCmd 0x0400 h ps s)

/-- CAL_QUERY (R479). -/
def execCalQuery (h : CmdHdr) (ps : Bytes) (s : State) : Host.Outcome State Fault Refusal := .next (hostCmd 0x0401 h ps s)

/-- TRIM_DELTA_WRITE (R470). -/
def execTrimDeltaWrite (h : CmdHdr) (ps : Bytes) (s : State) : Host.Outcome State Fault Refusal := .next (hostCmd 0x0402 h ps s)

/-- RESTORE_FACTORY (R481). -/
def execRestoreFactory (h : CmdHdr) (ps : Bytes) (s : State) : Host.Outcome State Fault Refusal := .next (hostCmd 0x0403 h ps s)

/-- TIME_CONFIG (R455). -/
def execTimeConfig (h : CmdHdr) (ps : Bytes) (s : State) : Host.Outcome State Fault Refusal := .next (hostCmd 0x0500 h ps s)

/-- TIME_QUERY (R456). -/
def execTimeQuery (h : CmdHdr) (ps : Bytes) (s : State) : Host.Outcome State Fault Refusal := .next (hostCmd 0x0501 h ps s)

/-- SCHEDULE_AT (R454). -/
def execScheduleAt (h : CmdHdr) (ps : Bytes) (s : State) : Host.Outcome State Fault Refusal := .next (hostCmd 0x0502 h ps s)

end Sys2Proof.Machine
end

