-- ==== Sys2Proof/Machine/CmdSystem.lean ====
section
/-!
DEFINITION. System and light commands (R167, R169): the meaning of each row, on everything but the queue of waiting commands.
-/
namespace Sys2Proof.Machine

/-- NOP (R167). -/
def execNop (h : CmdHdr) (ps : Bytes) (s : State) : Host.Outcome State Fault Refusal := .next (hostCmd 0x0000 h ps s)

/-- PING (R167). -/
def execPing (h : CmdHdr) (ps : Bytes) (s : State) : Host.Outcome State Fault Refusal := .next (hostCmd 0x0001 h ps s)

/-- GET_INFO (R168). -/
def execGetInfo (h : CmdHdr) (ps : Bytes) (s : State) : Host.Outcome State Fault Refusal := .next (hostCmd 0x0002 h ps s)

/-- RESET_WARM (R78). -/
def execResetWarm (h : CmdHdr) (ps : Bytes) (s : State) : Host.Outcome State Fault Refusal := .next (hostCmd 0x0003 h ps s)

/-- ENTER_STANDBY (R76). -/
def execEnterStandby (h : CmdHdr) (ps : Bytes) (s : State) : Host.Outcome State Fault Refusal := .next (hostCmd 0x0004 h ps s)

/-- SET_PROFILE (R7). -/
def execSetProfile (h : CmdHdr) (ps : Bytes) (s : State) : Host.Outcome State Fault Refusal := .next (hostCmd 0x0005 h ps s)

/-- LIGHT_ON (R169). -/
def execLightOn (h : CmdHdr) (ps : Bytes) (s : State) : Host.Outcome State Fault Refusal := .next (hostCmd 0x0100 h ps s)

/-- LIGHT_OFF (R57). -/
def execLightOff (h : CmdHdr) (ps : Bytes) (s : State) : Host.Outcome State Fault Refusal := .next (hostCmd 0x0101 h ps s)

/-- STILL_ENTER (R294). -/
def execStillEnter (h : CmdHdr) (ps : Bytes) (s : State) : Host.Outcome State Fault Refusal := .next (hostCmd 0x0102 h ps s)

/-- STILL_EXIT (R296). -/
def execStillExit (h : CmdHdr) (ps : Bytes) (s : State) : Host.Outcome State Fault Refusal := .next (hostCmd 0x0103 h ps s)

/-- GONG_ENTER (R169). -/
def execGongEnter (h : CmdHdr) (ps : Bytes) (s : State) : Host.Outcome State Fault Refusal := .next (hostCmd 0x0104 h ps s)

/-- GONG_EXIT (R74). -/
def execGongExit (h : CmdHdr) (ps : Bytes) (s : State) : Host.Outcome State Fault Refusal := .next (hostCmd 0x0105 h ps s)

end Sys2Proof.Machine
end

