-- ==== Sys2Proof/Machine/EvCan.lean ====
section
/-!
DEFINITION. CAN FD and SPI (R391 to R399, R579, R580): the meaning of each row, on everything but the queue of waiting commands.
-/
namespace Sys2Proof.Machine

/-- CAN_FRAGMENT (R391). -/
def execCanFragment (id : BitVec 11) (data : Bytes) (s : State) : Host.Outcome State Fault Refusal := .next (settle (rxCan id.toNat data s))

/-- REASM_TIMEOUT (R391). -/
def execReasmTimeout (id : BitVec 11) (s : State) : Host.Outcome State Fault Refusal := .next (settle (reasmTimeoutEvent id.toNat s))

/-- CAN_TSY_FRAME (R392). -/
def execCanTsyFrame (id : BitVec 11) (data : Bytes) (s : State) : Host.Outcome State Fault Refusal := .next (settle (rxCan id.toNat data s))

/-- BUS_OFF (R396). -/
def execBusOff (s : State) : Host.Outcome State Fault Refusal := .next (settle (busOffEvent s))

/-- BUS_OFF_RECOVERED (R396). -/
def execBusOffRecovered (s : State) : Host.Outcome State Fault Refusal := .next (settle (busOffRecoveredEvent s))

/-- TX_TIMEOUT (R394). -/
def execTxTimeout (s : State) : Host.Outcome State Fault Refusal := .next (settle (txTimeoutEvent s))

/-- WRITE_PKT (R579). -/
def execWritePkt (mosi : Bytes) (s : State) : Host.Outcome State Fault Refusal := .next (settle (rxSpi mosi s))

/-- READ_LEN (R579). -/
def execReadLen (s : State) : Host.Outcome State Fault Refusal := .next (settle (spiReadLen s))

/-- READ_PKT (R580). -/
def execReadPkt (clocked : Nat) (s : State) : Host.Outcome State Fault Refusal := .next (settle (spiReadPkt clocked s))

/-- CAN_BUS_ERROR (R399). -/
def execCanBusError (sending special : Bool) (s : State) : Host.Outcome State Fault Refusal := .next (settle (canErrorEvent (CanErr.of sending special) s))

/-- CAN_TX_COMPLETE (R161). -/
def execCanTxComplete (s : State) : Host.Outcome State Fault Refusal := .next (settle (canTxCompleteEvent s))

end Sys2Proof.Machine
end

