-- ==== Sys2Proof/Machine/EvClapper.lean ====
section
/-!
DEFINITION. The Clapper, logs, keys, scans and calibration runs (R78, R161, R422, R424, R478, R516, R535, R541): the meaning of each row, on everything but the queue of waiting commands.
-/
namespace Sys2Proof.Machine

/-- CLAPPER_WATCHDOG (R78). -/
def execClapperWatchdog (s : State) : Host.Outcome State Fault Refusal := .next (settle (warmBegin 5 s))

/-- FATAL_ERROR (R424). -/
def execFatalError (s : State) : Host.Outcome State Fault Refusal := .next (settle (warmBegin 4 s))

/-- WARM_RESTART (R161). -/
def execWarmRestart (s : State) : Host.Outcome State Fault Refusal := .next (settle (warmEnd (Config.ledgerUe s.freeIdx) s))

/-- FAULT_LOG_PASS (R422). -/
def execFaultLogPass (s : State) : Host.Outcome State Fault Refusal := .next (settle (logPassAll s))

/-- LOG_COALESCE (R422). -/
def execLogCoalesce (blk : Fin 16) (kind src : BitVec 5) (s : State) : Host.Outcome State Fault Refusal := .next (settle (Sys2Proof.Machine.logCoalesce blk kind.toNat src.toNat s))

/-- LOCKOUT_END (R535). -/
def execLockoutEnd (s : State) : Host.Outcome State Fault Refusal := .next (settle (Sys2Proof.Machine.lockoutEnd s))

/-- STAGE_VERIFY_DONE (R541). -/
def execStageVerifyDone (s : State) : Host.Outcome State Fault Refusal := .next (settle (stageVerify s))

/-- CV_SCAN_DONE (R516). -/
def execCvScanDone (o : ScanObs) (s : State) : Host.Outcome State Fault Refusal := .next (settle (cvScanEvent o.ueAt o.ceAt (mramByte s) s))

/-- CAL_RUN_TIMEOUT (R478). -/
def execCalRunTimeout (unit : Fin 6) (s : State) : Host.Outcome State Fault Refusal := .next (settle (calTimeout unit s))

end Sys2Proof.Machine
end

