-- ==== Sys2Proof/Machine/EvFrame.lean ====
section
/-!
DEFINITION. Frames and buffers (R184, R217, R260, R271): the meaning of each row, on everything but the queue of waiting commands.
-/
namespace Sys2Proof.Machine

/-- BAND_COMPOSED (R217). -/
def execBandComposed (lane : Fin 4) (o : BandObs) (s : State) : Host.Outcome State Fault Refusal := .next (settle (bandComposedEvent lane o s))

/-- BAND_PROCESSED (R271). -/
def execBandProcessed (band : Fin 96) (o : ProcObs) (s : State) : Host.Outcome State Fault Refusal := .next (settle (bandProcessedEvent band o s))

/-- GAIN_REBUILD_DONE (R260). -/
def execGainRebuildDone (s : State) : Host.Outcome State Fault Refusal := .next (settle (gainRebuildDoneEvent s))

/-- GRANULE_ZEROED (R184). -/
def execGranuleZeroed (start : Nat) (s : State) : Host.Outcome State Fault Refusal := .next (settle (granuleZeroedEvent start s))

end Sys2Proof.Machine
end

