-- ==== Sys2Proof/Machine/EvLink.lean ====
section
/-!
DEFINITION. The Envex link (R91 to R131): the meaning of each row, on everything but the queue of waiting commands.
-/
namespace Sys2Proof.Machine

/-- REFCLK_LOSS (R91). -/
def execRefclkLoss (s : State) : Host.Outcome State Fault Refusal := .next (settle (refclkLossEvent s))

/-- REFCLK_RESTORE (R91). -/
def execRefclkRestore (s : State) : Host.Outcome State Fault Refusal := .next (settle (refclkRestoreEvent s))

/-- BLOCK_LOCK_GAIN (R96). -/
def execBlockLockGain (lane : Fin 4) (inverted : Bool) (s : State) : Host.Outcome State Fault Refusal := .next (settle (lockGain lane inverted s))

/-- BLOCK_LOCK_LOSS (R127). -/
def execBlockLockLoss (lane : Fin 4) (s : State) : Host.Outcome State Fault Refusal := .next (settle (dropLane lane s))

/-- TS_ADV (R98). -/
def execTsAdv (lane : Fin 4) (b : BitVec 64) (s : State) : Host.Outcome State Fault Refusal := .next (settle (tsAdvEvent lane b s))

/-- TS_ACK (R101). -/
def execTsAck (lane : Fin 4) (b : BitVec 64) (s : State) : Host.Outcome State Fault Refusal := .next (settle (tsAckEvent lane b s))

/-- SPEED_REQ (R102). -/
def execSpeedReq (lane : Fin 4) (b : BitVec 64) (s : State) : Host.Outcome State Fault Refusal := .next (settle (speedReqEvent lane b s))

/-- EQ_DONE (R102). -/
def execEqDone (lane : Fin 4) (b : BitVec 64) (s : State) : Host.Outcome State Fault Refusal := .next (settle (eqDoneEvent lane b s))

/-- LINK_UP (R103). -/
def execLinkUp (lane : Fin 4) (b : BitVec 64) (s : State) : Host.Outcome State Fault Refusal := .next (settle (linkUpEvent lane b s))

/-- ABORT (R98). -/
def execAbort (lane : Fin 4) (b : BitVec 64) (s : State) : Host.Outcome State Fault Refusal := .next (settle (abortEvent lane b s))

/-- BRINGUP_STATE_TIMEOUT (R98). -/
def execBringupStateTimeout (s : State) : Host.Outcome State Fault Refusal := .next (settle (stateTimeout s))

/-- ATTEMPT_TIMEOUT (R104). -/
def execAttemptTimeout (s : State) : Host.Outcome State Fault Refusal := .next (settle (attemptTimeoutEvent s))

/-- RECOVERY_TIMEOUT (R121). -/
def execRecoveryTimeout (s : State) : Host.Outcome State Fault Refusal := .next (settle (recoveryTimeoutEvent s))

/-- ALIGN (R97). -/
def execAlign (lane : Fin 4) (b : BitVec 64) (inTol : Bool) (s : State) : Host.Outcome State Fault Refusal := .next (settle (alignEvent lane b inTol s))

/-- ACK (R117). -/
def execAck (b : BitVec 64) (s : State) : Host.Outcome State Fault Refusal := .next (settle (ackEvent b s))

/-- NAK (R118). -/
def execNak (b : BitVec 64) (s : State) : Host.Outcome State Fault Refusal := .next (settle (nakEvent b s))

/-- CREDIT (R122). -/
def execCredit (b : BitVec 64) (s : State) : Host.Outcome State Fault Refusal := .next (settle (creditEvent b s))

/-- LANE_DROP (R127). -/
def execLaneDrop (b : BitVec 64) (s : State) : Host.Outcome State Fault Refusal := .next (settle (laneDropEvent b s))

/-- LANE_SWITCH (R128). -/
def execLaneSwitch (b : BitVec 64) (s : State) : Host.Outcome State Fault Refusal := .next (settle (laneSwitchEvent b s))

/-- LANE_SWITCH_TIMEOUT (R127). -/
def execLaneSwitchTimeout (s : State) : Host.Outcome State Fault Refusal := .next (settle (laneSwitchTimeoutEvent s))

/-- REJOIN (R130). -/
def execRejoin (b : BitVec 64) (s : State) : Host.Outcome State Fault Refusal := .next (settle (rejoinEvent b s))

/-- REJOIN_ACK (R130). -/
def execRejoinAck (b : BitVec 64) (s : State) : Host.Outcome State Fault Refusal := .next (settle (rejoinAckEvent b s))

/-- REJOIN_HOLD_EXPIRY (R130). -/
def execRejoinHoldExpiry (lane : Fin 4) (s : State) : Host.Outcome State Fault Refusal := .next (settle (rejoinHoldEvent lane s))

/-- ACK_DUE (R117). -/
def execAckDue (s : State) : Host.Outcome State Fault Refusal := .next (settle (ackDueEvent s))

/-- CREDIT_REFRESH (R122). -/
def execCreditRefresh (s : State) : Host.Outcome State Fault Refusal := .next (settle (creditRefreshEvent s))

/-- REPLAY_TIMEOUT (R119). -/
def execReplayTimeout (s : State) : Host.Outcome State Fault Refusal := .next (settle (replayTimeoutEvent s))

/-- PARTIAL_TO (R120). -/
def execPartialTo (s : State) : Host.Outcome State Fault Refusal := .next (settle (partialEvent s))

/-- ADAPT_WINDOW_END (R106). -/
def execAdaptWindowEnd (lane : Fin 4) (transitions oneRuns runs : Nat) (s : State) : Host.Outcome State Fault Refusal := .next (settle (adaptWindow lane transitions oneRuns runs s))

/-- EYE_MEASURE (R108). -/
def execEyeMeasure (heights widths : List Nat) (s : State) : Host.Outcome State Fault Refusal := .next (settle (eyeMeasureEvent heights widths s))

/-- EYE_MINIMUM_MET (R102). -/
def execEyeMinimumMet (lane : Fin 4) (s : State) : Host.Outcome State Fault Refusal := .next (settle (eyeMinimumEvent lane s))

/-- LANE_ERR (R410). -/
def execLaneErr (h : BadHeader) (s : State) : Host.Outcome State Fault Refusal := .next (settle (laneErrEvent h.lane h.gap s))

end Sys2Proof.Machine
end

