-- ==== Sys2Proof/Machine/EvPacket.lean ====
section
/-!
DEFINITION. Packets on the Envex link and safety messages (R150, R187, R197, R363 to R374): the meaning of each row, on everything but the queue of waiting commands.
-/
namespace Sys2Proof.Machine

/-- A copy of a safety message arrives on the link, or whole on CAN FD (R110, R391). -/
def rxSmsg (src : SmsgSrc) (s : State) : State :=
  match src with
  | .envex raw => rxAny raw s
  | .can msg => if s.canOn then smsgEvent msg false s else s

/-- CMD_PACKET (R150). -/
def execCmdPacket (raw : Bytes) (s : State) : Host.Outcome State Fault Refusal := .next (settle (rxAny raw s))

/-- WR (R187). -/
def execWr (raw : Bytes) (s : State) : Host.Outcome State Fault Refusal := .next (settle (rxAny raw s))

/-- FEN (R197). -/
def execFen (raw : Bytes) (s : State) : Host.Outcome State Fault Refusal := .next (settle (rxAny raw s))

/-- DAMPER_SET (R363). -/
def execDamperSet (src : SmsgSrc) (s : State) : Host.Outcome State Fault Refusal := .next (settle (rxSmsg src s))

/-- BEAM_STATE (R363). -/
def execBeamState (src : SmsgSrc) (s : State) : Host.Outcome State Fault Refusal := .next (settle (rxSmsg src s))

/-- SAFE_REQ (R369). -/
def execSafeReq (src : SmsgSrc) (s : State) : Host.Outcome State Fault Refusal := .next (settle (rxSmsg src s))

/-- SKEW_TIMEOUT (R363). -/
def execSkewTimeout (seq : BitVec 32) (s : State) : Host.Outcome State Fault Refusal := .next (settle (skewTimeoutEvent seq s))

/-- REFRESH_TO (R370). -/
def execRefreshTo (s : State) : Host.Outcome State Fault Refusal := .next (settle (refreshToEvent s))

/-- DEG_LIMIT (R374). -/
def execDegLimit (s : State) : Host.Outcome State Fault Refusal := .next (settle (degLimitEvent s))

end Sys2Proof.Machine
end

