-- ==== Sys2Proof/Machine/EvPins.lean ====
section
/-!
DEFINITION. Supplies, pins, boot and standby (R55, R67, R77, R78, R488, R565, R572): the meaning of each row, on everything but the queue of waiting commands.
-/
namespace Sys2Proof.Machine

/-- VAON_APPLY (R55). -/
def execVaonApply (st : Straps) (o : BootObs) (s : State) : Host.Outcome State Fault Refusal := .next (settle (vaonApplyEvent st o s))

/-- VAON_LOSS (R55). -/
def execVaonLoss (s : State) : Host.Outcome State Fault Refusal := .next (settle (vaonLossEvent s))

/-- WAKE_RISE (R565). -/
def execWakeRise (st : Straps) (o : BootObs) (s : State) : Host.Outcome State Fault Refusal := .next (settle (wakeRiseEvent st o s))

/-- WAKE_LOW (R55). -/
def execWakeLow (s : State) : Host.Outcome State Fault Refusal := .next (settle (wakeLowEvent s))

/-- STANDBY_ENTRY_DONE (R77). -/
def execStandbyEntryDone (o : BootObs) (s : State) : Host.Outcome State Fault Refusal := .next (settle (standbyDone o s))

/-- RST_N_LOW (R78). -/
def execRstNLow (s : State) : Host.Outcome State Fault Refusal := .next (settle (rstLowEvent s))

/-- RST_N_RELEASE (R78). -/
def execRstNRelease (st : Straps) (o : BootObs) (s : State) : Host.Outcome State Fault Refusal := .next (settle (rstReleaseEvent st o s))

/-- LIMP_N_LOW (R67). -/
def execLimpNLow (held : Bool) (s : State) : Host.Outcome State Fault Refusal := .next (settle (limpLowEvent held s))

/-- LPH_FLT_N_LOW (R488). -/
def execLphFltNLow (s : State) : Host.Outcome State Fault Refusal := .next (settle (lphLowEvent s))

/-- LPH_FLT_N_HIGH (R488). -/
def execLphFltNHigh (s : State) : Host.Outcome State Fault Refusal := .next (settle (lphHighEvent s))

/-- SUPPLY_REMOVED (R572). -/
def execSupplyRemoved (which : Supply) (s : State) : Host.Outcome State Fault Refusal := .next (settle (supplyEvent which s))

/-- TAP_INSTRUCTION (R581). -/
def execTapInstruction (i : TapInstr) (s : State) : Host.Outcome State Fault Refusal := .next (settle (tapEvent i s))

end Sys2Proof.Machine
end

