-- ==== Sys2Proof/Machine/EvPower.lean ====
section
/-!
DEFINITION. Housekeeping, light budget and regulators (R344, R376, R483 to R498): the meaning of each row, on everything but the queue of waiting commands.
-/
namespace Sys2Proof.Machine

/-- LIGHT_BUDGET_CHECK (R376). -/
def execLightBudgetCheck (s : State) : Host.Outcome State Fault Refusal := .next (settle (lightBudgetEvent s))

/-- HK_REPETITION (R344). -/
def execHkRepetition (codes : List Nat) (s : State) : Host.Outcome State Fault Refusal := .next (settle (Sys2Proof.Machine.hkRepetition codes s))

/-- HEAD_SHORT (R490). -/
def execHeadShort (segs : BitVec 8) (s : State) : Host.Outcome State Fault Refusal := .next (settle (headShortEvent segs s))

/-- FAST_RAISE_REPEAT (R490). -/
def execFastRaiseRepeat (segs : BitVec 8) (s : State) : Host.Outcome State Fault Refusal := .next (settle (headShortEvent segs s))

/-- VLED_REG (R493). -/
def execVledReg (s : State) : Host.Outcome State Fault Refusal := .next (settle (vledRegEvent s))

/-- LIMP_REG (R493). -/
def execLimpReg (s : State) : Host.Outcome State Fault Refusal := .next (settle (limpRegEvent s))

/-- VCORE_REG (R498). -/
def execVcoreReg (s : State) : Host.Outcome State Fault Refusal := .next (settle (vcoreRegEvent s))

/-- PACE_HOLD_END (R497). -/
def execPaceHoldEnd (s : State) : Host.Outcome State Fault Refusal := .next (settle (paceHoldEndEvent s))

/-- DOMAIN_SW (R483). -/
def execDomainSw (pd : Fin 12) (s : State) : Host.Outcome State Fault Refusal := .next (settle (domainSwEvent pd s))

/-- POWER_GOOD (R483). -/
def execPowerGood (pd : Fin 12) (s : State) : Host.Outcome State Fault Refusal := .next (settle (powerGoodEvent pd s))

/-- BIST_DONE (R74). -/
def execBistDone (fails : List BistUnit) (s : State) : Host.Outcome State Fault Refusal := .next (settle (bistDoneEvent fails s))

/-- PHASE_SHEDDING (R487). -/
def execPhaseShedding (milliamps : Nat) (s : State) : Host.Outcome State Fault Refusal := .next (settle (phaseEvent milliamps s))

end Sys2Proof.Machine
end

