-- ==== Sys2Proof/Machine/EvScan.lean ====
section
/-!
DEFINITION. The Mallets and the segments (R279 to R312): the meaning of each row, on everything but the queue of waiting commands.
-/
namespace Sys2Proof.Machine

/-- BEAT_BOUNDARY (R279). -/
def execBeatBoundary (heads : List (Option (BitVec 5))) (s : State) : Host.Outcome State Fault Refusal := .next (settle (calBeat s (beatBoundaryEvent heads s)))

/-- ROW_WRITE (R283). -/
def execRowWrite (m : Fin 9) (slot : BitVec 10) (o : RowObs) (s : State) : Host.Outcome State Fault Refusal := .next (settle (rowWriteEvent m slot.toNat o s))

/-- LATCH_READBACK (R311). -/
def execLatchReadback (q : ReadbackAt) (dev0 dev1 : List (Nat × BitVec 3)) (s : State) : Host.Outcome State Fault Refusal := .next (settle (latchReadbackEvent q.seg q.j.toNat dev0 dev1 s))

/-- STRIKE (R297). -/
def execStrike (s : State) : Host.Outcome State Fault Refusal := .next (settle (strikeEvent s))

/-- HANG_WATCH (R301). -/
def execHangWatch (m : Fin 9) (s : State) : Host.Outcome State Fault Refusal := .next (settle (hangWatchEvent m s))

/-- GONG_TIMER_EXPIRY (R298). -/
def execGongTimerExpiry (segs : BitVec 8) (s : State) : Host.Outcome State Fault Refusal := .next (settle (gongTimerEvent segs s))

end Sys2Proof.Machine
end

