-- ==== Sys2Proof/Machine/EvSense.lean ====
section
/-!
DEFINITION. Sensing (R321 to R338): the meaning of each row, on everything but the queue of waiting commands.
-/
namespace Sys2Proof.Machine

/-- SENSE_CAPTURE (R321). -/
def execSenseCapture (strobe compliance : List (BitVec 1536)) (s : State) : Host.Outcome State Fault Refusal := .next (settle (senseCaptureEvent strobe compliance s))

/-- ROLL_CLASSIFY (R326). -/
def execRollClassify (codes : List (List Nat)) (o : RollObs) (s : State) : Host.Outcome State Fault Refusal := .next (settle (rollClassifyEvent codes o.refs (o.ue.map (·.val)) s))

/-- SLICE_FIT (R338). -/
def execSliceFit (low high : List (List Nat)) (pairs : List (List (Nat × Nat))) (s : State) : Host.Outcome State Fault Refusal := .next (settle (sliceFitEvent (spareBeats low high pairs) s))

end Sys2Proof.Machine
end

