-- ==== Sys2Proof/Machine/EvTime.lean ====
section
/-!
DEFINITION. The Tabors and the crystal (R443 to R454, R473): the meaning of each row, on everything but the queue of waiting commands.
-/
namespace Sys2Proof.Machine

/-- A time message arrives on the link, or in a frame on CAN FD (R392, R443). -/
def rxTsy (src : TsySrc) (s : State) : State :=
  match src with
  | .envex raw => rxAny raw s
  | .can data => if s.canOn then tsyMsg 2 data false s else s

/-- SYNC (R444). -/
def execSync (src : TsySrc) (s : State) : Host.Outcome State Fault Refusal := .next (settle (rxTsy src s))

/-- FOLLOW_UP (R444). -/
def execFollowUp (src : TsySrc) (s : State) : Host.Outcome State Fault Refusal := .next (settle (rxTsy src s))

/-- DELAY_RESP (R446). -/
def execDelayResp (src : TsySrc) (s : State) : Host.Outcome State Fault Refusal := .next (settle (rxTsy src s))

/-- EXCHANGE_TIMEOUT (R444). -/
def execExchangeTimeout (dom : Fin 2) (s : State) : Host.Outcome State Fault Refusal := .next (settle (exchangeTimeoutEvent dom s))

/-- HOLDOVER (R447). -/
def execHoldover (dom : Fin 2) (s : State) : Host.Outcome State Fault Refusal := .next (settle (netHoldover dom s))

/-- CAMSYNC_EDGE (R449). -/
def execCamsyncEdge (falling : Bool) (s : State) : Host.Outcome State Fault Refusal := .next (settle (camsync falling s))

/-- CAM_LOSS (R449). -/
def execCamLoss (s : State) : Host.Outcome State Fault Refusal := .next (settle (Sys2Proof.Machine.camLoss s))

/-- XTAL_WINDOW (R473). -/
def execXtalWindow (ppb : Int) (s : State) : Host.Outcome State Fault Refusal := .next (settle (xtalEvent ppb s))

/-- SCHEDULE_AT_DUE (R454). -/
def execScheduleAtDue (ledgerSeq : BitVec 32) (s : State) : Host.Outcome State Fault Refusal := .next (settle (scheduleDue ledgerSeq s))

end Sys2Proof.Machine
end

