-- ==== Sys2Proof/Machine/Dispatch.lean ====
section
/-!
DEFINITION. The meaning of each command: one arm per constructor of Instr, in the order of spec/opcode_table.json.
-/
namespace Sys2Proof.Machine

/-- The effect of a command on everything but the queue of waiting commands. -/
def exec (i : Instr) (s : State) : Host.Outcome State Fault Refusal :=
  match i with
  | .nop h ps => Sys2Proof.Machine.execNop h ps s
  | .ping h ps => Sys2Proof.Machine.execPing h ps s
  | .getInfo h ps => Sys2Proof.Machine.execGetInfo h ps s
  | .resetWarm h ps => Sys2Proof.Machine.execResetWarm h ps s
  | .enterStandby h ps => Sys2Proof.Machine.execEnterStandby h ps s
  | .setProfile h ps => Sys2Proof.Machine.execSetProfile h ps s
  | .lightOn h ps => Sys2Proof.Machine.execLightOn h ps s
  | .lightOff h ps => Sys2Proof.Machine.execLightOff h ps s
  | .stillEnter h ps => Sys2Proof.Machine.execStillEnter h ps s
  | .stillExit h ps => Sys2Proof.Machine.execStillExit h ps s
  | .gongEnter h ps => Sys2Proof.Machine.execGongEnter h ps s
  | .gongExit h ps => Sys2Proof.Machine.execGongExit h ps s
  | .bufAlloc h ps => Sys2Proof.Machine.execBufAlloc h ps s
  | .bufFree h ps => Sys2Proof.Machine.execBufFree h ps s
  | .layerSet h ps => Sys2Proof.Machine.execLayerSet h ps s
  | .layerGroup h ps => Sys2Proof.Machine.execLayerGroup h ps s
  | .fenceArm h ps => Sys2Proof.Machine.execFenceArm h ps s
  | .fenceSignal h ps => Sys2Proof.Machine.execFenceSignal h ps s
  | .commit h ps => Sys2Proof.Machine.execCommit h ps s
  | .writebackSet h ps => Sys2Proof.Machine.execWritebackSet h ps s
  | .frameRecordGet h ps => Sys2Proof.Machine.execFrameRecordGet h ps s
  | .floorGet h ps => Sys2Proof.Machine.execFloorGet h ps s
  | .keepoutSet h ps => Sys2Proof.Machine.execKeepoutSet h ps s
  | .safetyPolicySet h ps => Sys2Proof.Machine.execSafetyPolicySet h ps s
  | .degradeLimitSet h ps => Sys2Proof.Machine.execDegradeLimitSet h ps s
  | .safetyStatus h ps => Sys2Proof.Machine.execSafetyStatus h ps s
  | .calRun h ps => Sys2Proof.Machine.execCalRun h ps s
  | .calQuery h ps => Sys2Proof.Machine.execCalQuery h ps s
  | .trimDeltaWrite h ps => Sys2Proof.Machine.execTrimDeltaWrite h ps s
  | .restoreFactory h ps => Sys2Proof.Machine.execRestoreFactory h ps s
  | .timeConfig h ps => Sys2Proof.Machine.execTimeConfig h ps s
  | .timeQuery h ps => Sys2Proof.Machine.execTimeQuery h ps s
  | .scheduleAt h ps => Sys2Proof.Machine.execScheduleAt h ps s
  | .faultQuery h ps => Sys2Proof.Machine.execFaultQuery h ps s
  | .faultClear h ps => Sys2Proof.Machine.execFaultClear h ps s
  | .logRead h ps => Sys2Proof.Machine.execLogRead h ps s
  | .dumpRead h ps => Sys2Proof.Machine.execDumpRead h ps s
  | .dumpClear h ps => Sys2Proof.Machine.execDumpClear h ps s
  | .rollMapRead h ps => Sys2Proof.Machine.execRollMapRead h ps s
  | .hkSeqSet h ps => Sys2Proof.Machine.execHkSeqSet h ps s
  | .cvConfig h ps => Sys2Proof.Machine.execCvConfig h ps s
  | .cvScan h ps => Sys2Proof.Machine.execCvScan h ps s
  | .cvResult h ps => Sys2Proof.Machine.execCvResult h ps s
  | .regRead h ps => Sys2Proof.Machine.execRegRead h ps s
  | .regWrite h ps => Sys2Proof.Machine.execRegWrite h ps s
  | .tableRead h ps => Sys2Proof.Machine.execTableRead h ps s
  | .tableWrite h ps => Sys2Proof.Machine.execTableWrite h ps s
  | .keyInstall h ps => Sys2Proof.Machine.execKeyInstall h ps s
  | .keyRetire h ps => Sys2Proof.Machine.execKeyRetire h ps s
  | .fwStage h ps => Sys2Proof.Machine.execFwStage h ps s
  | .fwActivate h ps o => Sys2Proof.Machine.execFwActivate h ps o s
  | .serviceUnlock h ps => Sys2Proof.Machine.execServiceUnlock h ps s
  | .linkCfgEnable h v => Sys2Proof.Machine.execLinkCfgEnable h v s
  | .linkCtrlRetrain h => Sys2Proof.Machine.execLinkCtrlRetrain h s
  | .linkCtrlRecover h => Sys2Proof.Machine.execLinkCtrlRecover h s
  | .linkCtrlUnfence h lanes => Sys2Proof.Machine.execLinkCtrlUnfence h lanes s
  | .carlCtrlUnfence h v => Sys2Proof.Machine.execCarlCtrlUnfence h v s
  | .malletCtrlUnfence h v => Sys2Proof.Machine.execMalletCtrlUnfence h v s
  | .malletCutRemove h seg w v => Sys2Proof.Machine.execMalletCutRemove h seg w v s
  | .senseSlcUnfence h v => Sys2Proof.Machine.execSenseSlcUnfence h v s
  | .hkCtrlApply h v => Sys2Proof.Machine.execHkCtrlApply h v s
  | .taborCtrlApply h n => Sys2Proof.Machine.execTaborCtrlApply h n s
  | .pwrApplyVled h => Sys2Proof.Machine.execPwrApplyVled h s
  | .pwrApplyVcore h => Sys2Proof.Machine.execPwrApplyVcore h s
  | .pwrUnfenceVled h => Sys2Proof.Machine.execPwrUnfenceVled h s
  | .fltStatClear h blk mask => Sys2Proof.Machine.execFltStatClear h blk mask s
  | .fltInjectRecord h blk src => Sys2Proof.Machine.execFltInjectRecord h blk src s
  | .fltInjectStimulus h blk src param => Sys2Proof.Machine.execFltInjectStimulus h blk src param s
  | .fltTallyCfgWrite h blk k v => Sys2Proof.Machine.execFltTallyCfgWrite h blk k v s
  | .canCfgEnable h v => Sys2Proof.Machine.execCanCfgEnable h v s
  | .canAutoRecover h v => Sys2Proof.Machine.execCanAutoRecover h v s
  | .sysBootCfgWrite h v => Sys2Proof.Machine.execSysBootCfgWrite h v s
  | .vaonApply st o => Sys2Proof.Machine.execVaonApply st o s
  | .vaonLoss => Sys2Proof.Machine.execVaonLoss s
  | .wakeRise st o => Sys2Proof.Machine.execWakeRise st o s
  | .wakeLow => Sys2Proof.Machine.execWakeLow s
  | .standbyEntryDone o => Sys2Proof.Machine.execStandbyEntryDone o s
  | .rstNLow => Sys2Proof.Machine.execRstNLow s
  | .rstNRelease st o => Sys2Proof.Machine.execRstNRelease st o s
  | .limpNLow held => Sys2Proof.Machine.execLimpNLow held s
  | .lphFltNLow => Sys2Proof.Machine.execLphFltNLow s
  | .lphFltNHigh => Sys2Proof.Machine.execLphFltNHigh s
  | .refclkLoss => Sys2Proof.Machine.execRefclkLoss s
  | .refclkRestore => Sys2Proof.Machine.execRefclkRestore s
  | .blockLockGain lane inverted => Sys2Proof.Machine.execBlockLockGain lane inverted s
  | .blockLockLoss lane => Sys2Proof.Machine.execBlockLockLoss lane s
  | .tsAdv lane b => Sys2Proof.Machine.execTsAdv lane b s
  | .tsAck lane b => Sys2Proof.Machine.execTsAck lane b s
  | .speedReq lane b => Sys2Proof.Machine.execSpeedReq lane b s
  | .eqDone lane b => Sys2Proof.Machine.execEqDone lane b s
  | .linkUp lane b => Sys2Proof.Machine.execLinkUp lane b s
  | .abort lane b => Sys2Proof.Machine.execAbort lane b s
  | .bringupStateTimeout => Sys2Proof.Machine.execBringupStateTimeout s
  | .attemptTimeout => Sys2Proof.Machine.execAttemptTimeout s
  | .recoveryTimeout => Sys2Proof.Machine.execRecoveryTimeout s
  | .align lane b inTol => Sys2Proof.Machine.execAlign lane b inTol s
  | .ack b => Sys2Proof.Machine.execAck b s
  | .nak b => Sys2Proof.Machine.execNak b s
  | .credit b => Sys2Proof.Machine.execCredit b s
  | .laneDrop b => Sys2Proof.Machine.execLaneDrop b s
  | .laneSwitch b => Sys2Proof.Machine.execLaneSwitch b s
  | .laneSwitchTimeout => Sys2Proof.Machine.execLaneSwitchTimeout s
  | .rejoin b => Sys2Proof.Machine.execRejoin b s
  | .rejoinAck b => Sys2Proof.Machine.execRejoinAck b s
  | .rejoinHoldExpiry lane => Sys2Proof.Machine.execRejoinHoldExpiry lane s
  | .ackDue => Sys2Proof.Machine.execAckDue s
  | .creditRefresh => Sys2Proof.Machine.execCreditRefresh s
  | .replayTimeout => Sys2Proof.Machine.execReplayTimeout s
  | .partialTo => Sys2Proof.Machine.execPartialTo s
  | .adaptWindowEnd lane transitions oneRuns runs => Sys2Proof.Machine.execAdaptWindowEnd lane transitions oneRuns runs s
  | .eyeMeasure heights widths => Sys2Proof.Machine.execEyeMeasure heights widths s
  | .cmdPacket raw => Sys2Proof.Machine.execCmdPacket raw s
  | .wr raw => Sys2Proof.Machine.execWr raw s
  | .fen raw => Sys2Proof.Machine.execFen raw s
  | .damperSet src => Sys2Proof.Machine.execDamperSet src s
  | .beamState src => Sys2Proof.Machine.execBeamState src s
  | .safeReq src => Sys2Proof.Machine.execSafeReq src s
  | .skewTimeout seq => Sys2Proof.Machine.execSkewTimeout seq s
  | .refreshTo => Sys2Proof.Machine.execRefreshTo s
  | .degLimit => Sys2Proof.Machine.execDegLimit s
  | .sync src => Sys2Proof.Machine.execSync src s
  | .followUp src => Sys2Proof.Machine.execFollowUp src s
  | .delayResp src => Sys2Proof.Machine.execDelayResp src s
  | .exchangeTimeout dom => Sys2Proof.Machine.execExchangeTimeout dom s
  | .holdover dom => Sys2Proof.Machine.execHoldover dom s
  | .camsyncEdge falling => Sys2Proof.Machine.execCamsyncEdge falling s
  | .camLoss => Sys2Proof.Machine.execCamLoss s
  | .xtalWindow ppb => Sys2Proof.Machine.execXtalWindow ppb s
  | .scheduleAtDue ledgerSeq => Sys2Proof.Machine.execScheduleAtDue ledgerSeq s
  | .canFragment id data => Sys2Proof.Machine.execCanFragment id data s
  | .reasmTimeout id => Sys2Proof.Machine.execReasmTimeout id s
  | .canTsyFrame id data => Sys2Proof.Machine.execCanTsyFrame id data s
  | .busOff => Sys2Proof.Machine.execBusOff s
  | .busOffRecovered => Sys2Proof.Machine.execBusOffRecovered s
  | .txTimeout => Sys2Proof.Machine.execTxTimeout s
  | .writePkt mosi => Sys2Proof.Machine.execWritePkt mosi s
  | .readLen => Sys2Proof.Machine.execReadLen s
  | .readPkt clocked => Sys2Proof.Machine.execReadPkt clocked s
  | .beatBoundary heads => Sys2Proof.Machine.execBeatBoundary heads s
  | .rowWrite m slot o => Sys2Proof.Machine.execRowWrite m slot o s
  | .latchReadback q dev0 dev1 => Sys2Proof.Machine.execLatchReadback q dev0 dev1 s
  | .strike => Sys2Proof.Machine.execStrike s
  | .hangWatch m => Sys2Proof.Machine.execHangWatch m s
  | .gongTimerExpiry segs => Sys2Proof.Machine.execGongTimerExpiry segs s
  | .senseCapture strobe compliance => Sys2Proof.Machine.execSenseCapture strobe compliance s
  | .rollClassify codes o => Sys2Proof.Machine.execRollClassify codes o s
  | .sliceFit low high pairs => Sys2Proof.Machine.execSliceFit low high pairs s
  | .bandComposed lane o => Sys2Proof.Machine.execBandComposed lane o s
  | .bandProcessed band o => Sys2Proof.Machine.execBandProcessed band o s
  | .gainRebuildDone => Sys2Proof.Machine.execGainRebuildDone s
  | .granuleZeroed start => Sys2Proof.Machine.execGranuleZeroed start s
  | .lightBudgetCheck => Sys2Proof.Machine.execLightBudgetCheck s
  | .hkRepetition codes => Sys2Proof.Machine.execHkRepetition codes s
  | .headShort segs => Sys2Proof.Machine.execHeadShort segs s
  | .fastRaiseRepeat segs => Sys2Proof.Machine.execFastRaiseRepeat segs s
  | .vledReg => Sys2Proof.Machine.execVledReg s
  | .limpReg => Sys2Proof.Machine.execLimpReg s
  | .vcoreReg => Sys2Proof.Machine.execVcoreReg s
  | .paceHoldEnd => Sys2Proof.Machine.execPaceHoldEnd s
  | .domainSw pd => Sys2Proof.Machine.execDomainSw pd s
  | .clapperWatchdog => Sys2Proof.Machine.execClapperWatchdog s
  | .fatalError => Sys2Proof.Machine.execFatalError s
  | .warmRestart => Sys2Proof.Machine.execWarmRestart s
  | .faultLogPass => Sys2Proof.Machine.execFaultLogPass s
  | .logCoalesce blk kind src => Sys2Proof.Machine.execLogCoalesce blk kind src s
  | .lockoutEnd => Sys2Proof.Machine.execLockoutEnd s
  | .stageVerifyDone => Sys2Proof.Machine.execStageVerifyDone s
  | .cvScanDone o => Sys2Proof.Machine.execCvScanDone o s
  | .calRunTimeout unit => Sys2Proof.Machine.execCalRunTimeout unit s
  | .eyeMinimumMet lane => Sys2Proof.Machine.execEyeMinimumMet lane s
  | .powerGood pd => Sys2Proof.Machine.execPowerGood pd s
  | .bistDone fails => Sys2Proof.Machine.execBistDone fails s
  | .canBusError sending special => Sys2Proof.Machine.execCanBusError sending special s
  | .canTxComplete => Sys2Proof.Machine.execCanTxComplete s
  | .tapInstruction t => Sys2Proof.Machine.execTapInstruction t s
  | .supplyRemoved which => Sys2Proof.Machine.execSupplyRemoved which s
  | .laneErr h => Sys2Proof.Machine.execLaneErr h s
  | .phaseShedding milliamps => Sys2Proof.Machine.execPhaseShedding milliamps s

end Sys2Proof.Machine
end

