-- ==== Sys2Proof/WellFormed.lean ====
section
/-!
DEFINITION. Well-formed commands: operands that the command's form admits. A command that is not well formed cannot be sent to
the block, or cannot be observed on it; exec is defined on it all the same.
-/
namespace Sys2Proof

/-- A command does not arrive on the path SCHED (R154). A MAC is 8 bytes; only a packet without the auth flag may have none
(R141; under Profile L every packet has one, R144). -/
def hdrOk (h : CmdHdr) : Bool :=
  decide (h.path ≠ .sched) && (decide (h.mac.length = 8) || (decide (h.mac = []) && !h.auth))

/-- The parameter length fits its 16-bit field (R141, R144). -/
def lenOk (ps : Bytes) : Bool := decide (ps.length ≤ 65535)

/-- Packet bytes of a START block to the last check byte: whole 64-bit blocks, at most those of R109. -/
def rawOk (raw : Bytes) : Bool := decide (raw.length ≤ 65536)

/-- Data lengths of a CAN FD frame (R387). -/
def canDataOk (d : Bytes) : Bool :=
  decide (d.length ≤ 8) || [12, 16, 20, 24, 32, 48, 64].contains d.length

/-- A reassembled message is made of at most 9 fragments of 63 bytes (R390). -/
def smsgOk : SmsgSrc → Bool
  | .envex raw => rawOk raw
  | .can msg => decide (msg.length ≤ 567)

def tsyOk : TsySrc → Bool
  | .envex raw => rawOk raw
  | .can data => canDataOk data

/-- Converter codes are 12 bits (R319, R344). -/
def codesOk (l : List Nat) : Bool := l.all (fun c => decide (c < 4096))

/-- Deviating latches of a row: columns of the row (R311). -/
def devOk (l : List (Nat × BitVec 3)) : Bool := l.all (fun e => decide (e.1 < 1536))

/-- An address of the scanned space (R515). -/
def ueOk : Option Nat → Bool
  | some a => decide (a < 0x20000000)
  | none => true

/-- The operands of a command are ones that its form admits. -/
def Instr.wellFormed : Instr → Bool
  | .nop h ps => hdrOk h && lenOk ps
  | .ping h ps => hdrOk h && lenOk ps
  | .getInfo h ps => hdrOk h && lenOk ps
  | .resetWarm h ps => hdrOk h && lenOk ps
  | .enterStandby h ps => hdrOk h && lenOk ps
  | .setProfile h ps => hdrOk h && lenOk ps
  | .lightOn h ps => hdrOk h && lenOk ps
  | .lightOff h ps => hdrOk h && lenOk ps
  | .stillEnter h ps => hdrOk h && lenOk ps
  | .stillExit h ps => hdrOk h && lenOk ps
  | .gongEnter h ps => hdrOk h && lenOk ps
  | .gongExit h ps => hdrOk h && lenOk ps
  | .bufAlloc h ps => hdrOk h && lenOk ps
  | .bufFree h ps => hdrOk h && lenOk ps
  | .layerSet h ps => hdrOk h && lenOk ps
  | .layerGroup h ps => hdrOk h && lenOk ps
  | .fenceArm h ps => hdrOk h && lenOk ps
  | .fenceSignal h ps => hdrOk h && lenOk ps
  | .commit h ps => hdrOk h && lenOk ps
  | .writebackSet h ps => hdrOk h && lenOk ps
  | .frameRecordGet h ps => hdrOk h && lenOk ps
  | .floorGet h ps => hdrOk h && lenOk ps
  | .keepoutSet h ps => hdrOk h && lenOk ps
  | .safetyPolicySet h ps => hdrOk h && lenOk ps
  | .degradeLimitSet h ps => hdrOk h && lenOk ps
  | .safetyStatus h ps => hdrOk h && lenOk ps
  | .calRun h ps => hdrOk h && lenOk ps
  | .calQuery h ps => hdrOk h && lenOk ps
  | .trimDeltaWrite h ps => hdrOk h && lenOk ps
  | .restoreFactory h ps => hdrOk h && lenOk ps
  | .timeConfig h ps => hdrOk h && lenOk ps
  | .timeQuery h ps => hdrOk h && lenOk ps
  | .scheduleAt h ps => hdrOk h && lenOk ps
  | .faultQuery h ps => hdrOk h && lenOk ps
  | .faultClear h ps => hdrOk h && lenOk ps
  | .logRead h ps => hdrOk h && lenOk ps
  | .dumpRead h ps => hdrOk h && lenOk ps
  | .dumpClear h ps => hdrOk h && lenOk ps
  | .rollMapRead h ps => hdrOk h && lenOk ps
  | .hkSeqSet h ps => hdrOk h && lenOk ps
  | .cvConfig h ps => hdrOk h && lenOk ps
  | .cvScan h ps => hdrOk h && lenOk ps
  | .cvResult h ps => hdrOk h && lenOk ps
  | .regRead h ps => hdrOk h && lenOk ps
  | .regWrite h ps => hdrOk h && lenOk ps
  | .tableRead h ps => hdrOk h && lenOk ps
  | .tableWrite h ps => hdrOk h && lenOk ps
  | .keyInstall h ps => hdrOk h && lenOk ps
  | .keyRetire h ps => hdrOk h && lenOk ps
  | .fwStage h ps => hdrOk h && lenOk ps
  | .fwActivate h ps _ => hdrOk h && lenOk ps
  | .serviceUnlock h ps => hdrOk h && lenOk ps
  | .linkCfgEnable h _ => hdrOk h
  | .linkCtrlRetrain h => hdrOk h
  | .linkCtrlRecover h => hdrOk h
  | .linkCtrlUnfence h _ => hdrOk h
  | .carlCtrlUnfence h _ => hdrOk h
  | .malletCtrlUnfence h _ => hdrOk h
  | .malletCutRemove h _ _ _ => hdrOk h
  | .senseSlcUnfence h _ => hdrOk h
  | .hkCtrlApply h _ => hdrOk h
  | .taborCtrlApply h _ => hdrOk h
  | .pwrApplyVled h => hdrOk h
  | .pwrApplyVcore h => hdrOk h
  | .pwrUnfenceVled h => hdrOk h
  | .fltStatClear h _ _ => hdrOk h
  | .fltInjectRecord h _ _ => hdrOk h
  | .fltInjectStimulus h _ _ _ => hdrOk h
  | .fltTallyCfgWrite h _ _ _ => hdrOk h
  | .canCfgEnable h _ => hdrOk h
  | .canAutoRecover h v => hdrOk h && v.getLsbD 1
  | .sysBootCfgWrite h _ => hdrOk h
  | .vaonApply _ _ => true
  | .vaonLoss => true
  | .wakeRise _ _ => true
  | .wakeLow => true
  | .standbyEntryDone _ => true
  | .rstNLow => true
  | .rstNRelease _ _ => true
  | .limpNLow _ => true
  | .lphFltNLow => true
  | .lphFltNHigh => true
  | .refclkLoss => true
  | .refclkRestore => true
  | .blockLockGain _ _ => true
  | .blockLockLoss _ => true
  | .tsAdv _ _ => true
  | .tsAck _ _ => true
  | .speedReq _ _ => true
  | .eqDone _ _ => true
  | .linkUp _ _ => true
  | .abort _ _ => true
  | .bringupStateTimeout => true
  | .attemptTimeout => true
  | .recoveryTimeout => true
  | .align _ _ _ => true
  | .ack _ => true
  | .nak _ => true
  | .credit _ => true
  | .laneDrop _ => true
  | .laneSwitch _ => true
  | .laneSwitchTimeout => true
  | .rejoin _ => true
  | .rejoinAck _ => true
  | .rejoinHoldExpiry _ => true
  | .ackDue => true
  | .creditRefresh => true
  | .replayTimeout => true
  | .partialTo => true
  | .adaptWindowEnd _ transitions oneRuns runs => decide (transitions ≤ 65536) && decide (oneRuns ≤ runs) && decide (runs ≤ 65536)
  | .eyeMeasure heights widths => decide (heights.length = 4) && heights.all (fun x => decide (x < 4096)) && decide (widths.length = 4) && widths.all (fun x => decide (x < 1024))
  | .cmdPacket raw => rawOk raw
  | .wr raw => rawOk raw
  | .fen raw => rawOk raw
  | .damperSet src => smsgOk src
  | .beamState src => smsgOk src
  | .safeReq src => smsgOk src
  | .skewTimeout _ => true
  | .refreshTo => true
  | .degLimit => true
  | .sync src => tsyOk src
  | .followUp src => tsyOk src
  | .delayResp src => tsyOk src
  | .exchangeTimeout _ => true
  | .holdover _ => true
  | .camsyncEdge _ => true
  | .camLoss => true
  | .xtalWindow _ => true
  | .scheduleAtDue _ => true
  | .canFragment _ data => canDataOk data
  | .reasmTimeout _ => true
  | .canTsyFrame _ data => canDataOk data
  | .busOff => true
  | .busOffRecovered => true
  | .txTimeout => true
  | .writePkt _ => true
  | .readLen => true
  | .readPkt _ => true
  | .beatBoundary heads => decide (heads.length = 8)
  | .rowWrite _ _ _ => true
  | .latchReadback _ dev0 dev1 => devOk dev0 && devOk dev1
  | .strike => true
  | .hangWatch _ => true
  | .gongTimerExpiry segs => segs != 0
  | .senseCapture strobe compliance => decide (strobe.length = 8) && decide (compliance.length = 8)
  | .rollClassify codes o => decide (codes.length = 65) && codes.all (fun l => decide (l.length ≤ 192) && codesOk l) && decide (o.refs.length = 65) && codesOk o.refs
  | .sliceFit low high pairs => decide (low.length = 16) && decide (high.length = 16) && decide (pairs.length = 16) &&
      low.all codesOk && high.all codesOk && pairs.all (fun l => l.all (fun e => decide (e.1 < 4096) && decide (e.2 < 4096)))
  | .bandComposed _ o => o.fcUe.all (fun t => decide (t < 9216))
  | .bandProcessed _ o => o.wordFlips.all (fun e => decide (e.1 < 1179648)) && o.bankFlips.all (fun e => decide (e.1 < 1179648)) && o.gainUe.all (fun p => decide (p < 1179648))
  | .gainRebuildDone => true
  | .granuleZeroed start => decide (start < 4096)
  | .lightBudgetCheck => true
  | .hkRepetition codes => decide (codes.length ≤ 16) && codesOk codes
  | .headShort segs => segs != 0
  | .fastRaiseRepeat segs => segs != 0
  | .vledReg => true
  | .limpReg => true
  | .vcoreReg => true
  | .paceHoldEnd => true
  | .domainSw _ => true
  | .clapperWatchdog => true
  | .fatalError => true
  | .warmRestart => true
  | .faultLogPass => true
  | .logCoalesce _ _ _ => true
  | .lockoutEnd => true
  | .stageVerifyDone => true
  | .cvScanDone o => ueOk o.ueAt && o.ceAt.all (fun a => ueOk (some a))
  | .calRunTimeout _ => true
  | .eyeMinimumMet _ => true
  | .powerGood _ => true
  | .bistDone _ => true
  | .canBusError _ _ => true
  | .canTxComplete => true
  | .tapInstruction _ => true
  | .supplyRemoved _ => true
  | .laneErr _ => true
  | .phaseShedding _ => true

end Sys2Proof
end

