-- ==== Sys2Proof/Safety.lean ====
section
/-!
DEFINITION. The terms in which the statements speak: when a command packet is taken and gets through the steps of R150, what it is
then run on, and what follows it.
-/
namespace Sys2Proof

open Sys2Proof.Machine

/-- Nothing waits in the Clapper's queue (R154). -/
def Idle (s : State) : Prop := s.clap.queue = []

/-- The Clapper takes a packet that arrives now: no restart, no command before it at step 11, no cold reset due (R154, R155). -/
structure Takes (s : State) : Prop where
  idle : s.clap.queue = []
  running : s.clap.restarting = false
  free : s.clap.held = none
  noCold : s.sys.coldDue = false

/-- Nothing is pending in the units either: no command runs, no scan, no buffer waits for its release. -/
structure Calm (s : State) : Prop extends Takes s where
  noLong : s.clap.long = []
  noScan : s.cv.scan = none
  noFree : ∀ b ∈ s.store.bufs, b.pendFree = false

/-- The command's row is journalled (R148). -/
def journals (op : Nat) : Bool :=
  match opRow op with
  | some r => r.j
  | none => false

/-- The command's row is a long one (R156). -/
def longRow (op : Nat) : Bool :=
  match opRow op with
  | some r => r.l
  | none => false

/-- The Ledger entry of a command that passes step 6, where its row has one (R158). -/
def entryOf (op : Nat) (s : State) : Option Word := if journals op then some (s.clap.ledgerSeq + 1) else none

/-- The context in which an accepted packet runs. -/
def ctxOf (op : Nat) (h : CmdHdr) (ps : Bytes) (s : State) : Ctx := ⟨pktOf op h ps s, entryOf op s, false, none⟩

/-- The state in which an accepted packet runs: its sequence number is used, its Ledger entry written (R152, R158). -/
def taken (op : Nat) (h : CmdHdr) (ps : Bytes) (s : State) : State :=
  if journals op then (journal (pktOf op h ps s) (takeSeq (pktOf op h ps s) s)).1 else takeSeq (pktOf op h ps s) s

/-- The slot number of a packet: 0 without authentication (R141). -/
def slotOf (op : Nat) (h : CmdHdr) (ps : Bytes) (s : State) : Nat := (pktOf op h ps s).slot.toNat

/-- The packet may use expert values: it says so, and its MAC is checked (R165, R533). -/
def expertOf (h : CmdHdr) (s : State) : Bool := h.expert && (h.auth || s.dialectL h.path)

/-- A command packet with this header and these parameters arrives on a path that carries traffic and passes steps 2 to 9 of R150. -/
structure Admits (op : Nat) (h : CmdHdr) (ps : Bytes) (s : State) : Prop extends Takes s where
  hears : s.hears h.path = true
  size : ps.length ≤ 4132
  auth : s.authRefused (pktOf op h ps s) = none
  fresh : (s.lastSeq (pktOf op h ps s)).toNat < h.seq.toNat
  unit : s.unitBusy (pktOf op h ps s) = false
  room : journals op = true → s.ledgerRoom (pktOf op h ps s) = true
  step79 : check79 (ctxOf op h ps s) (taken op h ps s) = none

/-- What follows a command once the queue is empty: deferred buffers, calibrations that have reached their result, a disturbed scan,
and the cold reset of an FW_ACTIVATE. -/
def upkeep (s : State) : State :=
  let s := tellScan (calPoll (sweepBufs s))
  if s.sys.coldDue then activateReset (Config.bootObs s.freeIdx) s else s

/-- What follows the answer to a packet that the Clapper has taken while n commands were running: SCHEDULE_ATs that its effect has
made due are taken in turn (R154, R454), then upkeep. -/
def follow (n : Nat) (s : State) : State := upkeep (iter (n + 2) drainOne s)

/-- An accepted packet ends with a final reply after an effect that leaves t. -/
def replied (op : Nat) (h : CmdHdr) (ps : Bytes) (s : State) (r : Res) (t : State) : State :=
  follow s.clap.long.length (finish (ctxOf op h ps s) r t)

/-- An accepted packet becomes a long command of the kind k (R156). -/
def started (op : Nat) (h : CmdHdr) (ps : Bytes) (s : State) (k : LongKind) (t : State) : State :=
  follow s.clap.long.length
    (sendPending (ctxOf op h ps s) (t.onClap (fun c => { c with long := c.long ++ [⟨ctxOf op h ps s, k⟩] })))

/-- The parameters of a REG_WRITE of one register (R584). -/
def regParams (a : Nat) (v : Word) : Bytes := natLe 4 a ++ [1, 0, 0, 0] ++ leOf 4 v

/-- The state in which the word of a register-write row takes effect. -/
def writing (a : Nat) (h : CmdHdr) (v : Word) (s : State) : State := taken 0x801 h (regParams a v) s

/-- A REG_WRITE of v to the one register a passes steps 2 to 9 of R150 and the nine rules of R584. -/
structure Writes (a : Nat) (h : CmdHdr) (v : Word) (s : State) : Prop where
  admits : Admits 0x801 h (regParams a v) s
  rules : regWriteBad [(a, v)] (slotOf 0x801 h (regParams a v) s) (writing a h v s) = none

/-- The write is answered OK after an effect that leaves t. -/
def wrote (a : Nat) (h : CmdHdr) (v : Word) (s t : State) : State := replied 0x801 h (regParams a v) s ok t

/-- A TRAIN block of this message arrives on this wired lane (R88), and its CRC-8 holds (R94, R99). -/
structure Train (b : BitVec 64) (msg lane : Nat) (s : State) : Prop where
  wired : s.listens lane = true
  crc : blkOk b = true
  fields : trainOk b msg lane = true

/-- A LINKCTL block of this kind, whose CRC-8 holds (R94, R116). -/
structure Ctl (b : BitVec 64) (sub : Nat) : Prop where
  crc : blkOk b = true
  fields : linkctlOk b sub = true

/-- A lane notes the token of a TRAIN block, and in training its preset (R99, R105). -/
def heard (lane : Nat) (b : BitVec 64) (s : State) : State := onLane lane (Lane.hear b) s

/-- A lane notes what TS_ADV advertises: the partner's lanes, its highest grade and its lock (R99, R101). -/
def advertised (lane : Nat) (b : BitVec 64) (s : State) : State :=
  (onLane lane (fun l => { l with advLanes := BitVec.ofNat 4 (blkByte b 2 / 16), advGrade := BitVec.ofNat 4 (blkByte b 3 % 16),
                                  advLocked := decide (blkByte b 4 / 4 % 2 = 1), acks := 0 }) (heard lane b s)).onLink
    (fun l => { l with maxPartner := BitVec.ofNat 4 (blkByte b 3 % 16) })

/-- An attempt to bring the link up is under way (R98). -/
def bringing (ls : LinkState) : Bool := ls == .detect || ls == .config || ls == .step || ls == .adapt || ls == .linkUp

/-- A packet of this class and payload arrives in ACTIVE, whole, in sequence and within the rules of its class (R109, R110, R115). -/
structure Whole (cls : Nat) (raw pl : Bytes) (s : State) : Prop where
  active : s.link.ls = .active
  whole : 8 + pl.length + 4 ≤ raw.length
  size : numAt (raw.take 8) 4 2 = pl.length
  body : sliceB raw 8 pl.length = pl
  start : byteAt (raw.take 8) 0 = 0x78
  head : crcP3 ((raw.take 8).take 7) = byteAt (raw.take 8) 7
  crc : crcP1 (sliceB (raw.take 8) 1 5 ++ pl) = u32At raw (8 + pl.length)
  seq : u16At (raw.take 8) 2 = s.link.expSeq
  ofClass : numAt (raw.take 8) 1 1 % 16 = cls
  flags : numAt (raw.take 8) 1 1 < 32
  resv : numAt (raw.take 8) 6 1 = 0
  len : hostLenOk cls pl.length = true
  fields : hostResvOk cls pl = true

/-- Its pool has the credits for it (R123). -/
structure Framed (cls : Nat) (raw pl : Bytes) (s : State) : Prop extends Whole cls raw pl s where
  credit : creditsOf pl.length ≤ (s.link.ownLimit.getD (poolOf cls) 0 - s.link.ownUsed.getD (poolOf cls) 0).toNat

/-- What the link layer does with such a packet: CV0 counts it, the next sequence number is expected, its credit is taken, and unless it
is a command, which its block consumes later, returned (R115, R117, R122). -/
def received (cls : Nat) (pl : Bytes) (s : State) : State :=
  let t := (acceptSeq (cvCheck 0 true s)).onLink (fun l =>
    { l with ownUsed := modAt l.ownUsed (poolOf cls) (· + BitVec.ofNat 16 (creditsOf pl.length)) })
  if cls = 1 then t else returnCredits (poolOf cls) (creditsOf pl.length) t

/-- The packet says that it is replayed (R118). -/
def replayBit (raw : Bytes) : Bool := decide (numAt (raw.take 8) 1 1 / 16 % 2 = 1)

/-- The copy of a safety message that has passed the checks (R363). -/
def copyOf (m : Bytes) : SmsgCopy := ⟨u32At m 4, numAt m 1 1, numAt m 22 1, smsgBody m⟩

/-- What a byte of the image regions reads as before anything is written there (R44, log entry 6). -/
def imgDefault (a : Nat) : Byte := if a < 0x100000 then Config.imageByte a else 0

/-- The canonical form of the bytes written into the image regions: rising addresses, no byte that reads so anyway. -/
def imgWf : List Host.Cell → Bool
  | [] => true
  | (a, v) :: t => decide (v ≠ imgDefault a) && t.all (fun e => decide (a < e.1)) && imgWf t

/-- What every state that a run reaches holds: the Layer Store and the image regions in canonical form, at most four queued commits
(R199), 16 key slots (R523), 256 buffer indices (R185) and 64 fences (R196). -/
structure Sound (s : State) : Prop where
  store : Memory.wf s.store.mem = true
  images : imgWf s.nvm.mem = true
  commits : s.store.queue.length ≤ 4
  slots : s.sec.slots.length = 16
  bufs : s.store.bufs.length = 256
  fences : s.store.fences.length = 64

end Sys2Proof
end

