-- ==== Sys2Proof/Certificates/Slice0/Obligations.lean ====
section
/-!
DEFINITION. The statements about the UZ1536, for the provers.
-/
open Sys2Proof Sys2Proof.Machine

/-- Log entry 2: a step takes the command at the front of the queue. -/
def Obligations.StepRunsTheFront : Prop :=
  ∀ (c : Instr) (rest : List Instr) (s : State), step { s with pending := c :: rest } = exec c { s with pending := rest }

/-- R89, R97, R432, R436 and log entry 2: the tick of the time base, and the ALIGN that is due in it. -/
def Obligations.IdleStepIsATick : Prop :=
  ∀ (s : State), s.pending = [] →
    ∃ u, step s = .next (tickLink u) ∧
      (∀ n, n < 4 → (u.tabor n).count = if (s.tabor n).running then (s.tabor n).count + tickStep (s.tRate n) else (s.tabor n).count) ∧
      ((s.tabor 3).running = true → (u.tabor 3).count = (s.tabor 3).count + 4 * 2 ^ 32) ∧
      u.sys = (if s.sys.vaon then { s.sys with keeper := s.sys.keeper + 1 } else s.sys) ∧
      { u with tab := s.tab, sys := s.sys } = s ∧
      (s.onAir = false → tickLink u = u) ∧
      (s.onAir = true →
        let p := s.link.blkPhase + 100 * 2 ^ (s.link.grade.toNat - 1)
        (p < 16384 * 128 → tickLink u = u.onLink (fun l => { l with blkPhase := p })) ∧
        (16384 * 128 ≤ p → tickLink u = sendAligns (u.onLink (fun l => { l with blkPhase := p - 16384 * 128 })))) ∧
      { tickLink u with link := u.link } = u

/-- R82, R84: the state after reset, and that Sound holds in it. -/
def Obligations.ResetState : Prop :=
  Sound State.reset ∧ State.reset.sys.st = .boot ∧ State.reset.sys.prev = .standby ∧ State.reset.sys.gongCause = 0 ∧
  State.reset.sys.gongCapable = false ∧ State.reset.sys.tGongcap = 0xFFFFFFFF ∧ State.reset.sys.tReady = 0xFFFFFFFF ∧
  (∀ a, State.reset.reg a = regReset a) ∧ State.reset.link.ls = .down ∧ State.reset.link.retry = [] ∧
  (∀ b, b < 16 → (State.reset.flts b).stat = 0 ∧ (State.reset.flts b).first = none ∧ (State.reset.flts b).queue = []) ∧
  State.reset.store.queue = [] ∧ State.reset.isLit = false ∧ State.reset.clap.queue = [] ∧ State.reset.pending = [] ∧
  (∀ n, n < 4 → (State.reset.tabor n).running = decide (n = 3))

/-- R199, R523, R185, R196: what every step keeps. -/
def Obligations.StepsKeepSound : Prop :=
  (∀ (c : Instr) (s : State), ∃ t, exec c s = .next t ∧ t.pending = s.pending ∧ (Sound s → Sound t)) ∧
  (∀ (s t : State), Sound s → step s = .next t → Sound t)

/-- R540: anti-rollback only advances. -/
def Obligations.AntiRollbackNeverGoesBack : Prop :=
  (∀ (s t : State), step s = .next t →
    s.sec.minSvn.toNat ≤ t.sec.minSvn.toNat ∧ (s.sec.revoked = true → t.sec.revoked = true)) ∧
  (∀ (v : Word) (s : State), s.sys.readySeen = false → s.sys.fwImage.toNat < 2 →
    (firstReady v s).sec.minSvn.toNat = Nat.max s.sec.minSvn.toNat (imgSvn s s.sys.fwImage.toNat).toNat ∧
    (firstReady v s).sec.revoked = (s.sec.revoked || imgRevokes s s.sys.fwImage.toNat))

/-- R141, R144, R146: reading a command packet undoes building it, in both dialects. -/
def Obligations.PacketsReadBack : Prop :=
  ∀ (op : Nat) (h : CmdHdr) (ps : Bytes) (s : State), ps.length ≤ 4132 →
    (s.dialectL h.path = false → op < 65536 → h.mac.length = (if h.auth then 8 else 0) →
      parseCmd false h.path (pktBytes (pktOf op h ps s)) = some (pktOf op h ps s)) ∧
    (s.dialectL h.path = true → op / 256 < 16 → op % 256 < 16 → h.mac.length = 8 →
      parseCmd true h.path (pktBytes (pktOf op h ps s)) = some (pktOf op h ps s))

/-- R147, R150 to R152, R160: commands that fail a check. -/
def Obligations.RefusedCommands : Prop :=
  ∀ (c : Instr) (op : Nat) (h : CmdHdr) (ps : Bytes) (s : State), exec c s = .next (hostCmd op h ps s) → op < 65536 →
    let p := pktOf op h ps s
    let F := follow s.clap.long.length
    (s.hears h.path = false → exec c s = .next s) ∧
    (s.hears h.path = true → Takes s →
      (4132 < ps.length → exec c s = .next (F (turnAway p 0x11 s))) ∧
      (ps.length ≤ 4132 →
        (s.authRefused p = some 0x1A → exec c s = .next (F (turnAway p 0x1A s))) ∧
        (s.authRefused p = some 0x15 →
          exec c s = .next (F (turnAway p 0x15 (authFail h.path 0 (slotOf op h ps s) (record bCLAP 2 noUnit s))))) ∧
        (s.authRefused p = none → h.seq.toNat ≤ (s.lastSeq p).toNat →
          (s.clap.ledger.reverse.find? (fun e => sameSpace e.pkt p && e.pkt.seq == h.seq) = none →
            exec c s = .next (F (turnAway p 0x16 (record bCLAP 4 noUnit s)))) ∧
          (∀ e, s.clap.ledger.reverse.find? (fun e => sameSpace e.pkt p && e.pkt.seq == h.seq) = some e →
            (cmdCrc e.pkt ≠ cmdCrc p →
              exec c s = .next (F (turnAway p 0x16 (violation p 0x16 0xFFFFFFFF (record bCLAP 4 noUnit s))))) ∧
            (cmdCrc e.pkt = cmdCrc p → e.state = 0 →
              exec c s = .next (F (sendReply p h.path 1 0xFFFF [] true .none s))) ∧
            (cmdCrc e.pkt = cmdCrc p → e.state ≠ 0 →
              exec c s = .next (F (sendReply p h.path (if e.status = 0 then 2 else e.status) e.detail e.data true (.reply e.lseq) s))))) ∧
        (s.authRefused p = none → (s.lastSeq p).toNat < h.seq.toNat →
          s.unitBusy p = true ∨ (journals op = true ∧ s.ledgerRoom p = false) → exec c s = .next (F (turnAway p 0x17 s))) ∧
        (∀ r, s.authRefused p = none → (s.lastSeq p).toNat < h.seq.toNat → s.unitBusy p = false →
          (journals op = true → s.ledgerRoom p = true) → check79 (ctxOf op h ps s) (taken op h ps s) = some r →
          exec c s = .next (replied op h ps s r (taken op h ps s)))))

/-- R202: at most four commits are queued; a fifth COMMIT is refused with BUSY and its number is not used. -/
def Obligations.CommitQueueHoldsFour : Prop :=
  (∀ (s t : State), s.store.queue.length ≤ 4 → step s = .next t → t.store.queue.length ≤ 4) ∧
  (∀ (h : CmdHdr) (ps : Bytes) (s : State), s.hears h.path = true → Takes s → ps.length ≤ 4132 →
    s.authRefused (pktOf 0x206 h ps s) = none → (s.lastSeq (pktOf 0x206 h ps s)).toNat < h.seq.toNat → s.store.queue.length = 4 →
    exec (.commit h ps) s = .next (follow s.clap.long.length (turnAway (pktOf 0x206 h ps s) 0x17 s)) ∧
    (turnAway (pktOf 0x206 h ps s) 0x17 s).lastSeq (pktOf 0x206 h ps s) = s.lastSeq (pktOf 0x206 h ps s))

/-- R123: a packet that exceeds the credits of its pool. -/
def Obligations.PacketWithoutCredit : Prop :=
  ∀ (cls : Nat) (raw pl : Bytes) (s : State), Whole cls raw pl s →
    (s.link.ownLimit.getD (poolOf cls) 0 - s.link.ownUsed.getD (poolOf cls) 0).toNat < creditsOf pl.length →
    let V := linkViol cls s.link.expSeq.toNat (sendNak 4 (cvCheck 0 true s))
    V.link.expSeq = s.link.expSeq ∧
    ∀ c ∈ [Instr.cmdPacket raw, .wr raw, .fen raw, .damperSet (.envex raw), .beamState (.envex raw), .safeReq (.envex raw),
        .sync (.envex raw), .followUp (.envex raw), .delayResp (.envex raw)],
      exec c s = .next (settle (record bLINK 7 noUnit V))

/-- R402, R403, R407, R408: what recording an event does. -/
def Obligations.RecordingAnEvent : Prop :=
  ∀ (b src : Nat) (x : FltArg) (s : State), b < 16 → s.flt.length = 16 →
    let R := (recordBase b src x s).1
    let sev := (recordBase b src x s).2.1
    (R.flts b).stat = (s.flts b).stat ||| BitVec.twoPow 32 src ∧
    (∀ a, a ≠ b → R.flts a = s.flts a) ∧
    R = { s with flt := R.flt } ∧
    Nat.max x.minSev ((s.flts b).sev src) ≤ sev ∧
    ((s.flts b).first = none → (R.flts b).first.map (fun h => (h.src, h.sev, h.injected)) = some (src, sev, x.injected) ∧
      (R.flts b).firstTs = s.tick) ∧
    ((s.flts b).queue.length < 16 →
      (R.flts b).queue.length = (s.flts b).queue.length + 1 ∧
      ((R.flts b).queue.getLast?).map (fun e => (e.src, e.sev, e.tick, e.unit, e.value, e.state)) = some (src, sev, s.tick, x.unit, x.value, s.sys.st)) ∧
    (sev ≠ 3 → record b src x s = R) ∧ (sev = 3 → record b src x s = enterGong 2 R)

/-- R55, R58, R82, R300: entry to GONG. -/
def Obligations.EntryToGong : Prop :=
  ∀ (cause : Nat) (s : State),
    (s.sys.st = .ready ∨ s.sys.st = .lit ∨ s.sys.st = .still ∨ s.sys.st = .degraded ∨ s.sys.st = .service → cause < 16 →
      let G := enterGong cause s
      G.sys.st = .gong ∧ G.sys.prev = s.sys.st ∧ G.sys.gongCause.toNat = cause ∧ G.sys.gongFromBoot = false ∧
      G.mal.scanning = false ∧ G.mal.gongSegs = (if s.sys.gongCapable then 0xFF else 0) ∧ G.carl.job = none ∧ G.sys.tap = .reset) ∧
    (s.sys.st = .off ∨ s.sys.st = .boot ∨ s.sys.st = .standby → enterGong cause s = s) ∧
    (s.sys.st = .gong → s.clap.long.any (fun l => l.kind.isLight) = false → enterGong cause s = s)

/-- R142, R150: the frame of a reply. -/
def Obligations.RepliesLeaveTheRest : Prop :=
  ∀ (op : Nat) (h : CmdHdr) (ps : Bytes) (s t : State) (r : Res), r.status < 0x10 → Calm t →
    let R := replied op h ps s r t
    R.sys = t.sys ∧ R.nvm = t.nvm ∧ R.tab = t.tab ∧ R.store = t.store ∧ R.carl = t.carl ∧ R.pix = t.pix ∧ R.mal = t.mal ∧ R.sense = t.sense ∧
    R.hk = t.hk ∧ R.pwr = t.pwr ∧ R.safe = t.safe ∧ R.sec = t.sec ∧ R.flt = t.flt ∧ R.regs = t.regs ∧ R.latches = t.latches ∧
    R.stims = t.stims ∧ R.freeIdx = t.freeIdx ∧ R.pending = t.pending ∧ Calm R

/-- R187: reading the Layer Store after a write. -/
def Obligations.StoreReadsWhatWasWritten : Prop :=
  ∀ (a : Nat) (bs : Bytes) (s : State),
    Memory.wf s.store.mem = true →
    (∀ x, (writeStore a bs s).storeByte x = if a ≤ x ∧ x < a + bs.length then byteAt bs (x - a) else s.storeByte x) ∧
    Memory.wf (writeStore a bs s).store.mem = true ∧
    (writeStore a bs s).onStore (fun t => { t with mem := s.store.mem }) = s

/-- R167, R168: NOP replies OK; PING echoes its bytes and adds the Tabor 3 count and epoch; GET_INFO returns the identification
record. Nothing else changes than the sequence number used and what the reply brings. -/
def Obligations.SystemQueriesReply : Prop :=
  ∀ (h : CmdHdr) (ps : Bytes) (s : State),
    (Admits 0x000 h [] s → exec (.nop h []) s = .next (replied 0x000 h [] s ok (taken 0x000 h [] s))) ∧
    (Admits 0x001 h ps s → ps.length ≤ 64 →
      exec (.ping h ps) s =
        .next (replied 0x001 h ps s (okData (ps ++ natLe 8 s.now ++ leOf 2 s.epoch)) (taken 0x001 h ps s))) ∧
    (Admits 0x002 h [] s →
      exec (.getInfo h []) s =
        .next (replied 0x002 h [] s
          (okData (natLe 2 0x1536 ++ [BitVec.ofNat 8 (bit01 s.sys.ordL1), Config.siliconRev] ++ leOf 4 s.release ++
            leOf 8 Config.serial ++ leOf 4 s.nvm.cur.calGen ++ leOf 2 s.nvm.cur.bootCount ++
            [BitVec.ofNat 8 (bit01 s.sys.profileL), 0] ++ leOf 4 s.clap.ledgerSeq ++ zeros 4))
          (taken 0x002 h [] s)))

/-- R7, R76, R78, R161: what the three commands do once they have been answered; the reply of a RESET_WARM follows its restart. -/
def Obligations.SystemModeCommandsFollowTheirReply : Prop :=
  ∀ (h : CmdHdr) (b : Byte) (s : State),
    (Admits 0x003 h [] s →
      exec (.resetWarm h []) s = .next (follow s.clap.long.length (warmBegin 3 (completeSilent (ctxOf 0x003 h [] s) (taken 0x003 h [] s))))) ∧
    (Admits 0x004 h [] s →
      exec (.enterStandby h []) s = .next (follow s.clap.long.length (standbyBegin (finish (ctxOf 0x004 h [] s) ok (taken 0x004 h [] s))))) ∧
    (Admits 0x005 h [b] s → b.toNat ≤ 1 →
      exec (.setProfile h [b]) s =
        .next (follow s.clap.long.length ((finish (ctxOf 0x005 h [b] s) ok (taken 0x005 h [b] s)).onSys (fun y => { y with profileL := b == 1 }))))

/-- R169: LIGHT_ON in READY, and in a SERVICE that is not lit. Light is forbidden by R70's BIST outcomes and without GONG (R65). A is the
state once the frame code is set; an event of TABOR that leads to GONG there abandons the command (the model's choice, R58). -/
def Obligations.LightOnStartsScanning : Prop :=
  ∀ (h : CmdHdr) (f : Byte) (s : State),
    Admits 0x100 h [f] s → s.lightForbidden = false → (f = 0 ∨ f = 10 ∨ f = 20 ∨ f = 40 ∨ f = 80) →
    let T := taken 0x100 h [f] s
    let A := (fCode f.toNat).elim T (fun k => setFrameCode k T)
    let X := safeLightOn (freshLight (startScan A))
    let E := if A.sys.st = .ready then enterLit X else syncOwner (litEntered X)
    (A.sys.st = .gong → exec (.lightOn h [f]) s = .next (replied 0x100 h [f] s (refuse0 0x12) A)) ∧
    (A.sys.st ≠ .gong → exec (.lightOn h [f]) s = .next (started 0x100 h [f] s .lightOn E)) ∧
    E.mal.scanning = true ∧ E.mal.stopDue = false ∧ E.mal.gongSegs = 0 ∧ E.pix.gov = 65536 ∧
    E.safe.setA = none ∧ E.safe.setB = none ∧ E.safe.beamAdb = false ∧
    (A.sys.st = .ready → E.sys.st = if A.safe.causes = 0 then .lit else .degraded)

/-- R57, R169, R294, R296: the three commands that change how long the light stays as it is. -/
def Obligations.LightOffAndStill : Prop :=
  ∀ (h : CmdHdr) (s : State),
    (Admits 0x101 h [] s →
      let T := taken 0x101 h [] s
      let E := enterState .ready (((T.onSys (fun y => { y with pdWant := (y.pdWant.set 6 .on).set 7 .on })).onMal
        (fun m => { m with stopDue := s.mal.scanning })).onCarl (fun c => { c with job := none }))
      E.sys.st = .ready ∧ E.sys.prev = s.sys.st ∧ E.mal.stopDue = s.mal.scanning ∧ E.carl.job = none ∧
      (s.sys.st ≠ .service → s.mal.scanning = true →
        exec (.lightOff h []) s = .next (follow s.clap.long.length (E.onClap (fun c => { c with held := some ⟨ctxOf 0x101 h [] s, .lightOff⟩ })))) ∧
      (s.sys.st = .service ∨ s.mal.scanning = false → exec (.lightOff h []) s = .next (replied 0x101 h [] s ok E))) ∧
    (Admits 0x102 h [] s → exec (.stillEnter h []) s = .next (started 0x102 h [] s (.stillEnter 0) (taken 0x102 h [] s))) ∧
    (Admits 0x103 h [] s →
      exec (.stillExit h []) s =
        .next (started 0x103 h [] s .stillExit
          ((taken 0x103 h [] s).onSys (fun y => { y with pdWant := (y.pdWant.set 6 .on).set 7 .on }))))

/-- R58, R74, R169: entering and leaving GONG by command. -/
def Obligations.GongCommands : Prop :=
  ∀ (h : CmdHdr) (b : Byte) (s : State),
    (Admits 0x104 h [] s → exec (.gongEnter h []) s = .next (replied 0x104 h [] s ok (enterGong 6 (taken 0x104 h [] s)))) ∧
    (Admits 0x105 h [b] s → s.sys.limpN = true → s.criticalSet = false → ¬(s.sys.gongCause = 4 ∧ s.safe.causes ≠ 0) →
      let T := taken 0x105 h [b] s
      (b = 0 → s.lightPowered = true →
        exec (.gongExit h [b]) s =
          .next (replied 0x105 h [b] s ok (sendPending (ctxOf 0x105 h [b] s) (toReady (T.onMal (fun m => { m with stopDue := true })))))) ∧
      (b = 1 → s.lightForbidden = false → s.lightPowered = true →
        exec (.gongExit h [b]) s = .next (started 0x105 h [b] s (.gongExit true) (startFrame true T.exitCaps 0 (freshLight T)))) ∧
      ((b = 0 ∨ (b = 1 ∧ s.lightForbidden = false)) → s.lightPowered = false →
        exec (.gongExit h [b]) s =
          .next (started 0x105 h [b] s (.gongExit (b == 1))
            (T.onSys (fun y => { y with pdWant := (((y.pdWant.set 6 .on).set 7 .on).set 8 .on).set 9 .on })))))

/-- R183 to R186, R210: allocation and release of buffers, every form. -/
def Obligations.BufferCommands : Prop :=
  ∀ (h : CmdHdr) (ps : Bytes) (s : State),
    (Admits 0x200 h ps s → ps.length = 4 → 1 ≤ numAt ps 0 4 → numAt ps 0 4 ≤ 16777216 →
      let T := taken 0x200 h ps s
      let n := (numAt ps 0 4 + granule - 1) / granule
      let free := (List.range 256).find? (fun i => !(T.buf i).live)
      (∀ g i, T.firstFit n = some g → free = some i →
        let b : Buf := { T.buf i with live := true, start := g, grans := n, extent := (numAt ps 0 4 + 3) / 4 * 4, pendFree := false,
                                      snoop := 0, next := 0, acc := 0 }
        exec (.bufAlloc h ps) s =
          .next (replied 0x200 h ps s (okData (leOf 2 (BitVec.ofNat 16 (i + 256 * b.gen.toNat)) ++ natLe 4 (storeBase + granule * g)))
            (onBuf i (fun _ => b) T))) ∧
      (T.firstFit n = none ∨ free = none → exec (.bufAlloc h ps) s = .next (replied 0x200 h ps s (refuse0 0x20) T))) ∧
    (Admits 0x201 h ps s → ps.length = 2 →
      let T := taken 0x201 h ps s
      (T.current (u16At ps 0) = none → exec (.bufFree h ps) s = .next (replied 0x201 h ps s (refuse 0x14 0 0xFFFFFFFF) T)) ∧
      (∀ i, T.current (u16At ps 0) = some i →
        (((T.buf i).pendFree || T.referred (u16At ps 0)) = true →
          exec (.bufFree h ps) s =
            .next (replied 0x201 h ps s { ok with status := 3 } (onBuf i (fun b => { b with pendFree := true }) T))) ∧
        (((T.buf i).pendFree || T.referred (u16At ps 0)) = false →
          exec (.bufFree h ps) s = .next (replied 0x201 h ps s ok (releaseBuf i T)))))

/-- R193 to R195, R243: the three commands that write the shadow. Nothing but the shadow changes. -/
def Obligations.LayerCommandsWriteShadow : Prop :=
  ∀ (h : CmdHdr) (ps : Bytes) (s : State),
    (Admits 0x202 h ps s → ps.length = 36 → numAt ps 0 1 < 8 → findIdx? (fun x => x != 0) (sliceB ps 1 3) = none →
      let T := taken 0x202 h ps s
      let bad := recBad (numAt ps 0 1) (ps.drop 4) (expertOf h s) T
      (bad = none →
        exec (.layerSet h ps) s =
          .next (replied 0x202 h ps s ok
            (onShadow (fun m => putRec m (numAt ps 0 1) ((List.range 8).map (fun k => u32At (ps.drop 4) (4 * k)))) T))) ∧
      (∀ off st, bad = some (off, st) →
        exec (.layerSet h ps) s =
          .next (replied 0x202 h ps s (refuse st (off + 4) (lyAddr (numAt ps 0 1) (off / 4))) T))) ∧
    (∀ (g k : Byte), Admits 0x203 h [g, k] s → g.toNat < 4 →
      exec (.layerGroup h [g, k]) s =
        .next (replied 0x203 h [g, k] s ok
          (onShadow (fun m => shPut m 0x60060 (BitVec.ofNat 32 (leNat (((groupsOf m).map (fun x => x &&& ~~~k)).set g.toNat k))))
            (taken 0x203 h [g, k] s)))) ∧
    (Admits 0x207 h ps s → ps.length = 16 → firstBad (routeRules ps) = none → (byteAt ps 1 = 0 ∨ expertOf h s = true) →
      exec (.writebackSet h ps) s =
        .next (replied 0x207 h ps s ok
          (onShadow (fun m =>
            shPut (shPut (shPut (shPut m 0x60030 (BitVec.ofNat 32 (numAt ps 0 2))) 0x60034 (BitVec.ofNat 32 (numAt ps 4 2)))
              0x60038 (BitVec.ofNat 32 (numAt ps 8 4))) 0x6003C (BitVec.ofNat 32 (numAt ps 12 2))) (taken 0x207 h ps s))))

/-- R196, R197: fences by command, every form. -/
def Obligations.FenceCommands : Prop :=
  ∀ (h : CmdHdr) (n t : Byte) (s : State), n.toNat < 64 →
    (Admits 0x204 h [n, t] s →
      let T := taken 0x204 h [n, t] s
      (T.fenceQueued n.toNat = false →
        exec (.fenceArm h [n, t]) s = .next (replied 0x204 h [n, t] s ok (setFence n.toNat ⟨.armed, if t = 0 then 3 else t.toNat, 0⟩ T))) ∧
      (T.fenceQueued n.toNat = true → exec (.fenceArm h [n, t]) s = .next (replied 0x204 h [n, t] s (badParam 0) T))) ∧
    (Admits 0x205 h [n] s →
      let T := taken 0x205 h [n] s
      let f := s.fence n.toNat
      (f.st = .armed → exec (.fenceSignal h [n]) s = .next (replied 0x205 h [n] s ok (setFence n.toNat { f with st := .signalled, since := (s.tabor 2).count } T))) ∧
      (f.st = .timedOut → exec (.fenceSignal h [n]) s = .next (replied 0x205 h [n] s (refuse0 0x19) (setFence n.toNat fenceFree T))) ∧
      (f.st = .free ∨ f.st = .signalled → exec (.fenceSignal h [n]) s = .next (replied 0x205 h [n] s (badParam 0) T)))

/-- R199, R200: COMMIT, accepted and refused by the validation of R202. A full queue has answered BUSY before (Admits.unit). -/
def Obligations.CommitQueuesTheShadow : Prop :=
  ∀ (h : CmdHdr) (s : State), Admits 0x206 h [0] s → s.store.queue.length < 4 →
    let T := taken 0x206 h [0] s
    let l := s.clap.ledgerSeq + 1
    (commitCheck T.commitSh T = none →
      let E := acceptCommit l T
      exec (.commit h [0]) s = .next (replied 0x206 h [0] s (okData (leOf 4 l)) E) ∧
      E.store.openGens = [] ∧ E.store.shadow = T.commitSh ∧ E.store.committed = s.store.committed ∧
      (∃ e : QEntry, E.store.queue = s.store.queue ++ [e] ∧ e.lseq = l ∧ e.sh = T.commitSh ∧ e.tabs = s.store.openGens ∧ e.latched = false)) ∧
    (∀ st a, commitCheck T.commitSh T = some (st, a) → exec (.commit h [0]) s = .next (replied 0x206 h [0] s (refuse st 0xFFFF a) T))

/-- R213, R214, R258, R334: the three queries, with the forms that find nothing. -/
def Obligations.LightPathQueriesReply : Prop :=
  ∀ (h : CmdHdr) (ps : Bytes) (s : State),
    (Admits 0x208 h ps s → ps.length = 5 → numAt ps 4 1 ≤ 3 →
      ¬(u32At ps 0 = 0xFFFFFFFF ∧ (s.sys.st = .ready ∨ s.sys.st = .gong)) →
      let T := taken 0x208 h ps s
      (s.findRec (u32At ps 0) = none → exec (.frameRecordGet h ps) s = .next (replied 0x208 h ps s (badParam 0) T)) ∧
      (∀ r, s.findRec (u32At ps 0) = some r →
        (numAt ps 4 1 = 0 → exec (.frameRecordGet h ps) s = .next (replied 0x208 h ps s (okData (recBytes r)) T)) ∧
        (numAt ps 4 1 ≠ 0 →
          (s.pwr.kept.find? (fun k => k.1 = r.derGen) = none →
            exec (.frameRecordGet h ps) s = .next (replied 0x208 h ps s (badParam 4) T)) ∧
          (∀ k, s.pwr.kept.find? (fun k => k.1 = r.derGen) = some k →
            exec (.frameRecordGet h ps) s =
              .next (replied 0x208 h ps s (okData (recBytes r ++ derBytes k.2.1 (3072 * (numAt ps 4 1 - 1)) 3072)) T))))) ∧
    (Admits 0x300 h ps s → ps.length = 4 → numAt ps 0 2 < 9216 → 1 ≤ numAt ps 2 2 → numAt ps 2 2 ≤ 2048 → numAt ps 0 2 + numAt ps 2 2 ≤ 9216 →
      exec (.floorGet h ps) s =
        .next (replied 0x300 h ps s (okData ((List.range (numAt ps 2 2)).flatMap (fun i => natLe 2 (floorAt s.store.tabs (numAt ps 0 2 + i)))))
          (taken 0x300 h ps s))) ∧
    (Admits 0x605 h ps s → ps.length = 4 → numAt ps 0 2 < 9216 → 1 ≤ numAt ps 2 2 → numAt ps 2 2 ≤ 56 → numAt ps 0 2 + numAt ps 2 2 ≤ 9216 →
      let T := taken 0x605 h ps s
      exec (.rollMapRead h ps) s =
        .next (replied 0x605 h ps s (okData ((List.range (numAt ps 2 2)).flatMap (fun i => rollEntry T (numAt ps 0 2 + i)))) T))

/-- R229, R231: KEEPOUT_SET of a well-formed list. -/
def Obligations.KeepoutSetStoresTable : Prop :=
  ∀ (h : CmdHdr) (ps : Bytes) (s : State) (n : Nat),
    Admits 0x301 h ps s → numAt ps 0 1 = n → n ≤ 16 → ps.length = 4 + 8 * n → numAt ps 1 3 = 0 → s.locked = false →
    let ws := (List.range n).map (fun i => BitVec.ofNat 64 (numAt ps (4 + 8 * i) 8))
    (∀ w ∈ ws, keepBad w = none) →
    let T := taken 0x301 h ps s
    let A := issueGen tKEEPOUT T
    let v := ws.zipIdx.foldl (fun v e => tabPut tKEEPOUT v e.2 e.1) ⟨A.2, []⟩
    let E := (saveCfg (fun d => { d with tabs := { d.tabs with keepout := v }, keepSeq := some ((entryOf 0x301 s).getD 0) }) A.1).onStore
      (fun t => { t with keepNext := some ((entryOf 0x301 s).getD 0, v) })
    exec (.keepoutSet h ps) s =
      .next (replied 0x301 h ps s (okData (leOf 4 A.2)) (if s.sys.st = .still then startStillExit E else E)) ∧
    E.store.tabs = s.store.tabs ∧ E.nvm.cur.tabs.keepout = v ∧ E.nvm.cfgA.data.tabs.keepout = v ∧ E.nvm.cfgB.data.tabs.keepout = v

/-- R374, R382 to R384: the safety commands. The checks of R382 stand here as conditions: the lock, the right that changes it, the
rights for expert values, and the ranges. -/
def Obligations.SafetyCommands : Prop :=
  ∀ (h : CmdHdr) (ps : Bytes) (s : State),
    (Admits 0x302 h ps s → ps.length = 48 →
      let T := taken 0x302 h ps s
      let lock := decide (numAt ps 1 1 / 2 % 2 = 1)
      let slot := slotOf 0x302 h ps s
      ¬(lock = true ∧ s.locked = true) →
      (lock ≠ s.locked → T.hasRight slot 6 = true) →
      (lock = s.locked ∨ (expertOf h s = true ∧ (policyExpert ps).isSome = true) → T.hasRight slot 0 = true) →
      (expertOf h s = true ∨ policyExpert ps = none) →
      (policyBad ps T = none → exec (.safetyPolicySet h ps) s = .next (replied 0x302 h ps s ok (setPolicy ps T))) ∧
      (∀ off, policyBad ps T = some off → exec (.safetyPolicySet h ps) s = .next (replied 0x302 h ps s (badParam off) T))) ∧
    (Admits 0x303 h ps s → ps.length = 4 →
      let T := taken 0x303 h ps s
      let v := numAt ps 0 4
      (s.locked = false → 100 ≤ v → v ≤ 60000 →
        exec (.degradeLimitSet h ps) s = .next (replied 0x303 h ps s ok (storeReg 0xD0018 (BitVec.ofNat 32 v) T))) ∧
      (s.locked = true → exec (.degradeLimitSet h ps) s = .next (replied 0x303 h ps s (refuse 0x14 0 0xD0018) T))) ∧
    (Admits 0x304 h [] s →
      let T := taken 0x304 h [] s
      exec (.safetyStatus h []) s = .next (replied 0x304 h [] s (okData (safetyRecord T)) T))

/-- R172, R478: CAL_RUN of every unit. Its index is a free value of the unit's range (log entry 41). -/
def Obligations.CalRunByUnit : Prop :=
  ∀ (h : CmdHdr) (ps : Bytes) (s : State) (top : Nat),
    Admits 0x400 h ps s →
    let T := taken 0x400 h ps s
    let u := numAt ps 0 1
    let m := numAt ps 1 1
    let i := Config.calIndex T.freeIdx ps % (top + 1)
    4 ≤ ps.length → calIndexMax u = some top → calMode u m = true → numAt ps 2 1 = 0 → numAt ps 3 1 = 0 →
    (∀ st, calState u m i T = some st → exec (.calRun h ps) s = .next (replied 0x400 h ps s (refuse0 st) T)) ∧
    (calState u m i T = none → ps.length = 4 →
      (u = 0 →
        exec (.calRun h ps) s = .next (started 0x400 h ps s (.calLane i) (if T.link.active.getLsbD i then dropLane i T.freeNext else T.freeNext))) ∧
      (u = 1 → exec (.calRun h ps) s = .next (started 0x400 h ps s (.calSlice i) T.freeNext)) ∧
      (u = 2 → exec (.calRun h ps) s = .next (started 0x400 h ps s (.calHk (T.hk.updates + 16)) T)) ∧
      (u = 5 → exec (.calRun h ps) s = .next (started 0x400 h ps s .calXo T)) ∧
      (u = 4 → m = 0 →
        let B := baseline T
        exec (.calRun h ps) s =
          .next (replied 0x400 h ps s (okData (calBytes 4 0 (B.calRec 4 0))) (sendPending (ctxOf 0x400 h ps s) B))) ∧
      (u = 4 → m = 1 → exec (.calRun h ps) s = .next (started 0x400 h ps s .calGain (agingUpdate 328 13 (-15) 20 T)))) ∧
    (calState u m i T = none → u = 4 → m = 1 → ps.length = 9 → expertOf h s = true →
      ∀ (coef step : Nat) (tc : Int) (win : Nat), updateParams ps = .ok (coef, step, tc, win) →
        exec (.calRun h ps) s = .next (started 0x400 h ps s .calGain (agingUpdate coef step tc win T)))

/-- R470, R479, R481: the other calibration commands. -/
def Obligations.CalibrationCommands : Prop :=
  ∀ (h : CmdHdr) (ps : Bytes) (s : State),
    (Admits 0x401 h ps s → ps.length = 2 →
      let T := taken 0x401 h ps s
      ∀ top, calIndexMax (numAt ps 0 1) = some top → numAt ps 1 1 ≤ top →
        exec (.calQuery h ps) s =
          .next (replied 0x401 h ps s (okData (calBytes (numAt ps 0 1) (numAt ps 1 1) (T.calRec (numAt ps 0 1) (numAt ps 1 1)))) T)) ∧
    (Admits 0x402 h ps s →
      let T := taken 0x402 h ps s
      let n := numAt ps 4 2
      1 ≤ n → n ≤ 2048 → ps.length = 6 + 2 * n → numAt ps 0 4 + n ≤ 1179648 →
      (∀ i < n, numAt ps (7 + 2 * i) 1 ≤ 1) →
      let vals := (List.range n).filterMap
        (fun i => if numAt ps (7 + 2 * i) 1 = 1 then some (numAt ps 0 4 + i, sgn 8 (numAt ps (6 + 2 * i) 1)) else none)
      let E := if vals.isEmpty then T else writeGainU vals T
      exec (.trimDeltaWrite h ps) s = .next (replied 0x402 h ps s (okData (leOf 4 E.nvm.cur.calGen)) E)) ∧
    (∀ m : Byte, Admits 0x403 h [m] s → m ≠ 0 → m &&& 0xE1 = 0 →
      exec (.restoreFactory h [m]) s = .next (started 0x403 h [m] s (.restore m) (restoreStart m (taken 0x403 h [m] s))))

/-- R455, R456. In TIME_CONFIG the words are those of the Tabor's registers; a change of any of them acts as R455 says. -/
def Obligations.TimeConfigAndQuery : Prop :=
  ∀ (h : CmdHdr) (ps : Bytes) (s : State),
    (Admits 0x500 h ps s →
      let T := taken 0x500 h ps s
      let n := numAt ps 0 1
      let mode := numAt ps 1 1
      let b2 := numAt ps 2 1
      let A := T.setReg (tbA n 0x38) (BitVec.ofNat 32
        (mode + b2 % 4 * 8 + bitsN b2 2 2 * 32 + bitsN b2 4 1 * 128 + numAt ps 3 1 * 256 + bitsN b2 5 1 * 4096))
      let B := if n = 2 then A.setReg 0x5011C (u32At ps 8)
        else A.setReg (tbA n 0x3C) (BitVec.ofNat 32 (numAt ps 4 2 + numAt ps 6 2 * 2 ^ 14))
      let C := if n = 1 ∧ mode = 2 then (B.setReg 0x50120 (u32At ps 12)).setReg 0x50124 (u32At ps 16) else B
      let changed := decide (T.reg (tbA n 0x38) ≠ C.reg (tbA n 0x38)) || decide (T.reg (tbA n 0x3C) ≠ C.reg (tbA n 0x3C)) ||
        decide (T.reg 0x5011C ≠ C.reg 0x5011C) || decide (T.reg 0x50120 ≠ C.reg 0x50120) || decide (T.reg 0x50124 ≠ C.reg 0x50124)
      (∀ off, timeConfigBad ps T.sys.profileL T.frameBeats = some off →
        exec (.timeConfig h ps) s = .next (replied 0x500 h ps s (badParam off) T)) ∧
      (timeConfigBad ps T.sys.profileL T.frameBeats = none → mode = 3 → expertOf h s = false →
        exec (.timeConfig h ps) s = .next (replied 0x500 h ps s (refuse 0x14 1 0xFFFFFFFF) T)) ∧
      (timeConfigBad ps T.sys.profileL T.frameBeats = none → (mode ≠ 3 ∨ expertOf h s = true) →
        exec (.timeConfig h ps) s = .next (replied 0x500 h ps s ok (if changed = true then taborCfgChanged n C else C)))) ∧
    (∀ m : Byte, Admits 0x501 h [m] s → m ≠ 0 → m.toNat < 16 →
      let T := taken 0x501 h [m] s
      exec (.timeQuery h [m]) s =
        .next (replied 0x501 h [m] s (okData (((List.range 4).filter (fun n => m.getLsbD n)).flatMap (taborRecord T))) T))

/-- R173, R454: SCHEDULE_AT of a valid embedded command. -/
def Obligations.ScheduleAtConvertsItsTime : Prop :=
  ∀ (h : CmdHdr) (ps : Bytes) (s : State),
    Admits 0x502 h ps s →
    let T := taken 0x502 h ps s
    let n := numAt ps 0 1
    let t := T.tabor n
    let back := (t.epoch - u16At ps 2).toNat
    16 ≤ ps.length → n < 4 → byteAt ps 1 = 0 → (n = 3 → back = 0) → back < t.offs.length → mayEmbed (numAt ps 12 2) = true → numAt ps 14 2 = 0 →
    let target := (numAt ps 4 8 : Int) - t.offs.getD back 0
    let k (late : Bool) : LongKind := .schedule n target.toNat (u16At ps 12) (ps.drop 16) late
    (16 ≤ T.scheduled → exec (.scheduleAt h ps) s = .next (replied 0x502 h ps s (refuse0 0x20) T)) ∧
    (T.scheduled < 16 → (t.ns : Int) ≤ target → exec (.scheduleAt h ps) s = .next (started 0x502 h ps s (k false) T)) ∧
    (T.scheduled < 16 → target < (t.ns : Int) →
      exec (.scheduleAt h ps) s =
        .next (follow s.clap.long.length (enqueueDue (s.clap.ledgerSeq + 1) true
          (sendPending (ctxOf 0x502 h ps s) (T.onClap (fun c => { c with long := c.long ++ [⟨ctxOf 0x502 h ps s, k true⟩] }))))))

/-- R414 to R416, R423, R427: the commands on faults, logs and dumps. -/
def Obligations.FaultAndLogCommands : Prop :=
  ∀ (h : CmdHdr) (ps : Bytes) (s : State),
    (∀ b : Byte, Admits 0x600 h [b] s →
      let T := taken 0x600 h [b] s
      (b.toNat < 16 → exec (.faultQuery h [b]) s = .next (replied 0x600 h [b] s (okData (s.fltRecord b.toNat)) T)) ∧
      (b = 0xFF → exec (.faultQuery h [b]) s = .next (replied 0x600 h [b] s (okData (s.fltOrder.flatMap s.fltRecord)) T))) ∧
    (Admits 0x601 h ps s → ps.length = 5 → numAt ps 0 1 < 16 → (u32At ps 1).toNat / 2 ^ (srcSevs (numAt ps 0 1)).length = 0 →
      let E := clearStat (numAt ps 0 1) (u32At ps 1) (taken 0x601 h ps s)
      exec (.faultClear h ps) s = .next (replied 0x601 h ps s (okData (leOf 4 (E.flts (numAt ps 0 1)).stat)) E)) ∧
    (Admits 0x602 h ps s → ps.length = 7 → 1 ≤ numAt ps 5 2 → numAt ps 5 2 ≤ 64 → numAt ps 0 1 ≤ 1 →
      let T := taken 0x602 h ps s
      let found := if numAt ps 0 1 = 0 then logFrom T.clap.log (T.clap.logSeq - 1) (u32At ps 1)
        else (logFrom T.clap.ledger T.clap.ledgerSeq (u32At ps 1)).map (fun l => l.map entryBytes)
      (∀ rs, found = some rs →
        exec (.logRead h ps) s = .next (replied 0x602 h ps s (okData (wholeRecs (rs.take (numAt ps 5 2)) 4096)) T)) ∧
      (found = none → exec (.logRead h ps) s = .next (replied 0x602 h ps s (badParam 1) T))) ∧
    (Admits 0x603 h ps s → ps.length = 7 → numAt ps 0 1 ≤ 1 → 4 ≤ numAt ps 5 2 → numAt ps 5 2 ≤ 4096 →
      numAt ps 1 4 + numAt ps 5 2 ≤ 0x80000 →
      let d := s.nvm.dumps.getD (numAt ps 0 1) dumpFree
      (d.state ≠ 0 → exec (.dumpRead h ps) s =
        .next (replied 0x603 h ps s (okData (dumpRun d (numAt ps 1 4) (numAt ps 5 2))) (taken 0x603 h ps s))) ∧
      (d.state = 0 → exec (.dumpRead h ps) s = .next (replied 0x603 h ps s (badParam 0) (taken 0x603 h ps s)))) ∧
    (∀ k : Byte, Admits 0x604 h [k] s → k.toNat ≤ 1 →
      let T := taken 0x604 h [k] s
      let d := s.nvm.dumps.getD k.toNat dumpFree
      (d.state = 0 → exec (.dumpClear h [k]) s = .next (replied 0x604 h [k] s ok T)) ∧
      (d.state ≠ 0 → exec (.dumpClear h [k]) s =
        .next (replied 0x604 h [k] s ok (touchMram (0x554000 + k.toNat * 0x80000 + 4) 1
          (T.onNvm (fun n => { n with dumps := n.dumps.set k.toNat { n.dumps.getD k.toNat dumpFree with state := 0 } }))))))

/-- R348, R515, R519, R520: the commands of the housekeeping converter and the check-value units. -/
def Obligations.HkAndCvCommands : Prop :=
  ∀ (h : CmdHdr) (ps : Bytes) (s : State),
    (∀ n, Admits 0x606 h ps s → numAt ps 0 1 = n → 1 ≤ n → n ≤ 16 → ps.length = 4 + 8 * n →
      findIdx? (fun x => x != 0) (sliceB ps 1 3) = none →
      let T := taken 0x606 h ps s
      let q := (List.range n).map (fun i => BitVec.ofNat 64 (numAt ps (4 + 8 * i) 8))
      T.hkLocked q = false →
      (seqBad q (expertOf h s) T = none →
        exec (.hkSeqSet h ps) s = .next (replied 0x606 h ps s ok (T.onHk (fun x => { x with nextSeq := some q })))) ∧
      (∀ st o, seqBad q (expertOf h s) T = some (st, o) →
        exec (.hkSeqSet h ps) s = .next (replied 0x606 h ps s (refuse st o 0xFFFFFFFF) T))) ∧
    (Admits 0x700 h ps s → ps.length = 8 → findIdx? (fun b => b ≠ 0) (ps.drop 2) = none →
      let T := taken 0x700 h ps s
      let v := numAt ps 1 1
      (numAt ps 0 1 = 5 → v < 8 → exec (.cvConfig h ps) s = .next (replied 0x700 h ps s ok (T.setFld 0xE0000 1 3 v))) ∧
      (numAt ps 0 1 = 3 → v = 1 → exec (.cvConfig h ps) s = .next (replied 0x700 h ps s ok (T.setFld 0xE0000 0 1 1))) ∧
      (numAt ps 0 1 = 3 → v = 0 →
        exec (.cvConfig h ps) s = .next (replied 0x700 h ps s ok (forN 256 0 snoopInvalid (T.setFld 0xE0000 0 1 0))))) ∧
    (Admits 0x701 h ps s → ps.length = 10 →
      let T := taken 0x701 h ps s
      let st := numAt ps 1 4
      let n := numAt ps 5 4
      let go (buf : Nat) := started 0x701 h ps s .scan
        (T.onCv (fun v => { v with scan := some ⟨numAt ps 0 1, st, n, numAt ps 9 1, buf, false, false⟩ }))
      st % 4 = 0 → n % 4 = 0 → 4 ≤ n → numAt ps 9 1 ≤ 3 →
      (numAt ps 0 1 = 1 → st + n ≤ 0x800000 → (st + n ≤ 0x654000 ∨ 0x658000 ≤ st) → exec (.cvScan h ps) s = .next (go 0)) ∧
      (numAt ps 0 1 = 1 → ¬(st + n ≤ 0x800000 ∧ (st + n ≤ 0x654000 ∨ 0x658000 ≤ st)) →
        exec (.cvScan h ps) s = .next (replied 0x701 h ps s (accessViol st) T)) ∧
      (numAt ps 0 1 = 0 → s.pdIs 7 .on = true →
        (∀ i, T.bufOf st n = some i → exec (.cvScan h ps) s = .next (go i)) ∧
        (T.bufOf st n = none → exec (.cvScan h ps) s = .next (replied 0x701 h ps s (accessViol st) T)))) ∧
    (∀ u : Byte, Admits 0x702 h [u] s → u.toNat < 6 →
      let T := taken 0x702 h [u] s
      let x := s.cv.units.getD u.toNat default
      let flags := if u = 5 then bit01 (T.cv.scan.getD s.cv.last).disturbed + 2 * bit01 (s.cv.scan.isNone && s.cv.lastAborted) else 0
      exec (.cvResult h [u]) s =
        .next (replied 0x702 h [u] s
          (okData ([u, BitVec.ofNat 8 flags, 0, 0] ++ natLe 4 x.a ++ natLe 4 x.b ++ leOf 4 x.c ++ leOf 4 x.d ++ leOf 8 x.t ++ leOf 2 x.epoch ++ zeros 2))
          T))

/-- R549, R584: runs of registers, all or none. -/
def Obligations.RegisterRunsAllOrNone : Prop :=
  ∀ (h : CmdHdr) (ps : Bytes) (s : State),
    (Admits 0x800 h ps s → ps.length = 5 →
      let T := taken 0x800 h ps s
      let a := numAt ps 0 4
      let run := (List.range (numAt ps 4 1)).map (fun i => a + 4 * i)
      1 ≤ numAt ps 4 1 → numAt ps 4 1 ≤ 64 →
      (a % 4 ≠ 0 → exec (.regRead h ps) s = .next (replied 0x800 h ps s (refuse 0x11 0 a) T)) ∧
      (a % 4 = 0 →
        (∀ x, run.find? (fun x => decide (0x100000 ≤ x)) = some x → exec (.regRead h ps) s = .next (replied 0x800 h ps s (refuse 0x14 0 x) T)) ∧
        (run.find? (fun x => decide (0x100000 ≤ x)) = none →
          (∀ x, run.find? (fun x => regUnreachable x T) = some x → exec (.regRead h ps) s = .next (replied 0x800 h ps s (refuse 0x12 0 x) T)) ∧
          (run.find? (fun x => regUnreachable x T) = none →
            let R := run.foldl (fun (r : State × Bytes) x => ((readReg x r.1).1, r.2 ++ leOf 4 (readReg x r.1).2)) (T, [])
            exec (.regRead h ps) s = .next (replied 0x800 h ps s (okData R.2) R.1.freeNext))))) ∧
    (Admits 0x801 h ps s → 1 ≤ numAt ps 4 1 → numAt ps 4 1 ≤ 64 → ps.length = 8 + 4 * numAt ps 4 1 →
      findIdx? (fun b => b ≠ 0) (sliceB ps 5 3) = none →
      let T := taken 0x801 h ps s
      let a := numAt ps 0 4
      let ws := (List.range (numAt ps 4 1)).map (fun i => (a + 4 * i, u32At ps (8 + 4 * i)))
      (regWriteBad ws (slotOf 0x801 h ps s) T = none →
        exec (.regWrite h ps) s = .next (replied 0x801 h ps s ok (ws.foldl (fun s w => writeWord w.1 w.2 s) T))) ∧
      (∀ st named x, regWriteBad ws (slotOf 0x801 h ps s) T = some (st, named, x) →
        exec (.regWrite h ps) s = .next (replied 0x801 h ps s (refuse st (if a % 4 ≠ 0 then 0 else (x.map (fun y => 8 + (y - a))).getD 0) named) T)))

/-- R551 to R554, R588: the table commands. The values of tables in domains that are off are free values (log entry 11). -/
def Obligations.TableCommands : Prop :=
  ∀ (h : CmdHdr) (ps : Bytes) (s : State),
    (Admits 0x802 h ps s → ps.length = 10 → tabParams ps (fun sh => sh.2.1) = none →
      let T := taken 0x802 h ps s
      let id := numAt ps 0 1
      let n := numAt ps 8 2
      let past := tabExcess id (numAt ps 4 4) n ((tabShape id).getD (0, 0, 0)).1
      (past = none →
        exec (.tableRead h ps) s =
          .next (replied 0x802 h ps s (okData ((List.range n).flatMap (fun i => T.tabEntry id (numAt ps 4 4 + i)))) (T.onFreeIdx (· + 2359296)))) ∧
      (∀ x, past = some x → exec (.tableRead h ps) s = .next (replied 0x802 h ps s (accessViol x) T))) ∧
    (Admits 0x803 h ps s → 12 ≤ ps.length → tabParams ps (fun sh => sh.2.2) = none → findIdx? (fun b => b ≠ 0) (sliceB ps 10 2) = none →
      let T := taken 0x803 h ps s
      let id := numAt ps 0 1
      let sh := (tabShape id).getD (0, 0, 0)
      let n := numAt ps 8 2
      let vals := (List.range n).map (fun i => numAt ps (12 + sh.2.2 * i) sh.2.2)
      let denied := tabRefused id || (id == 3 && !T.hasRight (slotOf 0x803 h ps s) 5) || (T.locked && tabLockable id)
      ps.length = 12 + sh.2.2 * n →
      (denied = true → exec (.tableWrite h ps) s = .next (replied 0x803 h ps s (accessViol (tabAddr id (numAt ps 4 4))) T)) ∧
      (denied = false → tabState id T = true → exec (.tableWrite h ps) s = .next (replied 0x803 h ps s (refuse0 0x12) T)) ∧
      (denied = false → tabState id T = false → tabExcess id (numAt ps 4 4) n sh.1 = none → tabValueBad id vals = none →
        let R := tabWrite id (numAt ps 4 4) vals T
        exec (.tableWrite h ps) s = .next (replied 0x803 h ps s (okData (leOf 4 R.2)) R.1)))

/-- R526, R527, R541, R543: keys, staging and the unlock of SERVICE. -/
def Obligations.SecurityCommands : Prop :=
  ∀ (h : CmdHdr) (ps : Bytes) (s : State),
    (Admits 0x900 h ps s → ps.length = 32 →
      let T := taken 0x900 h ps s
      let own := slotOf 0x900 h ps s
      let key := aesDec ((T.keyOf own).getD (zeros 16)) (sliceB ps 8 16)
      let n := numAt ps 0 1
      (keyBad ps own key T = none →
        exec (.keyInstall h ps) s =
          .next (replied 0x900 h ps s ok (record bSEC 5 (atUnit n)
            (changeKey n (fun _ => { st := .active, key := key, rights := u16At ps 2, keyId := u32At ps 4, last := 0 }) T)))) ∧
      (∀ st off, keyBad ps own key T = some (st, off) →
        exec (.keyInstall h ps) s = .next (replied 0x900 h ps s (refuse st off 0xFFFFFFFF) T))) ∧
    (∀ n : Byte, Admits 0x901 h [n] s → n.toNat < 16 → n.toNat ≠ slotOf 0x901 h [n] s →
      exec (.keyRetire h [n]) s =
        .next (replied 0x901 h [n] s ok (record bSEC 5 (atUnit n.toNat)
          (changeKey n.toNat (fun k => { k with st := .retired, key := [] }) (taken 0x901 h [n] s))))) ∧
    (Admits 0x902 h ps s → 4 ≤ ps.length → ps.length ≤ 4100 → ps.length % 4 = 0 → numAt ps 0 4 % 4 = 0 →
      numAt ps 0 4 ≤ (taken 0x902 h ps s).sec.stageEnd → numAt ps 0 4 + (ps.length - 4) ≤ 0x100000 →
      ∃ E, exec (.fwStage h ps) s = .next (replied 0x902 h ps s ok E) ∧
        E.sec.stageEnd = numAt ps 0 4 + (ps.length - 4) ∧
        E.nvm.mem = ((ps.drop 4).zipIdx).foldl (fun m e =>
          spSet (imgDefault (s.stageRegion * 0x100000 + numAt ps 0 4 + e.2)) m (s.stageRegion * 0x100000 + numAt ps 0 4 + e.2) e.1) s.nvm.mem ∧
        E.store = s.store ∧ E.sys = s.sys ∧ E.flt = s.flt) ∧
    (Admits 0x904 h ps s → ps.length = 80 → ps.take 8 = serialBytes → u16At ps 8 = s.nvm.cur.bootCount →
      findIdx? (fun b => b ≠ 0) (sliceB ps 10 6) = none →
      let T := taken 0x904 h ps s
      (Config.ecdsaOk 2 (sha256 (ps.take 16)) (ps.drop 16) = true →
        exec (.serviceUnlock h ps) s = .next (replied 0x904 h ps s ok (enterState .service T))) ∧
      (Config.ecdsaOk 2 (sha256 (ps.take 16)) (ps.drop 16) = false →
        exec (.serviceUnlock h ps) s =
          .next (replied 0x904 h ps s (refuse0 0x15) (record bSEC 6 noUnit (authFail h.path 3 (slotOf 0x904 h ps s) T)))))

/-- R542: FW_ACTIVATE, accepted and refused. -/
def Obligations.FwActivateBootsCold : Prop :=
  ∀ (h : CmdHdr) (b : Byte) (o : BootObs) (s : State), Admits 0x903 h [b] s → Calm s → b.toNat ≤ 1 →
    let T := taken 0x903 h [b] s
    let good := b.toNat = s.sys.fwImage.toNat ∨ (b.toNat = s.stageRegion ∧ T.sec.stage = 3)
    (good →
      let A := finish (ctxOf 0x903 h [b] s) ok (activateImage b.toNat T)
      exec (.fwActivate h [b] o) s = .next (coldBoot 6 o (coldReset (A.onSys (fun y => { y with coldDue := true }))))) ∧
    ((activateImage b.toNat T).sec.active = decide (b.toNat = 1) ∧ (activateImage b.toNat T).nvm.staged.getLsbD b.toNat = false) ∧
    (¬good → exec (.fwActivate h [b] o) s = .next (finish (ctxOf 0x903 h [b] s) (refuse 0x11 0 (b.toNat * 0x100000)) T))

/-- R131, R135, R136: the rows that write LINK_CFG and LINK_CTRL. -/
def Obligations.LinkRegisterRows : Prop :=
  ∀ (h : CmdHdr) (v : Word) (lanes : BitVec 4) (s : State),
    (Writes 0x30000 h v s →
      let T := writing 0x30000 h v s
      exec (.linkCfgEnable h v) s =
        .next (wrote 0x30000 h v s (linkEnableChanged (s.rfld 0x30000 0 1 == 1) (v.getLsbD 0)
          (T.setReg 0x30000 ((s.reg 0x30000 &&& 0xFFFF0000) ||| (v &&& 0xFFFF)))))) ∧
    (Writes 0x30004 h 1 s → exec (.linkCtrlRetrain h) s = .next (wrote 0x30004 h 1 s (retrain (writing 0x30004 h 1 s)))) ∧
    (Writes 0x30004 h 2 s → exec (.linkCtrlRecover h) s = .next (wrote 0x30004 h 2 s (recover (writing 0x30004 h 2 s)))) ∧
    (Writes 0x30004 h (lanes.setWidth 32 <<< 2) s →
      exec (.linkCtrlUnfence h lanes) s =
        .next (wrote 0x30004 h (lanes.setWidth 32 <<< 2) s (unfenceLanes lanes (writing 0x30004 h (lanes.setWidth 32 <<< 2) s))))

/-- R220, R308, R340, R493: the rows that return fenced units to service. -/
def Obligations.UnfenceRegisterRows : Prop :=
  ∀ (h : CmdHdr) (v : Word) (s : State),
    (Writes 0x60000 h v s →
      exec (.carlCtrlUnfence h v) s =
        .next (wrote 0x60000 h v s (startBist (((List.range 4).filter (fun n => v.getLsbD (4 + n))).map (fun n => .lane (Fin.ofNat 4 n)))
          (placeWord 0x60000 v (writing 0x60000 h v s))))) ∧
    (Writes 0x90000 h v s →
      exec (.malletCtrlUnfence h v) s =
        .next (wrote 0x90000 h v s (startBist (((List.range 9).filter (fun m => v.getLsbD m)).map (fun m => .mallet (Fin.ofNat 9 m)))
          (placeWord 0x90000 v (writing 0x90000 h v s))))) ∧
    (Writes 0xA0004 h v s → v.getLsbD 7 = true →
      exec (.senseSlcUnfence h v) s =
        .next (wrote 0xA0004 h v s (startBist [.slice (Fin.ofNat 65 (v.toNat % 128))] (placeWord 0xA0004 v (writing 0xA0004 h v s))))) ∧
    (Writes 0xA0004 h v s → v.getLsbD 7 = false →
      exec (.senseSlcUnfence h v) s = .next (wrote 0xA0004 h v s (placeWord 0xA0004 v (writing 0xA0004 h v s)))) ∧
    (Writes 0xC0020 h 4 s →
      exec (.pwrUnfenceVled h) s =
        .next (wrote 0xC0020 h 4 s (syncOwner ((writing 0xC0020 h 4 s).onPwr (fun p => { p with fenced := false })))))

/-- R71, R312, R348, R439, R499: the rows that apply what is armed, or store a configuration. -/
def Obligations.ApplyRegisterRows : Prop :=
  ∀ (h : CmdHdr) (v : Word) (seg : Fin 8) (w : Fin 48) (n : Fin 4) (s : State),
    (Writes (0x90400 + 0xC0 * seg + 4 * w) h v s →
      exec (.malletCutRemove h seg w v) s =
        .next (wrote (0x90400 + 0xC0 * seg + 4 * w) h v s
          (removeCuts seg w v (placeWord (0x90400 + 0xC0 * seg + 4 * w) v (writing (0x90400 + 0xC0 * seg + 4 * w) h v s))))) ∧
    (Writes 0xB0000 h v s →
      let P := placeWord 0xB0000 v (writing 0xB0000 h v s)
      (v.getLsbD 5 = true →
        exec (.hkCtrlApply h v) s = .next (wrote 0xB0000 h v s (P.onHk (fun x => { x with nextSeq := some (x.staging.take (v.toNat % 32)) })))) ∧
      (v.getLsbD 5 = false → exec (.hkCtrlApply h v) s = .next (wrote 0xB0000 h v s P))) ∧
    (Admits 0x801 h (regParams 0x500E8 1) s →
      exec (.taborCtrlApply h 3) s = .next (replied 0x801 h (regParams 0x500E8 1) s (refuse 0x14 8 0x500E8) (writing 0x500E8 h 1 s))) ∧
    (n.val < 3 → Writes (0x50028 + 0x40 * n) h 1 s →
      exec (.taborCtrlApply h n) s =
        .next (wrote (0x50028 + 0x40 * n) h 1 s (taborApply n (placeWord (0x50028 + 0x40 * n) 1 (writing (0x50028 + 0x40 * n) h 1 s))))) ∧
    (Writes 0xC0020 h 1 s → exec (.pwrApplyVled h) s = .next (wrote 0xC0020 h 1 s (applyVled (writing 0xC0020 h 1 s)))) ∧
    (Writes 0xC0020 h 2 s → exec (.pwrApplyVcore h) s = .next (wrote 0xC0020 h 2 s (applyVcore (writing 0xC0020 h 2 s)))) ∧
    (Writes 0x24 h v s →
      exec (.sysBootCfgWrite h v) s = .next (wrote 0x24 h v s (storeReg 0x24 v (placeWord 0x24 v (writing 0x24 h v s)))))

/-- R396, R397, R411, R416, R428, R429: the rows of the fault registers and of CAN_CFG. -/
def Obligations.FaultAndCanRegisterRows : Prop :=
  ∀ (h : CmdHdr) (v : Word) (b : Fin 16) (src : Fin 32) (k : Fin 4) (param : BitVec 16) (s : State),
    (Writes (0x10000 * b + 0xFF00) h v s →
      exec (.fltStatClear h b v) s = .next (wrote (0x10000 * b + 0xFF00) h v s (clearStat b v (writing (0x10000 * b + 0xFF00) h v s)))) ∧
    (Writes (0x10000 * b + 0xFF28) h (injectWord src 0 0) s →
      exec (.fltInjectRecord h b src) s =
        .next (wrote (0x10000 * b + 0xFF28) h (injectWord src 0 0) s
          (injectRecord b src (writing (0x10000 * b + 0xFF28) h (injectWord src 0 0) s)))) ∧
    (Writes (0x10000 * b + 0xFF28) h (injectWord src param.toNat 1) s →
      exec (.fltInjectStimulus h b src param) s =
        .next (wrote (0x10000 * b + 0xFF28) h (injectWord src param.toNat 1) s
          (injectStimulus b src param.toNat (writing (0x10000 * b + 0xFF28) h (injectWord src param.toNat 1) s)))) ∧
    (Writes (0x10000 * b + 0xFF30 + 8 * k) h v s →
      exec (.fltTallyCfgWrite h b k v) s =
        .next (wrote (0x10000 * b + 0xFF30 + 8 * k) h v s
          (onFlts b (fun f => { f with tallies := modAt f.tallies k (fun y => { y with n := v.toNat / 32 % 256, wMs := v.toNat / 8192 % 16384, hist := [] }) })
            (writing (0x10000 * b + 0xFF30 + 8 * k) h v s)))) ∧
    (Writes 0x40000 h v s →
      exec (.canCfgEnable h v) s = .next (wrote 0x40000 h v s (writeCanCfg v (writing 0x40000 h v s))) ∧
      exec (.canAutoRecover h v) s = .next (wrote 0x40000 h v s (writeCanCfg v (writing 0x40000 h v s))))

/-- R94, R98 to R103: the messages of bring-up, and block lock. -/
def Obligations.BringUpMessages : Prop :=
  ∀ (lane : Fin 4) (b : BitVec 64) (inv : Bool) (s : State),
    (∀ c ∈ [Instr.tsAdv lane b, .tsAck lane b, .speedReq lane b, .eqDone lane b, .linkUp lane b, .abort lane b],
      (s.listens lane = false → exec c s = .next (settle s)) ∧
      (s.listens lane = true → blkOk b = false → exec c s = .next (settle (crcErr s)))) ∧
    (Train b 1 lane s → s.link.ls = .detect → lane.val = 0 → (s.lane 0).locked = true →
      exec (.tsAdv lane b) s =
        .next (settle (sendTrain 1 s.wired s.wired 1 ((advertised lane b s).onLink (fun l => { l with ls := .config }))))) ∧
    (Train b 1 lane s → s.link.ls = .config →
      exec (.tsAdv lane b) s =
        .next (settle (sendTrain 2 (advertised lane b s).commonSet (advertised lane b s).commonSet 1 (advertised lane b s)))) ∧
    (Train b 2 lane s → s.link.ls = .config → BitVec.ofNat 4 (blkByte b 2 / 16) = (heard lane b s).commonSet →
      let A := onLane lane (fun l => { l with acks := l.acks + 1 }) (heard lane b s)
      let set := (heard lane b s).commonSet
      (set = 0 ∨ (lanesOf set).all (fun n => decide (8 ≤ (A.lane n).acks)) = false → exec (.tsAck lane b) s = .next (settle A)) ∧
      (set ≠ 0 → (lanesOf set).all (fun n => decide (8 ≤ (A.lane n).acks)) = true →
        exec (.tsAck lane b) s =
          .next (settle (onLanes (s.wired &&& ~~~set) Lane.drop (useSet set (A.onLink (fun l => { l with ls := .step, linkUpSent := false }))))))) ∧
    (Train b 3 lane s → s.link.ls = .step →
      let H := heard lane b s
      let g := blkByte b 3 / 16
      (g = 0 ∨ s.link.cap.toNat < g →
        exec (.speedReq lane b) s =
          .next (settle (endAttempt (record bLINK 7 noUnit
            (sendTrain 7 (H.bump 0x30068 0 16 1).link.agreed (H.bump 0x30068 0 16 1).link.agreed (H.bump 0x30068 0 16 1).link.grade.toNat
              (H.bump 0x30068 0 16 1)))))) ∧
      (1 ≤ g → g ≤ s.link.cap.toNat →
        exec (.speedReq lane b) s =
          .next (settle (tryAdapt ((iter 17 (fun s => sendTrain 4 s.link.agreed s.link.agreed g s) H).onLink (fun l =>
            { l with grade := BitVec.ofNat 3 g, linkUpSent := true,
                     lanes := if H.link.grade.toNat = g then l.lanes else l.lanes.map (fun x => { x with locked := false }) })))))) ∧
    (Train b 5 lane s → s.link.ls = .adapt →
      exec (.eqDone lane b) s = .next (settle (tryRejoin (tryLinkUp (onLane lane (fun l => { l with partnerReady := true }) (heard lane b s)))))) ∧
    (Train b 6 lane s → s.link.ls = .linkUp →
      exec (.linkUp lane b) s = .next (settle (tryActive ((heard lane b s).onLink (fun l => { l with linkUpGot := true }))))) ∧
    (Train b 6 lane s → s.link.ls = .recovery →
      let H := heard lane b s
      let set := H.lockedSet &&& H.link.agreed
      let J := onLanes set Lane.join (onLanes (H.link.agreed &&& ~~~set) Lane.drop (sendUp set H))
      set ≠ 0 →
        exec (.linkUp lane b) s =
          .next (settle (flush (resendAll (portChanged ((useSet set J).onLink (fun l => { l with ls := .active, linkUpGot := true, stalls := 0 }))))))) ∧
    (Train b 7 lane s → bringing s.link.ls = true → exec (.abort lane b) s = .next (settle (endAttempt (heard lane b s)))) ∧
    (s.listens lane = true →
      exec (.blockLockGain lane inv) s =
        .next (settle (tryUp (tryAdapt
          (onLane lane (fun l => { l with locked := true, invHdrs := [], polInv := if s.link.ls = .detect then inv else l.polInv }) s)))))

/-- R91, R98, R104, R121: the timers of bring-up, the reference clock, and the eye minimum: each completes in every state. -/
def Obligations.BringUpTimers : Prop :=
  ∀ (lane : Fin 4) (s : State),
    (s.link.ls = .detect → exec .bringupStateTimeout s = .next (settle (endAttempt s))) ∧
    (s.link.ls = .config ∨ s.link.ls = .step ∨ s.link.ls = .linkUp → exec .bringupStateTimeout s = .next (settle (startDetect s))) ∧
    (s.link.ls = .adapt → s.passed ≠ 0 → exec .bringupStateTimeout s = .next (settle (enterLinkUp s))) ∧
    (s.link.ls = .adapt → s.passed = 0 → 2 ≤ s.link.grade.toNat →
      exec .bringupStateTimeout s =
        .next (settle (s.onLink (fun l =>
          { l with ls := .step, grade := s.link.grade - 1, cap := (s.link.grade - 1).setWidth 4, linkUpSent := false,
                   lanes := l.lanes.map (fun x => { x with locked := false, ready := false, partnerReady := false }) })))) ∧
    (s.link.ls = .adapt → s.passed = 0 → s.link.grade.toNat ≤ 1 → exec .bringupStateTimeout s = .next (settle (endAttempt s))) ∧
    (bringing s.link.ls = false → exec .bringupStateTimeout s = .next (settle s)) ∧
    (exec .attemptTimeout s = .next (settle (bootReady (if bringing s.link.ls = true then endAttempt s else s)))) ∧
    (exec .recoveryTimeout s = .next (settle (if s.link.ls = .recovery then startDetect (record bLINK 5 noUnit s) else s))) ∧
    (let L := s.onLink (fun l => { l with refclkOk := false })
     let D := if s.pdIs 3 .on = true then startDetect L else L
     exec .refclkLoss s = .next (settle (timeBase true (if s.link.refclkOk = true then record bLINK 6 noUnit D else D)))) ∧
    (let R := timeBase false (s.onLink (fun l => { l with refclkOk := true }))
     exec .refclkRestore s =
       .next (settle (if s.link.refclkOk = true then s else if R.pdIs 3 .on = true then startDetect R else R))) ∧
    (s.link.ls = .adapt ∨ (s.link.ls = .recovery ∧ s.link.agreed.getLsbD lane = true) ∨
        (s.link.ls = .active ∧ (s.lane lane).dropped = true ∧ (s.lane lane).locked = true) →
      exec (.eyeMinimumMet lane) s =
        .next (settle (tryRejoin (tryUp (tryLinkUp (sendTrain 5 (BitVec.ofNat 4 (2 ^ lane.val)) s.link.agreed s.link.grade.toNat
          (onLane lane (fun l => { l with ready := true })
            (s.onLink (fun l => { l with cal := modAt l.cal lane (fun c => { c with count := c.count + 1, last := s.stamp, failed := false }) })))))))))

/-- R127 to R132: lanes leave and rejoin the link. -/
def Obligations.LanesLeaveAndRejoin : Prop :=
  ∀ (lane : Fin 4) (gap : Nat) (b : BitVec 64) (s : State),
    let L := onLane lane (fun l => { l with locked := false, ready := false, invHdrs := [] }) s
    (s.link.ls ≠ .active ∨ s.link.agreed.getLsbD lane = false → exec (.blockLockLoss lane) s = .next (settle L)) ∧
    (s.link.ls = .active → s.link.agreed.getLsbD lane = true →
      let D := countDrop lane L
      let left := D.link.active &&& D.lockedSet &&& D.link.agreed
      (left ≠ 0 →
        exec (.blockLockLoss lane) s =
          .next (settle ((sendCtrl D.link.active (mkBlk [0x66, 4, BitVec.ofNat 8 D.lockedSet.toNat]) D).onLink (fun l => { l with dropSent := true })))) ∧
      (left = 0 →
        let on := D.lockedSet &&& D.wired &&& ~~~D.fencedSet
        exec (.blockLockLoss lane) s =
          .next (settle (enterRecovery (D.onLink (fun l =>
            { l with prefer := l.agreed &&& ~~~l.active, agreed := if on = 0 then s.link.agreed else on })))))) ∧
    (s.listens lane = true →
      let inv := 0 :: ((s.lane lane).invHdrs.map (· + gap + 1)).filter (· < 1024)
      let H := onLane lane (fun l => { l with invHdrs := inv }) (s.bump (0x30028 + 0x10 * lane) 0 32 1)
      let R := recordT bLINK 0 (atUnit lane) H
      let lost := R.2 = true ∨ (32 ≤ inv.length ∧ (H.lane lane).locked = true)
      (lost → exec (.laneErr ⟨lane, gap⟩) s = .next (settle (dropLane lane R.1))) ∧
      (¬lost → exec (.laneErr ⟨lane, gap⟩) s = .next (settle R.1))) ∧
    (Ctl b 4 → s.link.ls = .active →
      let m := BitVec.ofNat 4 (blkByte b 2) &&& s.lockedSet &&& s.link.agreed &&& ~~~s.fencedSet
      (m ≠ 0 →
        exec (.laneDrop b) s =
          .next (settle (switchTo m (activeOf m) ((lanesOf (s.link.agreed &&& ~~~m)).foldl (fun s n => countDrop n s) s)))) ∧
      (m = 0 → exec (.laneDrop b) s = .next (settle (enterRecovery s)))) ∧
    (Ctl b 5 → s.link.ls = .active →
      let a := BitVec.ofNat 4 (blkByte b 2)
      let m := s.lockedSet &&& s.link.agreed &&& ~~~s.fencedSet
      let k := (lanesOf a).length
      let answers := s.link.dropSent = true ∧ a ≠ 0 ∧ a &&& ~~~m = 0 ∧ blkByte b 3 = k ∧ k ≠ 3
      (answers → widthOf m = k → exec (.laneSwitch b) s = .next (settle (switchTo m a (onLanes (m &&& ~~~m) Lane.drop s)))) ∧
      (answers → widthOf m ≠ k → exec (.laneSwitch b) s = .next (settle (switchTo a a (onLanes (m &&& ~~~a) Lane.drop s)))) ∧
      (¬answers → a = s.link.active → exec (.laneSwitch b) s = .next (settle s)) ∧
      (¬answers → a ≠ s.link.active → exec (.laneSwitch b) s = .next (settle (enterRecovery s)))) ∧
    (s.link.ls = .active → s.link.dropSent = true →
      exec .laneSwitchTimeout s = .next (settle (enterRecovery (record bLINK 4 noUnit s)))) ∧
    (Ctl b 6 → s.link.ls = .active →
      let m := BitVec.ofNat 4 (blkByte b 2) &&& s.rejoinable
      exec (.rejoin b) s = .next (settle ((sendLinkctl [7, BitVec.ofNat 8 m.toNat] s).onLink (fun l => { l with rejoinSet := m })))) ∧
    (Ctl b 7 → s.link.ls = .active →
      exec (.rejoinAck b) s =
        .next (settle (s.onLink (fun l => { l with rejoinSet := BitVec.ofNat 4 (blkByte b 2) &&& s.rejoinable })))) ∧
    ((s.lane lane).dropped = true →
      let S := onLane lane (fun l => { l with holdOver := true }) s
      let go := S.rejoinable &&& laneSet S (fun l => l.holdOver)
      (s.link.ls = .active → s.autoRejoin = true → go ≠ 0 →
        exec (.rejoinHoldExpiry lane) s = .next (settle (sendLinkctl [6, BitVec.ofNat 8 go.toNat] S))) ∧
      (s.link.ls ≠ .active ∨ s.autoRejoin = false ∨ go = 0 → exec (.rejoinHoldExpiry lane) s = .next (settle S))) ∧
    (s.listens lane = true → blkOk b = true → blkByte b 0 = 0x4B → blkByte b 1 = lane.val →
      let a := BitVec.ofNat 4 (blkByte b 2)
      exec (.align lane b false) s = .next (settle (dropLane lane s)) ∧
      (s.link.ls = .active → a = s.link.active ∨ a = activeOf (s.link.agreed ||| s.link.rejoinSet) →
        exec (.align lane b true) s = .next (settle (s.onLink (fun l => { l with rxActive := a })))) ∧
      (s.link.ls ≠ .active → exec (.align lane b true) s = .next (settle s)))

/-- R117 to R122: acknowledgement, replay and credits. -/
def Obligations.AckAndCredit : Prop :=
  ∀ (b : BitVec 64) (s : State),
    (s.onAir = true → blkOk b = false → ∀ c ∈ [Instr.ack b, .nak b, .credit b, .laneDrop b, .laneSwitch b, .rejoin b, .rejoinAck b],
      exec c s = .next (settle (crcErr s))) ∧
    (Ctl b 1 → s.link.ls = .active → exec (.ack b) s = .next (settle (flush (releaseAcked (BitVec.ofNat 16 (fld b 16 16)) s)))) ∧
    (Ctl b 2 → s.link.ls = .active → exec (.nak b) s = .next (settle (flush (replay (releaseAcked (BitVec.ofNat 16 (fld b 16 16)) s))))) ∧
    (Ctl b 3 → s.link.ls = .active ∨ s.link.ls = .linkUp ∨ s.link.ls = .recovery → blkByte b 2 < 3 →
      (BitVec.ofNat 16 (fld b 24 16) - s.link.hostLimit.getD (blkByte b 2) 0).toNat < 32768 →
      exec (.credit b) s =
        .next (settle (flush (tryActive (s.onLink (fun l =>
          { l with hostLimit := l.hostLimit.set (blkByte b 2) (BitVec.ofNat 16 (fld b 24 16)),
                   hostSeen := l.hostSeen.set (blkByte b 2) true })))))) ∧
    (s.link.ls = .active → 0 < s.link.sinceAck → exec .ackDue s = .next (settle (sendAck s))) ∧
    (s.link.ls = .active ∨ s.link.ls = .linkUp → exec .creditRefresh s = .next (settle (sendCredits s))) ∧
    (s.link.ls = .active → s.link.retry ≠ [] → s.link.stalls < 4 →
      exec .replayTimeout s = .next (settle (flush (resendAll (s.onLink (fun l => { l with stalls := l.stalls + 1 })))))) ∧
    (s.link.ls = .active → s.link.retry ≠ [] → 4 ≤ s.link.stalls →
      exec .replayTimeout s =
        .next (settle (flush (enterRecovery (record bLINK 4 noUnit (s.onLink (fun l => { l with stalls := 0 }))))))) ∧
    (s.link.ls = .active → exec .partialTo s = .next (settle (record bLINK 3 noUnit (sendNak 3 s))))

/-- R105 to R108: the adaptation qualifier and the eye monitor. -/
def Obligations.LineMonitors : Prop :=
  ∀ (lane : Fin 4) (trans one runs : Nat) (hs ws : List Nat) (s : State),
    (let l := s.lane lane
     let q := l.qual
     let meets (t u : Nat) : Bool := decide (t * 65536 ≤ trans * 256) && decide (u * runs ≤ one * 256)
     let ns := l.frozenNs + windowLen s.link.grade.toNat
     let ends (x : Lane) (n : Nat) : Lane :=
       { x with qual := s.reg 0x30010, frozenNs := n, frozenMs := BitVec.ofNat 16 (Nat.min 65535 (n / 660000000)) }
     (l.frozen = false → meets (fld q 0 8) (fld q 16 8) = true →
       exec (.adaptWindowEnd lane trans one runs) s =
         .next (settle (onLane lane (fun x => { ends x l.frozenNs with coef := freshCoef s, frozen := false, goodWins := 0 }) (s.onFreeIdx (· + 4))))) ∧
     (l.frozen = false → meets (fld q 0 8) (fld q 16 8) = false → l.freezes ≠ 0xFFFF →
       exec (.adaptWindowEnd lane trans one runs) s =
         .next (settle (onLane lane (fun x =>
           { ends x l.frozenNs with coef := freshCoef s, frozen := true, goodWins := 0, freezes := l.freezes + 1 }) (s.onFreeIdx (· + 4))))) ∧
     (l.frozen = true → meets (fld q 8 8) (fld q 24 8) = true →
       exec (.adaptWindowEnd lane trans one runs) s =
         .next (settle (onLane lane (fun x =>
           { ends x ns with frozen := decide (l.goodWins < 3), goodWins := if l.goodWins < 3 then l.goodWins + 1 else 0 }) s))) ∧
     (l.frozen = true → meets (fld q 8 8) (fld q 24 8) = false →
       exec (.adaptWindowEnd lane trans one runs) s = .next (settle (onLane lane (fun x => { ends x ns with frozen := true, goodWins := 0 }) s)))) ∧
    (s.link.ls = .active →
      let see (t : State) (n : Nat) : State :=
        let h := hs.getD n 0
        let low := if h < 25 then (t.lane n).lowMs + 10 else 0
        let E := onLane n (fun l => { l with eyeH := BitVec.ofNat 12 h, eyeW := BitVec.ofNat 10 (ws.getD n 0), lowMs := Nat.min 1010 low }) t
        if low = 1000 then record bLINK 8 (atUnitVal n h) E else E
      exec (.eyeMeasure hs ws) s = .next (settle ((lanesOf s.wired).foldl see s)))

/-- R109, R115, R187, R197: CMD, WR and FEN packets. -/
def Obligations.PacketsGoToTheirBlock : Prop :=
  ∀ (raw pl : Bytes) (p : CmdPkt) (s : State),
    (Framed 1 raw pl s → parseCmd ((received 1 pl s).dialectL .envex) .envex pl = some p →
      exec (.cmdPacket raw) s = .next (settle (arrive p (creditsOf pl.length) (cvInner .envex true (received 1 pl s))))) ∧
    (Framed 1 raw pl s → parseCmd ((received 1 pl s).dialectL .envex) .envex pl = none →
      let E := record bCLAP 0 noUnit (cvInner .envex false (returnCredits 0 (creditsOf pl.length) (received 1 pl s)))
      exec (.cmdPacket raw) s =
        .next (settle (postEvent bCLAP ((E.flts bCLAP).sev 0) 8 ([0, 0, 0, 0] ++ padTo 16 (pl.take 16)) E))) ∧
    (Framed 3 raw pl s →
      let R := received 3 pl s
      let a := numAt pl 0 4
      let h := u16At pl 4
      let bs := pl.drop 8
      let W := disturbScan 0 a bs.length (writeStore (a - storeBase) bs R)
      (R.pdIs 7 .on = false → exec (.wr raw) s = .next (settle R)) ∧
      (R.pdIs 7 .on = true → wrReason a h bs.length R = 0 →
        exec (.wr raw) s = .next (settle (snoopWrite (fld h 0 8) (a - storeBase - (W.buf (fld h 0 8)).base) bs W))) ∧
      (R.pdIs 7 .on = true → wrReason a h bs.length R ≠ 0 →
        exec (.wr raw) s = .next (settle (wrViol (wrReason a h bs.length R) a h s.link.expSeq R)))) ∧
    (Framed 4 raw pl s →
      let R := received 4 pl s
      let n := numAt pl 0 1 % 64
      ((R.fence n).st = .armed → exec (.fen raw) s = .next (settle (setFence n { R.fence n with st := .signalled, since := (R.tabor 2).count } R))) ∧
      ((R.fence n).st = .timedOut → exec (.fen raw) s = .next (settle (setFence n fenceFree R))) ∧
      ((R.fence n).st = .free ∨ (R.fence n).st = .signalled →
        exec (.fen raw) s = .next (settle (wrViol 5 0xFFFFFFFF (BitVec.ofNat 16 n) s.link.expSeq R))))

/-- R361, R363: copies of safety messages, and the skew window. -/
def Obligations.SafetyCopies : Prop :=
  (∀ (raw pl : Bytes) (s : State), Framed 5 raw pl s → (received 5 pl s).pdIs 8 .on = true →
    let R := received 5 pl s
    let C := cvCheck 2 (decide (smsgCheck pl true R ≠ 1)) R
    ∀ c ∈ [Instr.damperSet (.envex raw), .beamState (.envex raw), .safeReq (.envex raw)],
      (smsgCheck pl true R = 0 → exec c s = .next (settle (touchDamper R.damper (compareCopy (copyOf pl) true C)))) ∧
      (smsgCheck pl true R = 3 → exec c s = .next (settle (touchDamper R.damper (C.bump 0xD0098 0 32 1)))) ∧
      (smsgCheck pl true R ≠ 0 → smsgCheck pl true R ≠ 3 →
        exec c s = .next (settle (touchDamper R.damper (refuseCopy (smsgCheck pl true R) pl true C))))) ∧
  (∀ (m : Bytes) (s : State), s.canOn = true → s.pdIs 8 .on = true →
    let C := cvCheck 2 (decide (smsgCheck m false s ≠ 1)) s
    ∀ c ∈ [Instr.damperSet (.can m), .beamState (.can m), .safeReq (.can m)],
      (smsgCheck m false s = 0 → s.pathMode ≠ 0 →
        exec c s =
          .next (settle (touchDamper s.damper (verify (copyOf m) false
            (C.onSafe (fun f => { f with seqOpen := Nat.max f.seqOpen ((u32At m 4).toNat + 1) })))))) ∧
      (smsgCheck m false s = 0 → s.pathMode = 0 → s.safe.pend.find? (fun e => e.seq = u32At m 4) = none →
        exec c s = .next (settle (touchDamper s.damper (openPend (copyOf m) false C)))) ∧
      (∀ e, smsgCheck m false s = 0 → s.pathMode = 0 → s.safe.pend.find? (fun e => e.seq = u32At m 4) = some e →
        (e.body = smsgBody m → exec c s = .next (settle (touchDamper s.damper (verify (copyOf m) true (closePend e C))))) ∧
        (e.body ≠ smsgBody m → exec c s = .next (settle (touchDamper s.damper (mismatch e (copyOf m) C))))) ∧
      (smsgCheck m false s = 3 → exec c s = .next (settle (touchDamper s.damper (C.bump 0xD0098 0 32 1)))) ∧
      (smsgCheck m false s ≠ 0 → smsgCheck m false s ≠ 3 →
        exec c s = .next (settle (touchDamper s.damper (refuseCopy (smsgCheck m false s) m false C))))) ∧
  (∀ (seq : Word) (e : Pend) (s : State), s.safe.pend.find? (fun e => e.seq = seq) = some e →
    exec (.skewTimeout seq) s =
      .next (settle (addCause 0 (record bSAFE 7 noUnit
        (s.onSafe (fun f => { f with pend := f.pend.erase e, cleanSkew := 0 }))))))

/-- R443 to R449: time messages and the events of the Tabors. -/
def Obligations.TimeMessages : Prop :=
  (∀ (raw pl : Bytes) (s : State), Framed 6 raw pl s →
    let R := received 6 pl s
    let n := numAt pl 2 1 % 2
    let auth := decide (numAt pl 2 1 / 2 % 2 = 1)
    tsyFormat pl = true → R.tMode n = 1 →
    (numAt pl 1 1 = 1 → R.portUsed n ≠ 1 → exec (.sync (.envex raw)) s = .next (settle R)) ∧
    ((numAt pl 1 1 = 1 → R.portUsed n = 1) →
    (∀ c ∈ [Instr.sync (.envex raw), .followUp (.envex raw), .delayResp (.envex raw)],
      ((auth && !tsyMacOk pl R) || (!auth && R.tsyMacNeeded n)) = true →
      exec c s =
        .next (settle (authFail .envex 2 (numAt pl 3 1)
          (onTabor n (fun t => { t with exch := none }) (record bTABOR 10 (atUnit n) R))))) ∧
    (((auth && !tsyMacOk pl R) || (!auth && R.tsyMacNeeded n)) = false →
      (numAt pl 1 1 = 1 → exec (.sync (.envex raw)) s = .next (settle (tsySync n 1 pl (replayBit raw) R))) ∧
      (numAt pl 1 1 = 2 → exec (.followUp (.envex raw)) s = .next (settle (tsyFollowUp n 1 pl (replayBit raw) R))) ∧
      (numAt pl 1 1 = 4 → exec (.delayResp (.envex raw)) s = .next (settle (tsyDelayResp n 1 pl (replayBit raw) R)))))) ∧
  (∀ (m : Bytes) (s : State),
    let n := numAt m 2 1 % 2
    let auth := decide (numAt m 2 1 / 2 % 2 = 1)
    s.canOn = true → tsyFormat m = true → s.tMode n = 1 →
    (numAt m 1 1 = 1 → s.portUsed n ≠ 2 → exec (.sync (.can m)) s = .next (settle s)) ∧
    ((numAt m 1 1 = 1 → s.portUsed n = 2) → ((auth && !tsyMacOk m s) || (!auth && s.tsyMacNeeded n)) = false →
      (numAt m 1 1 = 1 → exec (.sync (.can m)) s = .next (settle (tsySync n 2 m false s))) ∧
      (numAt m 1 1 = 2 → exec (.followUp (.can m)) s = .next (settle (tsyFollowUp n 2 m false s))) ∧
      (numAt m 1 1 = 4 → exec (.delayResp (.can m)) s = .next (settle (tsyDelayResp n 2 m false s))))) ∧
  (∀ (dom : Fin 2) (falling : Bool) (s : State),
    ((s.tabor dom).exch ≠ none →
      exec (.exchangeTimeout dom) s = .next (settle (record bTABOR 5 (atUnit dom) (onTabor dom (fun t => { t with exch := none }) s)))) ∧
    (s.tMode dom = 1 → (s.tabor dom).state = 2 → exec (.holdover dom) s = .next (settle (holdover dom s))) ∧
    (s.lands = false → exec (.camsyncEdge falling) s = .next (settle s)) ∧
    ((s.tabor 1).running = true → s.lands = true → falling = (s.rfld (tbA 1 0x38) 12 1 == 1) →
      let E := s.onTab (fun b => { b with camT1 := (s.tabor 1).ns, camT3 := s.now })
      exec (.camsyncEdge falling) s = .next (settle (if s.tMode 1 = 2 then camEdge E else E))) ∧
    (s.tMode 1 = 2 → s.tab.camE0 ≠ none →
      exec .camLoss s =
        .next (settle (holdover 1 ((record bTABOR 7 (atUnit 1) s).onTab (fun b =>
          { b with camE0 := none, camK := 0, camLastEdge := none, camAccepted := 0 }))))))

/-- R370, R374, R454, R473: further time-driven events. -/
def Obligations.TimeDrivenEvents : Prop :=
  ∀ (ppb : Int) (seq : Word) (s : State),
    (s.safe.refreshArmed = true → s.refreshMs ≠ 0 → exec .refreshTo s = .next (settle (addCause 3 (record bSAFE 9 noUnit s)))) ∧
    (s.sys.st = .degraded → exec .degLimit s = .next (settle (enterGong 4 (record bSAFE 13 noUnit s)))) ∧
    (s.tab.onCrystal = false → s.powered = true → s.tab.xtalHist.length < 16 →
      exec (.xtalWindow ppb) s =
        .next (settle (calDoneAll (fun k => decide (k = .calXo)) 1 (s.onTab (fun b =>
          { b with xtalPpb := ppb, ratioValid := true, xtalHist := (ppb :: b.xtalHist).take 16, xtalCount := b.xtalCount + 1,
                   xtalLast := s.stamp }))))) ∧
    (s.tab.onCrystal = true ∨ s.powered = false → exec (.xtalWindow ppb) s = .next (settle s)) ∧
    (∀ (l : LongCmd) (n g : Nat) (op : BitVec 16) (ps : Bytes) (late : Bool),
      s.clap.long.find? (fun l => l.ctx.ledger = some seq) = some l → l.kind = .schedule n g op ps late →
      (s.clap.queue.any (fun q => q.what = .due seq) = false →
        exec (.scheduleAtDue seq) s = .next (settle (enqueueDue seq (late || decide (g + 100000 < (s.tabor n).ns)) s))) ∧
      (s.clap.queue.any (fun q => q.what = .due seq) = true → exec (.scheduleAtDue seq) s = .next (settle s)))

/-- R387 to R399: frames and events of CAN FD. -/
def Obligations.CanEvents : Prop :=
  ∀ (id : BitVec 11) (d : Byte) (rest data : Bytes) (sending special : Bool) (s : State),
    let G := canRxGood s
    (s.canOn = true → id.toNat = s.canBase + 2 + s.side → s.can.reasm.find? (fun r => r.id == id.toNat) = none → d.toNat = 0 →
      let F := (G.onCan (fun c => { c with broken := c.broken.filter (· != id.toNat) })).onCan (fun c =>
        { c with reasm := c.reasm.filter (fun x => x.id != id.toNat) })
      exec (.canFragment id (d :: rest)) s =
        .next (settle (rxCmd .can 0 (rest.take (carriedLen (2 + s.side) s.sys.profileL rest)) F))) ∧
    (s.canOn = true → id.toNat = s.canBase + 2 + s.side → s.can.reasm.find? (fun r => r.id == id.toNat) = none →
      d.toNat % 16 = 0 → 1 ≤ d.toNat / 16 → d.toNat / 16 ≤ 8 →
      let F := (G.onCan (fun c => { c with broken := c.broken.filter (· != id.toNat) })).onCan (fun c =>
        { c with reasm := c.reasm.filter (fun x => x.id != id.toNat) })
      exec (.canFragment id (d :: rest)) s =
        .next (settle (F.onCan (fun c => { c with reasm := ⟨id.toNat, 1, d.toNat / 16, rest⟩ :: c.reasm })))) ∧
    (s.can.reasm.any (fun r => r.id == id.toNat) = true →
      exec (.reasmTimeout id) s =
        .next (settle (record bCAN 3 noUnit ((s.onCan (fun c =>
          { c with reasm := c.reasm.filter (fun r => r.id != id.toNat),
                   broken := id.toNat :: c.broken.filter (· != id.toNat) })).bump 0x40014 0 16 1)))) ∧
    (s.canOn = true → id.toNat = s.canBase + 1 → exec (.canTsyFrame id data) s = .next (settle (tsyMsg 2 data false G))) ∧
    (s.canOn = true → id.toNat = s.canBase + 4 + s.side → exec (.canFragment id data) s = .next (settle (record bCAN 5 noUnit G))) ∧
    (s.canOn = true →
      exec .busOff s =
        .next (settle (record bCAN 2 noUnit (s.onCan (fun c =>
          { c with busOff := true, recovering := s.rfld 0x40000 1 1 == 1, reasm := [] }))))) ∧
    (s.can.busOff = true → s.can.recovering = true →
      exec .busOffRecovered s =
        .next (settle (flush (s.onCan (fun c => { c with busOff := false, recovering := false, txErr := 0, rxErr := 0 }))))) ∧
    (∀ p more, s.can.txq = p :: more →
      exec .txTimeout s = .next (settle (record bCAN 4 noUnit ((s.onCan (fun c => { c with txq := more })).bump 0x40014 16 16 1))) ∧
      (∀ f, s.canOn = true → p.frames = [f] → p.tsy = none →
        exec .canTxComplete s =
          .next (settle (markDelivered p.tag (s.onCan (fun c => { c with sent := c.sent ++ [(s.canBase + p.off, f)], txErr := c.txErr - 1, txq := more }))))) ∧
      (∀ f g fs, s.canOn = true → p.frames = f :: g :: fs → p.tsy = none →
        exec .canTxComplete s =
          .next (settle (s.onCan (fun c =>
            { c with sent := c.sent ++ [(s.canBase + p.off, f)], txErr := c.txErr - 1, txq := { p with frames := g :: fs } :: more }))))) ∧
    (s.canOn = true →
      let tec := s.can.txErr + (errCounts (CanErr.of sending special)).1
      let rec' := s.can.rxErr + (errCounts (CanErr.of sending special)).2
      let E := s.onCan (fun c => { c with txErr := Nat.min 255 tec, rxErr := Nat.min 255 rec' })
      (tec < 96 → rec' < 96 → exec (.canBusError sending special) s = .next (settle E)) ∧
      (s.can.txErr < 96 → s.can.rxErr < 96 → 96 ≤ tec ∨ 96 ≤ rec' → exec (.canBusError sending special) s = .next (settle (record bCAN 0 noUnit E))) ∧
      (96 ≤ s.can.txErr → 96 ≤ s.can.rxErr → s.can.txErr < 128 → s.can.rxErr < 128 → 128 ≤ tec ∨ 128 ≤ rec' →
        exec (.canBusError sending special) s = .next (settle (record bCAN 1 noUnit E))) ∧
      (128 ≤ s.can.txErr → s.can.txErr < 256 → 256 ≤ tec → exec (.canBusError sending special) s = .next (settle (busOffEvent E))))

/-- R579, R580: transactions of the service SPI. -/
def Obligations.SpiTransactions : Prop :=
  (∀ (mosi : Bytes) (clocked : Nat) (s : State), s.lands = false →
    ∀ c ∈ [Instr.writePkt mosi, .readLen, .readPkt clocked], exec c s = .next (settle s)) ∧
  ∀ (mosi : Bytes) (clocked : Nat) (s : State), s.lands = true →
    let n := numAt mosi 1 2
    let W := spiOut (spiStatus s) (zeros (mosi.length - 1)) (s.onSpi (fun p => { p with frameErr := false }))
    (byteAt mosi 0 = 1 → 20 ≤ n → n ≤ 4160 → s.spiReady = true → 3 + n ≤ mosi.length →
      exec (.writePkt mosi) s = .next (settle (rxCmd .spi 0 (sliceB mosi 3 n) W))) ∧
    (byteAt mosi 0 ≠ 1 ∨ n < 20 ∨ 4160 < n ∨ s.spiReady = false ∨ mosi.length < 3 + n →
      exec (.writePkt mosi) s = .next (settle (W.onSpi (fun p => { p with frameErr := true })))) ∧
    (s.spi.replies = [] →
      exec .readLen s = .next (settle (spiOut (spiStatus s) [0, 0, 0] (s.onSpi (fun p => { p with frameErr := false, lastLen := 0 })))) ∧
      exec (.readPkt clocked) s =
        .next (settle (spiOut (spiStatus s) (padTo clocked ([(0 : Byte)].take clocked)) (s.onSpi (fun p => { p with frameErr := false }))))) ∧
    (∀ b l rest, s.spi.replies = (b, l) :: rest →
      exec .readLen s =
        .next (settle (spiOut (spiStatus s) (0 :: natLe 2 b.length) (s.onSpi (fun p => { p with frameErr := false, lastLen := b.length })))) ∧
      (let R := spiOut (spiStatus s) (padTo clocked (((0 : Byte) :: b).take clocked)) (s.onSpi (fun p => { p with frameErr := false }))
       (clocked ≤ b.length → exec (.readPkt clocked) s = .next (settle R)) ∧
       (b.length + 1 ≤ clocked → (∀ x, l ≠ .reply x) →
         exec (.readPkt clocked) s = .next (settle (R.onSpi (fun p => { p with replies := rest })))) ∧
       (∀ x, b.length + 1 ≤ clocked → l = .reply x →
         exec (.readPkt clocked) s =
           .next (settle (modEntry x (fun e => if e.state = 1 then { e with state := 2 } else e) (R.onSpi (fun p => { p with replies := rest })))))))

/-- R279, R280: the beat boundary, in its parts. -/
def Obligations.BeatBoundary : Prop :=
  ∀ (heads : List (Option (BitVec 5))) (s : State),
    ((s.tabor 2).running = true →
      let A := (senseRoll s).onMal (fun m => { m with beat := m.beat + 1 })
      let B := if A.mal.stopDue then syncOwner (goDark A) else A
      let C := beatStart (releaseRepair (openCuts (vledBeat heads (hkBeat B))))
      (C.sys.st.run = true → C.pdIs 9 .on = true → C.mal.beat % C.frameBeats = 0 →
        exec (.beatBoundary heads) s = .next (settle (calBeat s (digitalTakeover (senseBeat (frameBoundary C)))))) ∧
      (C.sys.st.run = false ∨ C.pdIs 9 .on = false ∨ C.mal.beat % C.frameBeats ≠ 0 →
        exec (.beatBoundary heads) s = .next (settle (calBeat s (digitalTakeover (senseBeat C)))))) ∧
    ((s.tabor 2).running = false → exec (.beatBoundary heads) s = .next (settle (calBeat s s)))

/-- R283, R284, R302, R307: row writes. -/
def Obligations.RowWrites : Prop :=
  ∀ (m : Fin 9) (slot : BitVec 10) (seg : Nat) (o : RowObs) (s : State),
    (s.segOf m = none ∨ s.mal.scanning = false ∨ planeSlot slot.toNat = false → exec (.rowWrite m slot o) s = .next (settle s)) ∧
    (s.segOf m = some seg → s.mal.scanning = true → planeSlot slot.toNat = true →
      let A := s.onMal (fun x => { x with slot := slot.toNat })
      let e := A.scoreAt (seg * 1024 + slot.toNat)
      let k := scPlane e
      let y := 96 * seg + scRow e
      let N := onMallet m (fun x => { x with nextSlot := slotAfter slot.toNat, inOrder := x.inOrder && decide (x.nextSlot = slot.toNat) }) A
      (o.scoreUe = true → exec (.rowWrite m slot o) s = .next (settle (detect seg 4 false false A))) ∧
      (o.scoreUe = false → o.wrote = false ∨ A.hasStim bMALLET 2 m = true → exec (.rowWrite m slot o) s = .next (settle A)) ∧
      (o.scoreUe = false → o.wrote = true → A.hasStim bMALLET 2 m = false → o.inTime = false →
        exec (.rowWrite m slot o) s = .next (settle (deadlineMiss m seg y k N))) ∧
      (o.scoreUe = false → o.wrote = true → A.hasStim bMALLET 2 m = false → o.inTime = true → N.hasStim bPIX 1 y = false →
        let gs := o.ueGroups.map (·.val)
        let C := eccCorrected o.ce bPIX 0 0x80078 N
        let U := if gs.isEmpty then C else bankUnread (record bPIX 1 ((atUnitVal m y).inj false) C)
        let D := if k = 9 then U.onMal (fun x => { x with dark := x.dark.filter (· != y) }) else U
        let P := onMallet m (fun x => { x with writes := x.writes + 1 })
          (putLatch seg y slot.toNat (D.rowData y k (groupMask gs) (D.mal.dark.contains y)) o.parityOk D)
        (o.parityOk = true → exec (.rowWrite m slot o) s = .next (settle (shadowCheck seg (o.shadowDone && o.shadowOk) P))) ∧
        (o.parityOk = false → exec (.rowWrite m slot o) s = .next (settle (parityFault m seg (shadowCheck seg o.shadowDone P))))))

/-- R56, R297, R298, R301, R311: Strike, watchers, timers and readback. -/
def Obligations.StrikeAndWatchers : Prop :=
  ∀ (m : Fin 9) (seg : Fin 8) (j : BitVec 6) (segs : BitVec 8) (dev0 dev1 : List (Nat × BitVec 3)) (s : State),
    (s.mal.scanning = false → exec .strike s = .next (settle s) ∧ exec (.hangWatch m) s = .next (settle s) ∧
      exec (.latchReadback ⟨seg, j⟩ dev0 dev1) s = .next (settle s)) ∧
    (slotFn s.porch (16 * j.toNat + 15) ≠ .readback → exec (.latchReadback ⟨seg, j⟩ dev0 dev1) s = .next (settle s)) ∧
    (s.mal.scanning = true →
      let A := s.onMal (fun x => { x with slot := 1023 })
      (∀ n, n < 8 → A.hasStim bMALLET 9 n = false) → (∀ n, n < 9 → A.hasStim bMALLET 1 n = false ∧ A.hasStim bMALLET 2 n = false) →
      let ok (n : Nat) : Bool := A.mal.struck.getLsbD n || (match A.server n with | some m => A.earned m | none => false)
      let T := A.onMal (fun x => { x with struck := BitVec.ofNat 8 (sumL ((selN 8 ok).map (2 ^ ·))) })
      let clear (s : State) : State := (List.range 9).foldl (fun s m => dropStim bMALLET 1 m s) s
      (selN 8 (fun n => !ok n) = [] → exec .strike s = .next (settle (clear T))) ∧
      (∀ n, selN 8 (fun n => !ok n) = [n] → exec .strike s = .next (settle (clear (detect n 1 false false T)))) ∧
      (2 ≤ (selN 8 (fun n => !ok n)).length → exec .strike s = .next (settle (clear (record bMALLET 11 noUnit T))))) ∧
    (∀ g, s.segOf m = some g → s.mal.scanning = true → s.hasStim bMALLET 9 g = false →
      exec (.hangWatch m) s = .next (settle (detect g 2 (s.hasStim bMALLET 2 m) false (dropStim bMALLET 2 m s)))) ∧
    (s.isLit = true →
      let l := selN 8 (fun n => segs.getLsbD n)
      let E := l.foldl (fun s n => timerExpire n s) s
      (l = [] → exec (.gongTimerExpiry segs) s = .next (settle s)) ∧
      (∀ n, l = [n] → E.spareReady = true → E.mal.hits.all (· == n) = true →
        exec (.gongTimerExpiry segs) s = .next (settle (connectSpare n 9 true E))) ∧
      (∀ n, l = [n] → E.spareReady = false ∨ E.mal.hits.all (· == n) = false →
        exec (.gongTimerExpiry segs) s = .next (settle (connectSpare n 9 true (enterGong 3 E)))) ∧
      (∀ n k t, l = n :: k :: t →
        exec (.gongTimerExpiry segs) s = .next (settle (record bMALLET 10 (atUnitVal ((E.server n).getD 8) n) (enterGong 3 E))))) ∧
    (s.isLit = false → exec (.gongTimerExpiry segs) s = .next (settle s)) ∧
    (s.mal.scanning = true → slotFn s.porch (16 * j.toNat + 15) = .readback → s.mal.rbConfirm.filter (fun c => c.1 == seg.val) = [] →
      let p := s.mal.rbPtr.getD seg 0
      let A := s.onMal (fun x => { x with rbConfirm := x.rbConfirm.filter (fun c => c.1 != seg.val), rbPtr := x.rbPtr.set seg ((p + 2) % 96),
                                          slot := 16 * j.toNat + 15 })
      let B := readRow seg (96 * seg + p % 96) false dev0 A
      exec (.latchReadback ⟨seg, j⟩ dev0 dev1) s =
        .next (settle (if B.mal.scanning then readRow seg (96 * seg + (p + 1) % 96) false dev1 B else B)))

/-- R217, R254, R260, R184: bands of a frame, gain rebuild, zeroing. -/
def Obligations.BandsOfAFrame : Prop :=
  (∀ (lane : Fin 4) (o : BandObs) (j : Job) (band : Nat) (s : State),
    s.carl.job = some j → j.lanes.getD lane none = some band →
    let c := bandCe j o s
    (∀ b, o.bankUe = some b →
      exec (.bandComposed lane o) s =
        .next (settle (issueBands (bankError b (c.hasStim bSTORE 1 b) (dropStim bSTORE 1 b c))))) ∧
    (o.bankUe = none → (∀ b, c.hasStim bSTORE 1 b = false) →
      let ue := if j.fcOn then o.fcUe.filter (fun t => decide (t / 96 = band) && c.tileClean t) else []
      (o.residueBad = true ∨ c.hasStim bCARL 0 lane = true →
        exec (.bandComposed lane o) s = .next (settle (residueFault lane band (c.hasStim bCARL 0 lane) (dropStim bCARL 0 lane c)))) ∧
      (o.residueBad = false → c.hasStim bCARL 0 lane = false → o.lbUe = true → (zOrder j.sh).any (fun l => decide (l.1 < 2)) = true →
        exec (.bandComposed lane o) s = .next (settle (record bCARL 6 (atUnit lane) c))) ∧
      (o.residueBad = false → c.hasStim bCARL 0 lane = false → o.lbUe = false → ue = [] →
        exec (.bandComposed lane o) s = .next (settle (passBand lane band c))) ∧
      (∀ t, o.residueBad = false → c.hasStim bCARL 0 lane = false → o.lbUe = false → ue = [t] →
        exec (.bandComposed lane o) s =
          .next (settle (record bCARL 5 (atUnit t) (c.onCarl (fun c => { c with fcClean := spSet false c.fcClean t false }))))))) ∧
  (∀ (band : Fin 96) (o : ProcObs) (j : Job) (s : State),
    s.carl.job = some j → j.outs.any (fun e => e.1 == band.val) = true → j.words.any (fun e => e.1 == band.val) = false →
    let g := eccCorrected o.gainCe bPIX 3 0x80078 s
    (o.gainUe.filter (fun p => decide (p / 12288 = band.val)) = [] →
      exec (.bandProcessed band o) s = .next (settle (bandDone j band o g))) ∧
    (∀ p r, o.gainUe.filter (fun p => decide (p / 12288 = band.val)) = p :: r →
      (o.mramUe = false → exec (.bandProcessed band o) s = .next (settle (record bPIX 4 noUnit g))) ∧
      (o.mramUe = true →
        exec (.bandProcessed band o) s = .next (settle (record bNVM 1 (withVal (0x200000 + p * 10 / 8)) (record bPIX 4 noUnit g)))))) ∧
  (∀ (lane : Fin 4) (o : BandObs) (band : Fin 96) (q : ProcObs) (s : State), s.carl.job = none →
    exec (.bandComposed lane o) s = .next (settle s) ∧ exec (.bandProcessed band q) s = .next (settle s)) ∧
  (∀ (start : Nat) (s : State),
    (s.pix.rebuild = true → exec .gainRebuildDone s = .next (settle (s.onPix (fun p => { p with rebuild := false, rebuilt := true })))) ∧
    exec (.granuleZeroed start) s =
      .next (settle (s.onStore (fun t => { t with zeroing := t.zeroing.filter (fun r => r.1 != start) }))))

/-- R319, R321, R326, R338: sensing. -/
def Obligations.Sensing : Prop :=
  ∀ (strobe comply : List (BitVec 1536)) (codes : List (List Nat)) (refs : List Nat) (ue : List (Fin 9216)) (low high : List (List Nat)) (pairs : List (List (Nat × Nat))) (s : State),
    (s.pdIs 10 .on = true →
      let segs := selN 8 (fun n => s.sense.sensed.getLsbD n)
      exec (.senseCapture strobe comply) s =
        .next (settle (s.onSense (fun e =>
          { e with kinds := segs.map (fun n => (n, (List.range 1536).map (fun pc => s.kindAt n (96 * n + s.sense.row) pc (strobe.getD n 0)))),
                   comply := segs.map (fun n => (n, comply.getD n 0)) })))) ∧
    (s.pdIs 10 .on = false → exec (.senseCapture strobe comply) s = .next (settle s)) ∧
    (let u := (ue.map (·.val)).foldl (fun s t => rollUe t s) s
     let slices := u.sense.kinds.flatMap (fun k => (List.range 8).map (fun j => k.1 * 8 + j))
     let bad := slices.filter (fun i =>
       !u.sense.fenced.getLsbD i && (decide (3508 < sliceCode u i (refs.getD i 0)) || decide (sliceCode u i (refs.getD i 0) < 3492)))
     let rows := u.sense.kinds.map (fun k => (k.1, u.measOf bad codes k.1 k.2))
     exec (.rollClassify codes ⟨refs, ue⟩) s =
       .next (settle ((bad.foldl (fun s i => sliceResid i s) (rows.foldl (fun s r => applyRow r.1 r.2 s) u)).onSense (fun e =>
         { e with kinds := [], comply := [] })))) ∧
    (s.shadowing = true →
      let r := sliceFit (spareBeats low high pairs) s
      let S := calDoneAll (fun k => decide (k = .calSlice 64)) (if r.1.sense.spareMode = 2 then 2 else 1) r.1
      (r.2 = true → exec (.sliceFit low high pairs) s = .next (settle S)) ∧
      (r.2 = false → exec (.sliceFit low high pairs) s = .next (settle (calDoneAll (fun k => decide (k = .calSlice s.sense.spareOn)) 2 S)))) ∧
    (s.shadowing = false → exec (.sliceFit low high pairs) s = .next (settle s))

/-- R487, R490, R493, R497, R498: regulators. -/
def Obligations.RegulatorEvents : Prop :=
  ∀ (segs : BitVec 8) (ma : Nat) (s : State),
    (s.mal.scanning = false ∨ segs &&& ~~~s.mal.gongSegs = 0 →
      exec (.headShort segs) s = .next (settle s) ∧ exec (.fastRaiseRepeat segs) s = .next (settle s)) ∧
    (s.mal.scanning = true → segs &&& ~~~s.mal.gongSegs ≠ 0 →
      let m := segs &&& ~~~s.mal.gongSegs
      let R := if s.pwr.headShortDone then s else record bPWR 4 noUnit (s.onPwr (fun p => { p with headShortDone := true }))
      (R.pwr.owner = 2 → vMode R.pwr.vledArm = false →
        let E := ((selN 8 (fun n => m.getLsbD n)).foldl (fun s n => s.bump (0xC0040 + 4 * n) 16 16 1) R).onPwr
          (fun p => { p with vledCode := Nat.min (vledMax R.pwr.vledArm) (p.vledCode + 10) })
        exec (.headShort segs) s = .next (settle E) ∧ exec (.fastRaiseRepeat segs) s = .next (settle E)) ∧
      (R.pwr.owner ≠ 2 ∨ vMode R.pwr.vledArm = true →
        exec (.headShort segs) s = .next (settle R) ∧ exec (.fastRaiseRepeat segs) s = .next (settle R))) ∧
    (s.pwr.owner = 2 → exec .vledReg s = .next (settle (syncOwner ((record bPWR 0 noUnit s).onPwr (fun p => { p with fenced := true }))))) ∧
    (s.pwr.owner = 1 → exec .limpReg s = .next (settle (record bPWR 1 noUnit s))) ∧
    (s.powered = true → exec .vcoreReg s = .next (settle (record bPWR 2 noUnit s))) ∧
    exec .paceHoldEnd s = .next (settle (s.onPwr (fun p => { p with paceHold := false }))) ∧
    (s.pwr.owner = 2 → exec (.phaseShedding ma) s = .next (settle (s.onPwr (fun p => { p with phases := phasesAt p.phases ma })))) ∧
    (s.pwr.owner ≠ 2 → exec (.phaseShedding ma) s = .next (settle s) ∧ exec .vledReg s = .next (settle s))

/-- R344, R376, R483, R74: housekeeping, light budget, domains and BIST. -/
def Obligations.HousekeepingAndDomains : Prop :=
  ∀ (codes : List Nat) (d : Fin 12) (fails : List BistUnit) (s : State),
    (s.hk.running = true → s.pdIs 10 .on = true →
      let H := hkStart s
      let run := (H.hk.seq.zipIdx).filter (fun e => decide (H.hk.rep % hkDiv e.1 = 0))
      exec (.hkRepetition codes) s =
        .next (settle (((run.zip (codes ++ List.replicate 16 0)).foldl (fun s e => hkConvert e.1.2 e.1.1 e.2 s) H).onHk (fun h =>
          { h with rep := h.rep + 1 })))) ∧
    (s.hk.running = false ∨ s.pdIs 10 .on = false → exec (.hkRepetition codes) s = .next (settle s)) ∧
    (let A := s.onHk (fun h => { h with iseg := (List.range 8).map (fun n =>
       BitVec.ofNat 32 (Nat.min 65535 (rheN (sumL (s.frameMeans n)) (16 * Nat.max 1 (s.frameMeans n).length)) + (s.frameMeans n).length * 65536)) })
     (s.pdIs 8 .on = false ∨ s.safe.lbFrame = [] → exec .lightBudgetCheck s = .next (settle A)) ∧
     (s.pdIs 8 .on = true → s.safe.lbFrame ≠ [] →
       let B := (s.safe.lbFrame.zipIdx).foldl (fun s e => budgetSeg e.2 e.1 s)
         (A.onSafe (fun f => { f with lbFailed := 0, lbSkipped := 0, lbFrame := [] }))
       exec .lightBudgetCheck s =
         .next (settle (if B.safe.lbClean.all (fun n => decide (16 ≤ n)) then clearCause 6 B else B)))) ∧
    (s.powered = true → s.sys.pdWant.getD d .off = .on → s.pdIs d .on = false →
      exec (.powerGood d) s = .next (settle (stillDone (syncStb (s.onSys (fun y => { y with pd := y.pd.set d .on })))))) ∧
    (s.powered = true → d.val ≠ 0 →
      let O := if s.sys.pdWant.getD d .off = .on then s.onSys (fun y => { y with pd := y.pd.set d .off }) else s
      let R := record bSYS 1 (atUnit d) O
      exec (.domainSw d) s =
        .next (settle ((pdUnits d).foldl (fun s u => bistFailed u s)
          (if pdUnits d = [] then R else R.onSys (fun y => { y with bistFail := true }))))) ∧
    exec (.bistDone fails) s =
      .next (settle (gongBist (fails.filter (fun u => !s.sys.bist.contains u))
        (s.sys.bist.foldl (fun s u => unfenceDone fails u s) (s.onSys (fun y => { y with bist := [] })))))

/-- R78, R161, R424: a warm restart begins and ends. -/
def Obligations.WarmRestart : Prop :=
  ∀ (s : State),
    (s.clapRuns = true →
      let B (cause : Nat) : State := (s.onClap (fun c =>
          { c with restarting := true, cause := BitVec.ofNat 4 cause, evtDiscarded := c.evtDiscarded + c.evtQ.length, evtQ := [], irqHeld := !s.irqN,
                   evtLost := c.evtLost || !c.evtQ.isEmpty, retained := c.retained ++ s.spi.again,
                   held := c.held.map (fun l => { l with ctx := { l.ctx with replayed := true } }),
                   ledger := c.ledger.map (fun e =>
                     if e.state = 0 ∧ (c.long.any (fun l => decide (l.ctx.ledger = some e.lseq))) = false then { e with restarts := e.restarts + 1 } else e) })).onSpi
        (fun p => { p with replies := [] })
      let W (cause : Nat) : State := endService ((recordLost s.clap.evtQ (B cause)).onSys (fun y =>
          { y with rstLast := BitVec.ofNat 4 cause, warmCount := if y.warmCount = 0xFFFF then y.warmCount else y.warmCount + 1 }))
      (s.freeSlot = none →
        exec .clapperWatchdog s = .next (settle (record bCLAP 6 noUnit (W 5))) ∧
        exec .fatalError s = .next (settle (record bCLAP 7 noUnit (W 4)))) ∧
      (∀ k, s.freeSlot = some k →
        exec .clapperWatchdog s =
          .next (settle ((writeDump k 5 (record bCLAP 6 (atUnit k) (W 5))).onClap (fun c => { c with dumpDone := some k }))) ∧
        exec .fatalError s =
          .next (settle ((writeDump k 4 (record bCLAP 7 (atUnit k) (W 4))).onClap (fun c => { c with dumpDone := some k }))))) ∧
    (s.clap.restarting = true →
      let M := mendFloor (s.freeNext.onClap (fun c => { c with restarting := false, evtDiscarded := 0, dumpDone := none, retained := [] }))
      let E := postEvent bCLAP 0 9 (BitVec.ofNat 8 s.clap.cause.toNat :: natLe 2 (Nat.min 65535 s.clap.evtDiscarded)) M
      let D := match s.clap.dumpDone with
        | some k => postEvent bCLAP 0 11 [BitVec.ofNat 8 k] E
        | none => E
      let R := s.clap.retained.foldl (fun s x => run7 x s) (s.clap.ledger.foldl (replayEntry (Config.ledgerUe s.freeIdx)) D)
      (R.link.heldCredits = 0 → exec .warmRestart s = .next (settle R)) ∧
      (R.link.heldCredits ≠ 0 →
        exec .warmRestart s =
          .next (settle (sendCredit 0 (R.onLink (fun l =>
            { l with ownLimit := modAt l.ownLimit 0 (· + l.heldCredits), heldCredits := 0 })))))) ∧
    (s.clapRuns = false → exec .clapperWatchdog s = .next (settle s) ∧ exec .fatalError s = .next (settle s)) ∧
    (s.clap.restarting = false → exec .warmRestart s = .next (settle s))

/-- R414, R422, R478, R516, R535, R541: further events of the Clapper. -/
def Obligations.ClapperEvents : Prop :=
  ∀ (blk : Fin 16) (kind src : BitVec 5) (ueAt : Option Nat) (ceAt : List Nat) (unit : Fin 6) (s : State),
    (s.clap.restarting = false →
      let evs := (List.range 16).flatMap (fun b => (s.flts b).queue.map (fun e => (e.item b, some e)))
      let recs := s.clap.logPend.map (fun l => (l.item, (none : Option FltEvent)))
      let A := (s.onFlt (fun l => l.map (fun f => { f with queue := [] }))).onClap (fun c => { c with logPend := [] })
      (exec .faultLogPass s =
        .next (settle ((sortBy (fun a b => evLt a.1.key b.1.key) (evs ++ recs)).foldl (fun s x =>
          match x.2 with
          | some e => evtFault e x.1.blk (if e.pixel x.1.blk then s else logPass x.1 s)
          | none => logPass x.1 s) A))) ∧
      (∀ w, s.rateWin blk kind.toNat src.toNat = some w → exec (.logCoalesce blk kind src) s = .next (settle (closeWin w s))) ∧
      (s.rateWin blk kind.toNat src.toNat = none → exec (.logCoalesce blk kind src) s = .next (settle s)) ∧
      (let hit (k : LongKind) : Bool := match k.cal with
        | some (u, _) => decide (u = unit.val)
        | none => false
       let mark (s : State) : State := s.clap.long.foldl (fun s l => match l.kind with
         | .calLane n => if unit.val = 0 then s.onLink (fun k => { k with cal := modAt k.cal n (fun c => { c with failed := true }) }) else s
         | .calSlice i => if unit.val = 1 then onSlice i (fun c => { c with failed := true }) s else s
         | .calHk _ => if unit.val = 2 then s.onHk (fun h => { h with failed := true }) else s
         | _ => s) s
       exec (.calRunTimeout unit) s = .next (settle (calDoneAll hit 2 (mark s))))) ∧
    (s.clap.restarting = true →
      exec .faultLogPass s = .next (settle s) ∧ exec (.logCoalesce blk kind src) s = .next (settle s) ∧ exec (.calRunTimeout unit) s = .next (settle s)) ∧
    exec .lockoutEnd s = .next (settle (s.onSec (fun k => { k with lockAt := none }))) ∧
    (s.sec.stage = 2 → imgGood s s.stageRegion = true → exec .stageVerifyDone s = .next (settle (s.onSec (fun k => { k with stage := 3 })))) ∧
    (s.sec.stage = 2 → imgGood s s.stageRegion = false →
      exec .stageVerifyDone s =
        .next (settle (record bSEC 3 (atUnit s.stageRegion) (rollback s.stageRegion (s.onSec (fun k => { k with stage := 4 })))))) ∧
    (s.sec.stage ≠ 2 → exec .stageVerifyDone s = .next (settle s)) ∧
    (∀ c, s.cv.scan = some c →
      let found (e : Nat) : State := scanCe c (ceAt.filter (fun a => decide (c.start ≤ a) && decide (a < e))) s
      let D := found (c.start + c.len)
      (ueAt = none → c.space = 0 → exec (.cvScanDone ⟨ueAt, ceAt⟩) s = .next (settle (scanDone c (fun a => D.storeByte (a - storeBase)) D))) ∧
      (ueAt = none → c.space ≠ 0 → exec (.cvScanDone ⟨ueAt, ceAt⟩) s = .next (settle (scanDone c (mramByte s) D))) ∧
      (∀ a, ueAt = some a → c.start ≤ a → a < c.start + c.len → exec (.cvScanDone ⟨ueAt, ceAt⟩) s = .next (settle (scanError c a (found a))))) ∧
    (s.cv.scan = none → exec (.cvScanDone ⟨ueAt, ceAt⟩) s = .next (settle s))

/-- R55, R67, R77, R78, R488, R565, R572: supplies and pins. -/
def Obligations.SuppliesAndPins : Prop :=
  ∀ (st : Straps) (o : BootObs) (held : Bool) (i : TapInstr) (s : State),
    (s.sys.vaon = false →
      let C := coldReset (s.onSys (fun y => { y with vaon := true, keeper := 0, rstLast := 0, rstLastCold := 0, warmCount := 0, wakeEdge := false }))
      (C.sys.wake = false → exec (.vaonApply st o) s = .next (settle (standbyState C))) ∧
      (C.sys.wake = true → (sampleStraps st C).sys.rstN = true → exec (.vaonApply st o) s = .next (settle (coldBoot 0 o (sampleStraps st C)))) ∧
      (C.sys.wake = true → (sampleStraps st C).sys.rstN = false → exec (.vaonApply st o) s = .next (settle (sampleStraps st C)))) ∧
    (s.sys.vaon = true → exec (.vaonApply st o) s = .next (settle s)) ∧
    (∃ t, exec .vaonLoss s = .next (settle t) ∧ t.sys.st = .off ∧ t.sys.vaon = false ∧ t.sys.keeper = 0) ∧
    (s.sys.vaon = true → s.sys.wake = false → s.sys.rstN = true →
      let S := sampleStraps st (s.onSys (fun y => { y with wake := true }))
      (S.sys.standbyEntry = true → exec (.wakeRise st o) s = .next (settle (S.onSys (fun y => { y with wakeLatched := true })))) ∧
      (S.sys.standbyEntry = false → S.sys.st = .standby → exec (.wakeRise st o) s = .next (settle (coldBoot 1 o (coldReset S)))) ∧
      (S.sys.standbyEntry = false → S.sys.st ≠ .standby → exec (.wakeRise st o) s = .next (settle S))) ∧
    (s.sys.vaon = true → s.sys.wake = false → s.sys.rstN = false → s.sys.st ≠ .standby →
      exec (.wakeRise st o) s = .next (settle (s.onSys (fun y => { y with wake := true, wakeEdge := true })))) ∧
    (s.sys.rstN = true → exec .wakeLow s = .next (settle (standbyBegin (s.onSys (fun y => { y with wake := false }))))) ∧
    (s.sys.standbyEntry = true →
      exec (.standbyEntryDone o) s = .next (settle (if s.sys.wakeLatched then coldBoot 1 o (coldReset s) else standbyState s))) ∧
    (s.sys.standbyEntry = false → s.powered = true → exec .rstNLow s = .next (settle (coldReset (s.onSys (fun y => { y with rstN := false }))))) ∧
    (s.sys.rstN = false → s.powered = true →
      let R := s.onSys (fun y => { y with rstN := true, vio := true, vana := true, ledStage := true, coreStage := true, supplyLost := false })
      (s.sys.wake = true → s.sys.wakeEdge = true → exec (.rstNRelease st o) s = .next (settle (coldBoot 2 o (coldReset (sampleStraps st R))))) ∧
      (s.sys.wake = true → s.sys.wakeEdge = false → exec (.rstNRelease st o) s = .next (settle (coldBoot 2 o (coldReset R)))) ∧
      (s.sys.wake = false → exec (.rstNRelease st o) s = .next (settle (standbyState R)))) ∧
    (s.sys.rstN = true → s.lands = true → s.sys.st ≠ .boot → exec (.limpNLow held) s = .next (settle (enterGong 1 (s.onSys (fun y => { y with limpN := !held }))))) ∧
    (s.sys.rstN = true → s.lands = true → s.sys.st = .boot →
      exec (.limpNLow held) s =
        .next (settle (enterState .gong ((gongLight 1 (s.onSys (fun y => { y with limpN := !held }))).onSys (fun y => { y with gongFromBoot := true }))))) ∧
    (s.sys.lphFltN = true → s.lands = true → s.pdIs 11 .on = true →
      exec .lphFltNLow s =
        .next (settle (record bPWR 3 noUnit (syncOwner ((s.onSys (fun y => { y with lphFltN := false })).onPwr (fun p => { p with offUntilLit := true })))))) ∧
    (s.lands = true → exec .lphFltNHigh s = .next (settle (syncOwner (s.onSys (fun y => { y with lphFltN := true }))))) ∧
    (s.lands = false → (∀ c ∈ [Instr.lphFltNLow, .lphFltNHigh, .tapInstruction i], exec c s = .next (settle s)) ∧
      exec (.limpNLow held) s = .next (settle (s.onSys (fun y => { y with limpN := !held })))) ∧
    (s.powered = true → exec (.supplyRemoved .vana) s = .next (settle (syncOwner (s.onSys (fun y => { y with vana := false, supplyLost := true }))))) ∧
    (s.powered = true → exec (.supplyRemoved .vio) s = .next (settle (s.onSys (fun y => { y with vio := false }))) ∧
      exec (.supplyRemoved .ledStage) s = .next (settle (s.onSys (fun y => { y with ledStage := false }))) ∧
      exec (.supplyRemoved .coreStage) s = .next (settle (s.onSys (fun y => { y with coreStage := false })))) ∧
    (∀ w, s.powered = false → exec (.supplyRemoved w) s = .next (settle s)) ∧
    (s.powered = true → s.lands = true → s.sys.st ≠ .service → s.sys.rstN = true →
      exec (.tapInstruction i) s =
        .next (settle (s.onSys (fun y => { y with tap := if (i = .extest ∨ i = .clamp) ∧ y.st ≠ .ready then .bypass else i })))) ∧
    (s.powered = false ∨ s.sys.st = .service ∨ s.sys.rstN = false → exec (.tapInstruction i) s = .next (settle s))
end

