-- ==== Sys2Proof/Laws/State.lean ====
section
/-!
SUPPORT. What each update of one field of State does to every field: one lemma per field per update, so that no proof unfolds a
record update.
-/
namespace Sys2Proof.Machine.State

variable (s : State)

@[simp] theorem onSys_sys (f : Sys → Sys) : (s.onSys f).sys = f s.sys := rfl
@[simp] theorem onSys_flt (f : Sys → Sys) : (s.onSys f).flt = s.flt := rfl
@[simp] theorem onSys_clap (f : Sys → Sys) : (s.onSys f).clap = s.clap := rfl
@[simp] theorem onSys_nvm (f : Sys → Sys) : (s.onSys f).nvm = s.nvm := rfl
@[simp] theorem onSys_link (f : Sys → Sys) : (s.onSys f).link = s.link := rfl
@[simp] theorem onSys_can (f : Sys → Sys) : (s.onSys f).can = s.can := rfl
@[simp] theorem onSys_tab (f : Sys → Sys) : (s.onSys f).tab = s.tab := rfl
@[simp] theorem onSys_store (f : Sys → Sys) : (s.onSys f).store = s.store := rfl
@[simp] theorem onSys_carl (f : Sys → Sys) : (s.onSys f).carl = s.carl := rfl
@[simp] theorem onSys_pix (f : Sys → Sys) : (s.onSys f).pix = s.pix := rfl
@[simp] theorem onSys_mal (f : Sys → Sys) : (s.onSys f).mal = s.mal := rfl
@[simp] theorem onSys_sense (f : Sys → Sys) : (s.onSys f).sense = s.sense := rfl
@[simp] theorem onSys_hk (f : Sys → Sys) : (s.onSys f).hk = s.hk := rfl
@[simp] theorem onSys_pwr (f : Sys → Sys) : (s.onSys f).pwr = s.pwr := rfl
@[simp] theorem onSys_safe (f : Sys → Sys) : (s.onSys f).safe = s.safe := rfl
@[simp] theorem onSys_cv (f : Sys → Sys) : (s.onSys f).cv = s.cv := rfl
@[simp] theorem onSys_sec (f : Sys → Sys) : (s.onSys f).sec = s.sec := rfl
@[simp] theorem onSys_spi (f : Sys → Sys) : (s.onSys f).spi = s.spi := rfl
@[simp] theorem onSys_regs (f : Sys → Sys) : (s.onSys f).regs = s.regs := rfl
@[simp] theorem onSys_latches (f : Sys → Sys) : (s.onSys f).latches = s.latches := rfl
@[simp] theorem onSys_stims (f : Sys → Sys) : (s.onSys f).stims = s.stims := rfl
@[simp] theorem onSys_freeIdx (f : Sys → Sys) : (s.onSys f).freeIdx = s.freeIdx := rfl
@[simp] theorem onSys_pending (f : Sys → Sys) : (s.onSys f).pending = s.pending := rfl

@[simp] theorem onFlt_sys (f : List FltBlock → List FltBlock) : (s.onFlt f).sys = s.sys := rfl
@[simp] theorem onFlt_flt (f : List FltBlock → List FltBlock) : (s.onFlt f).flt = f s.flt := rfl
@[simp] theorem onFlt_clap (f : List FltBlock → List FltBlock) : (s.onFlt f).clap = s.clap := rfl
@[simp] theorem onFlt_nvm (f : List FltBlock → List FltBlock) : (s.onFlt f).nvm = s.nvm := rfl
@[simp] theorem onFlt_link (f : List FltBlock → List FltBlock) : (s.onFlt f).link = s.link := rfl
@[simp] theorem onFlt_can (f : List FltBlock → List FltBlock) : (s.onFlt f).can = s.can := rfl
@[simp] theorem onFlt_tab (f : List FltBlock → List FltBlock) : (s.onFlt f).tab = s.tab := rfl
@[simp] theorem onFlt_store (f : List FltBlock → List FltBlock) : (s.onFlt f).store = s.store := rfl
@[simp] theorem onFlt_carl (f : List FltBlock → List FltBlock) : (s.onFlt f).carl = s.carl := rfl
@[simp] theorem onFlt_pix (f : List FltBlock → List FltBlock) : (s.onFlt f).pix = s.pix := rfl
@[simp] theorem onFlt_mal (f : List FltBlock → List FltBlock) : (s.onFlt f).mal = s.mal := rfl
@[simp] theorem onFlt_sense (f : List FltBlock → List FltBlock) : (s.onFlt f).sense = s.sense := rfl
@[simp] theorem onFlt_hk (f : List FltBlock → List FltBlock) : (s.onFlt f).hk = s.hk := rfl
@[simp] theorem onFlt_pwr (f : List FltBlock → List FltBlock) : (s.onFlt f).pwr = s.pwr := rfl
@[simp] theorem onFlt_safe (f : List FltBlock → List FltBlock) : (s.onFlt f).safe = s.safe := rfl
@[simp] theorem onFlt_cv (f : List FltBlock → List FltBlock) : (s.onFlt f).cv = s.cv := rfl
@[simp] theorem onFlt_sec (f : List FltBlock → List FltBlock) : (s.onFlt f).sec = s.sec := rfl
@[simp] theorem onFlt_spi (f : List FltBlock → List FltBlock) : (s.onFlt f).spi = s.spi := rfl
@[simp] theorem onFlt_regs (f : List FltBlock → List FltBlock) : (s.onFlt f).regs = s.regs := rfl
@[simp] theorem onFlt_latches (f : List FltBlock → List FltBlock) : (s.onFlt f).latches = s.latches := rfl
@[simp] theorem onFlt_stims (f : List FltBlock → List FltBlock) : (s.onFlt f).stims = s.stims := rfl
@[simp] theorem onFlt_freeIdx (f : List FltBlock → List FltBlock) : (s.onFlt f).freeIdx = s.freeIdx := rfl
@[simp] theorem onFlt_pending (f : List FltBlock → List FltBlock) : (s.onFlt f).pending = s.pending := rfl

@[simp] theorem onClap_sys (f : Clap → Clap) : (s.onClap f).sys = s.sys := rfl
@[simp] theorem onClap_flt (f : Clap → Clap) : (s.onClap f).flt = s.flt := rfl
@[simp] theorem onClap_clap (f : Clap → Clap) : (s.onClap f).clap = f s.clap := rfl
@[simp] theorem onClap_nvm (f : Clap → Clap) : (s.onClap f).nvm = s.nvm := rfl
@[simp] theorem onClap_link (f : Clap → Clap) : (s.onClap f).link = s.link := rfl
@[simp] theorem onClap_can (f : Clap → Clap) : (s.onClap f).can = s.can := rfl
@[simp] theorem onClap_tab (f : Clap → Clap) : (s.onClap f).tab = s.tab := rfl
@[simp] theorem onClap_store (f : Clap → Clap) : (s.onClap f).store = s.store := rfl
@[simp] theorem onClap_carl (f : Clap → Clap) : (s.onClap f).carl = s.carl := rfl
@[simp] theorem onClap_pix (f : Clap → Clap) : (s.onClap f).pix = s.pix := rfl
@[simp] theorem onClap_mal (f : Clap → Clap) : (s.onClap f).mal = s.mal := rfl
@[simp] theorem onClap_sense (f : Clap → Clap) : (s.onClap f).sense = s.sense := rfl
@[simp] theorem onClap_hk (f : Clap → Clap) : (s.onClap f).hk = s.hk := rfl
@[simp] theorem onClap_pwr (f : Clap → Clap) : (s.onClap f).pwr = s.pwr := rfl
@[simp] theorem onClap_safe (f : Clap → Clap) : (s.onClap f).safe = s.safe := rfl
@[simp] theorem onClap_cv (f : Clap → Clap) : (s.onClap f).cv = s.cv := rfl
@[simp] theorem onClap_sec (f : Clap → Clap) : (s.onClap f).sec = s.sec := rfl
@[simp] theorem onClap_spi (f : Clap → Clap) : (s.onClap f).spi = s.spi := rfl
@[simp] theorem onClap_regs (f : Clap → Clap) : (s.onClap f).regs = s.regs := rfl
@[simp] theorem onClap_latches (f : Clap → Clap) : (s.onClap f).latches = s.latches := rfl
@[simp] theorem onClap_stims (f : Clap → Clap) : (s.onClap f).stims = s.stims := rfl
@[simp] theorem onClap_freeIdx (f : Clap → Clap) : (s.onClap f).freeIdx = s.freeIdx := rfl
@[simp] theorem onClap_pending (f : Clap → Clap) : (s.onClap f).pending = s.pending := rfl

@[simp] theorem onNvm_sys (f : Nvm → Nvm) : (s.onNvm f).sys = s.sys := rfl
@[simp] theorem onNvm_flt (f : Nvm → Nvm) : (s.onNvm f).flt = s.flt := rfl
@[simp] theorem onNvm_clap (f : Nvm → Nvm) : (s.onNvm f).clap = s.clap := rfl
@[simp] theorem onNvm_nvm (f : Nvm → Nvm) : (s.onNvm f).nvm = f s.nvm := rfl
@[simp] theorem onNvm_link (f : Nvm → Nvm) : (s.onNvm f).link = s.link := rfl
@[simp] theorem onNvm_can (f : Nvm → Nvm) : (s.onNvm f).can = s.can := rfl
@[simp] theorem onNvm_tab (f : Nvm → Nvm) : (s.onNvm f).tab = s.tab := rfl
@[simp] theorem onNvm_store (f : Nvm → Nvm) : (s.onNvm f).store = s.store := rfl
@[simp] theorem onNvm_carl (f : Nvm → Nvm) : (s.onNvm f).carl = s.carl := rfl
@[simp] theorem onNvm_pix (f : Nvm → Nvm) : (s.onNvm f).pix = s.pix := rfl
@[simp] theorem onNvm_mal (f : Nvm → Nvm) : (s.onNvm f).mal = s.mal := rfl
@[simp] theorem onNvm_sense (f : Nvm → Nvm) : (s.onNvm f).sense = s.sense := rfl
@[simp] theorem onNvm_hk (f : Nvm → Nvm) : (s.onNvm f).hk = s.hk := rfl
@[simp] theorem onNvm_pwr (f : Nvm → Nvm) : (s.onNvm f).pwr = s.pwr := rfl
@[simp] theorem onNvm_safe (f : Nvm → Nvm) : (s.onNvm f).safe = s.safe := rfl
@[simp] theorem onNvm_cv (f : Nvm → Nvm) : (s.onNvm f).cv = s.cv := rfl
@[simp] theorem onNvm_sec (f : Nvm → Nvm) : (s.onNvm f).sec = s.sec := rfl
@[simp] theorem onNvm_spi (f : Nvm → Nvm) : (s.onNvm f).spi = s.spi := rfl
@[simp] theorem onNvm_regs (f : Nvm → Nvm) : (s.onNvm f).regs = s.regs := rfl
@[simp] theorem onNvm_latches (f : Nvm → Nvm) : (s.onNvm f).latches = s.latches := rfl
@[simp] theorem onNvm_stims (f : Nvm → Nvm) : (s.onNvm f).stims = s.stims := rfl
@[simp] theorem onNvm_freeIdx (f : Nvm → Nvm) : (s.onNvm f).freeIdx = s.freeIdx := rfl
@[simp] theorem onNvm_pending (f : Nvm → Nvm) : (s.onNvm f).pending = s.pending := rfl

@[simp] theorem onLink_sys (f : Link → Link) : (s.onLink f).sys = s.sys := rfl
@[simp] theorem onLink_flt (f : Link → Link) : (s.onLink f).flt = s.flt := rfl
@[simp] theorem onLink_clap (f : Link → Link) : (s.onLink f).clap = s.clap := rfl
@[simp] theorem onLink_nvm (f : Link → Link) : (s.onLink f).nvm = s.nvm := rfl
@[simp] theorem onLink_link (f : Link → Link) : (s.onLink f).link = f s.link := rfl
@[simp] theorem onLink_can (f : Link → Link) : (s.onLink f).can = s.can := rfl
@[simp] theorem onLink_tab (f : Link → Link) : (s.onLink f).tab = s.tab := rfl
@[simp] theorem onLink_store (f : Link → Link) : (s.onLink f).store = s.store := rfl
@[simp] theorem onLink_carl (f : Link → Link) : (s.onLink f).carl = s.carl := rfl
@[simp] theorem onLink_pix (f : Link → Link) : (s.onLink f).pix = s.pix := rfl
@[simp] theorem onLink_mal (f : Link → Link) : (s.onLink f).mal = s.mal := rfl
@[simp] theorem onLink_sense (f : Link → Link) : (s.onLink f).sense = s.sense := rfl
@[simp] theorem onLink_hk (f : Link → Link) : (s.onLink f).hk = s.hk := rfl
@[simp] theorem onLink_pwr (f : Link → Link) : (s.onLink f).pwr = s.pwr := rfl
@[simp] theorem onLink_safe (f : Link → Link) : (s.onLink f).safe = s.safe := rfl
@[simp] theorem onLink_cv (f : Link → Link) : (s.onLink f).cv = s.cv := rfl
@[simp] theorem onLink_sec (f : Link → Link) : (s.onLink f).sec = s.sec := rfl
@[simp] theorem onLink_spi (f : Link → Link) : (s.onLink f).spi = s.spi := rfl
@[simp] theorem onLink_regs (f : Link → Link) : (s.onLink f).regs = s.regs := rfl
@[simp] theorem onLink_latches (f : Link → Link) : (s.onLink f).latches = s.latches := rfl
@[simp] theorem onLink_stims (f : Link → Link) : (s.onLink f).stims = s.stims := rfl
@[simp] theorem onLink_freeIdx (f : Link → Link) : (s.onLink f).freeIdx = s.freeIdx := rfl
@[simp] theorem onLink_pending (f : Link → Link) : (s.onLink f).pending = s.pending := rfl

@[simp] theorem onCan_sys (f : Can → Can) : (s.onCan f).sys = s.sys := rfl
@[simp] theorem onCan_flt (f : Can → Can) : (s.onCan f).flt = s.flt := rfl
@[simp] theorem onCan_clap (f : Can → Can) : (s.onCan f).clap = s.clap := rfl
@[simp] theorem onCan_nvm (f : Can → Can) : (s.onCan f).nvm = s.nvm := rfl
@[simp] theorem onCan_link (f : Can → Can) : (s.onCan f).link = s.link := rfl
@[simp] theorem onCan_can (f : Can → Can) : (s.onCan f).can = f s.can := rfl
@[simp] theorem onCan_tab (f : Can → Can) : (s.onCan f).tab = s.tab := rfl
@[simp] theorem onCan_store (f : Can → Can) : (s.onCan f).store = s.store := rfl
@[simp] theorem onCan_carl (f : Can → Can) : (s.onCan f).carl = s.carl := rfl
@[simp] theorem onCan_pix (f : Can → Can) : (s.onCan f).pix = s.pix := rfl
@[simp] theorem onCan_mal (f : Can → Can) : (s.onCan f).mal = s.mal := rfl
@[simp] theorem onCan_sense (f : Can → Can) : (s.onCan f).sense = s.sense := rfl
@[simp] theorem onCan_hk (f : Can → Can) : (s.onCan f).hk = s.hk := rfl
@[simp] theorem onCan_pwr (f : Can → Can) : (s.onCan f).pwr = s.pwr := rfl
@[simp] theorem onCan_safe (f : Can → Can) : (s.onCan f).safe = s.safe := rfl
@[simp] theorem onCan_cv (f : Can → Can) : (s.onCan f).cv = s.cv := rfl
@[simp] theorem onCan_sec (f : Can → Can) : (s.onCan f).sec = s.sec := rfl
@[simp] theorem onCan_spi (f : Can → Can) : (s.onCan f).spi = s.spi := rfl
@[simp] theorem onCan_regs (f : Can → Can) : (s.onCan f).regs = s.regs := rfl
@[simp] theorem onCan_latches (f : Can → Can) : (s.onCan f).latches = s.latches := rfl
@[simp] theorem onCan_stims (f : Can → Can) : (s.onCan f).stims = s.stims := rfl
@[simp] theorem onCan_freeIdx (f : Can → Can) : (s.onCan f).freeIdx = s.freeIdx := rfl
@[simp] theorem onCan_pending (f : Can → Can) : (s.onCan f).pending = s.pending := rfl

@[simp] theorem onTab_sys (f : TaborBlk → TaborBlk) : (s.onTab f).sys = s.sys := rfl
@[simp] theorem onTab_flt (f : TaborBlk → TaborBlk) : (s.onTab f).flt = s.flt := rfl
@[simp] theorem onTab_clap (f : TaborBlk → TaborBlk) : (s.onTab f).clap = s.clap := rfl
@[simp] theorem onTab_nvm (f : TaborBlk → TaborBlk) : (s.onTab f).nvm = s.nvm := rfl
@[simp] theorem onTab_link (f : TaborBlk → TaborBlk) : (s.onTab f).link = s.link := rfl
@[simp] theorem onTab_can (f : TaborBlk → TaborBlk) : (s.onTab f).can = s.can := rfl
@[simp] theorem onTab_tab (f : TaborBlk → TaborBlk) : (s.onTab f).tab = f s.tab := rfl
@[simp] theorem onTab_store (f : TaborBlk → TaborBlk) : (s.onTab f).store = s.store := rfl
@[simp] theorem onTab_carl (f : TaborBlk → TaborBlk) : (s.onTab f).carl = s.carl := rfl
@[simp] theorem onTab_pix (f : TaborBlk → TaborBlk) : (s.onTab f).pix = s.pix := rfl
@[simp] theorem onTab_mal (f : TaborBlk → TaborBlk) : (s.onTab f).mal = s.mal := rfl
@[simp] theorem onTab_sense (f : TaborBlk → TaborBlk) : (s.onTab f).sense = s.sense := rfl
@[simp] theorem onTab_hk (f : TaborBlk → TaborBlk) : (s.onTab f).hk = s.hk := rfl
@[simp] theorem onTab_pwr (f : TaborBlk → TaborBlk) : (s.onTab f).pwr = s.pwr := rfl
@[simp] theorem onTab_safe (f : TaborBlk → TaborBlk) : (s.onTab f).safe = s.safe := rfl
@[simp] theorem onTab_cv (f : TaborBlk → TaborBlk) : (s.onTab f).cv = s.cv := rfl
@[simp] theorem onTab_sec (f : TaborBlk → TaborBlk) : (s.onTab f).sec = s.sec := rfl
@[simp] theorem onTab_spi (f : TaborBlk → TaborBlk) : (s.onTab f).spi = s.spi := rfl
@[simp] theorem onTab_regs (f : TaborBlk → TaborBlk) : (s.onTab f).regs = s.regs := rfl
@[simp] theorem onTab_latches (f : TaborBlk → TaborBlk) : (s.onTab f).latches = s.latches := rfl
@[simp] theorem onTab_stims (f : TaborBlk → TaborBlk) : (s.onTab f).stims = s.stims := rfl
@[simp] theorem onTab_freeIdx (f : TaborBlk → TaborBlk) : (s.onTab f).freeIdx = s.freeIdx := rfl
@[simp] theorem onTab_pending (f : TaborBlk → TaborBlk) : (s.onTab f).pending = s.pending := rfl

@[simp] theorem onStore_sys (f : Store → Store) : (s.onStore f).sys = s.sys := rfl
@[simp] theorem onStore_flt (f : Store → Store) : (s.onStore f).flt = s.flt := rfl
@[simp] theorem onStore_clap (f : Store → Store) : (s.onStore f).clap = s.clap := rfl
@[simp] theorem onStore_nvm (f : Store → Store) : (s.onStore f).nvm = s.nvm := rfl
@[simp] theorem onStore_link (f : Store → Store) : (s.onStore f).link = s.link := rfl
@[simp] theorem onStore_can (f : Store → Store) : (s.onStore f).can = s.can := rfl
@[simp] theorem onStore_tab (f : Store → Store) : (s.onStore f).tab = s.tab := rfl
@[simp] theorem onStore_store (f : Store → Store) : (s.onStore f).store = f s.store := rfl
@[simp] theorem onStore_carl (f : Store → Store) : (s.onStore f).carl = s.carl := rfl
@[simp] theorem onStore_pix (f : Store → Store) : (s.onStore f).pix = s.pix := rfl
@[simp] theorem onStore_mal (f : Store → Store) : (s.onStore f).mal = s.mal := rfl
@[simp] theorem onStore_sense (f : Store → Store) : (s.onStore f).sense = s.sense := rfl
@[simp] theorem onStore_hk (f : Store → Store) : (s.onStore f).hk = s.hk := rfl
@[simp] theorem onStore_pwr (f : Store → Store) : (s.onStore f).pwr = s.pwr := rfl
@[simp] theorem onStore_safe (f : Store → Store) : (s.onStore f).safe = s.safe := rfl
@[simp] theorem onStore_cv (f : Store → Store) : (s.onStore f).cv = s.cv := rfl
@[simp] theorem onStore_sec (f : Store → Store) : (s.onStore f).sec = s.sec := rfl
@[simp] theorem onStore_spi (f : Store → Store) : (s.onStore f).spi = s.spi := rfl
@[simp] theorem onStore_regs (f : Store → Store) : (s.onStore f).regs = s.regs := rfl
@[simp] theorem onStore_latches (f : Store → Store) : (s.onStore f).latches = s.latches := rfl
@[simp] theorem onStore_stims (f : Store → Store) : (s.onStore f).stims = s.stims := rfl
@[simp] theorem onStore_freeIdx (f : Store → Store) : (s.onStore f).freeIdx = s.freeIdx := rfl
@[simp] theorem onStore_pending (f : Store → Store) : (s.onStore f).pending = s.pending := rfl

@[simp] theorem onCarl_sys (f : Carl → Carl) : (s.onCarl f).sys = s.sys := rfl
@[simp] theorem onCarl_flt (f : Carl → Carl) : (s.onCarl f).flt = s.flt := rfl
@[simp] theorem onCarl_clap (f : Carl → Carl) : (s.onCarl f).clap = s.clap := rfl
@[simp] theorem onCarl_nvm (f : Carl → Carl) : (s.onCarl f).nvm = s.nvm := rfl
@[simp] theorem onCarl_link (f : Carl → Carl) : (s.onCarl f).link = s.link := rfl
@[simp] theorem onCarl_can (f : Carl → Carl) : (s.onCarl f).can = s.can := rfl
@[simp] theorem onCarl_tab (f : Carl → Carl) : (s.onCarl f).tab = s.tab := rfl
@[simp] theorem onCarl_store (f : Carl → Carl) : (s.onCarl f).store = s.store := rfl
@[simp] theorem onCarl_carl (f : Carl → Carl) : (s.onCarl f).carl = f s.carl := rfl
@[simp] theorem onCarl_pix (f : Carl → Carl) : (s.onCarl f).pix = s.pix := rfl
@[simp] theorem onCarl_mal (f : Carl → Carl) : (s.onCarl f).mal = s.mal := rfl
@[simp] theorem onCarl_sense (f : Carl → Carl) : (s.onCarl f).sense = s.sense := rfl
@[simp] theorem onCarl_hk (f : Carl → Carl) : (s.onCarl f).hk = s.hk := rfl
@[simp] theorem onCarl_pwr (f : Carl → Carl) : (s.onCarl f).pwr = s.pwr := rfl
@[simp] theorem onCarl_safe (f : Carl → Carl) : (s.onCarl f).safe = s.safe := rfl
@[simp] theorem onCarl_cv (f : Carl → Carl) : (s.onCarl f).cv = s.cv := rfl
@[simp] theorem onCarl_sec (f : Carl → Carl) : (s.onCarl f).sec = s.sec := rfl
@[simp] theorem onCarl_spi (f : Carl → Carl) : (s.onCarl f).spi = s.spi := rfl
@[simp] theorem onCarl_regs (f : Carl → Carl) : (s.onCarl f).regs = s.regs := rfl
@[simp] theorem onCarl_latches (f : Carl → Carl) : (s.onCarl f).latches = s.latches := rfl
@[simp] theorem onCarl_stims (f : Carl → Carl) : (s.onCarl f).stims = s.stims := rfl
@[simp] theorem onCarl_freeIdx (f : Carl → Carl) : (s.onCarl f).freeIdx = s.freeIdx := rfl
@[simp] theorem onCarl_pending (f : Carl → Carl) : (s.onCarl f).pending = s.pending := rfl

@[simp] theorem onPix_sys (f : Pix → Pix) : (s.onPix f).sys = s.sys := rfl
@[simp] theorem onPix_flt (f : Pix → Pix) : (s.onPix f).flt = s.flt := rfl
@[simp] theorem onPix_clap (f : Pix → Pix) : (s.onPix f).clap = s.clap := rfl
@[simp] theorem onPix_nvm (f : Pix → Pix) : (s.onPix f).nvm = s.nvm := rfl
@[simp] theorem onPix_link (f : Pix → Pix) : (s.onPix f).link = s.link := rfl
@[simp] theorem onPix_can (f : Pix → Pix) : (s.onPix f).can = s.can := rfl
@[simp] theorem onPix_tab (f : Pix → Pix) : (s.onPix f).tab = s.tab := rfl
@[simp] theorem onPix_store (f : Pix → Pix) : (s.onPix f).store = s.store := rfl
@[simp] theorem onPix_carl (f : Pix → Pix) : (s.onPix f).carl = s.carl := rfl
@[simp] theorem onPix_pix (f : Pix → Pix) : (s.onPix f).pix = f s.pix := rfl
@[simp] theorem onPix_mal (f : Pix → Pix) : (s.onPix f).mal = s.mal := rfl
@[simp] theorem onPix_sense (f : Pix → Pix) : (s.onPix f).sense = s.sense := rfl
@[simp] theorem onPix_hk (f : Pix → Pix) : (s.onPix f).hk = s.hk := rfl
@[simp] theorem onPix_pwr (f : Pix → Pix) : (s.onPix f).pwr = s.pwr := rfl
@[simp] theorem onPix_safe (f : Pix → Pix) : (s.onPix f).safe = s.safe := rfl
@[simp] theorem onPix_cv (f : Pix → Pix) : (s.onPix f).cv = s.cv := rfl
@[simp] theorem onPix_sec (f : Pix → Pix) : (s.onPix f).sec = s.sec := rfl
@[simp] theorem onPix_spi (f : Pix → Pix) : (s.onPix f).spi = s.spi := rfl
@[simp] theorem onPix_regs (f : Pix → Pix) : (s.onPix f).regs = s.regs := rfl
@[simp] theorem onPix_latches (f : Pix → Pix) : (s.onPix f).latches = s.latches := rfl
@[simp] theorem onPix_stims (f : Pix → Pix) : (s.onPix f).stims = s.stims := rfl
@[simp] theorem onPix_freeIdx (f : Pix → Pix) : (s.onPix f).freeIdx = s.freeIdx := rfl
@[simp] theorem onPix_pending (f : Pix → Pix) : (s.onPix f).pending = s.pending := rfl

@[simp] theorem onMal_sys (f : Mal → Mal) : (s.onMal f).sys = s.sys := rfl
@[simp] theorem onMal_flt (f : Mal → Mal) : (s.onMal f).flt = s.flt := rfl
@[simp] theorem onMal_clap (f : Mal → Mal) : (s.onMal f).clap = s.clap := rfl
@[simp] theorem onMal_nvm (f : Mal → Mal) : (s.onMal f).nvm = s.nvm := rfl
@[simp] theorem onMal_link (f : Mal → Mal) : (s.onMal f).link = s.link := rfl
@[simp] theorem onMal_can (f : Mal → Mal) : (s.onMal f).can = s.can := rfl
@[simp] theorem onMal_tab (f : Mal → Mal) : (s.onMal f).tab = s.tab := rfl
@[simp] theorem onMal_store (f : Mal → Mal) : (s.onMal f).store = s.store := rfl
@[simp] theorem onMal_carl (f : Mal → Mal) : (s.onMal f).carl = s.carl := rfl
@[simp] theorem onMal_pix (f : Mal → Mal) : (s.onMal f).pix = s.pix := rfl
@[simp] theorem onMal_mal (f : Mal → Mal) : (s.onMal f).mal = f s.mal := rfl
@[simp] theorem onMal_sense (f : Mal → Mal) : (s.onMal f).sense = s.sense := rfl
@[simp] theorem onMal_hk (f : Mal → Mal) : (s.onMal f).hk = s.hk := rfl
@[simp] theorem onMal_pwr (f : Mal → Mal) : (s.onMal f).pwr = s.pwr := rfl
@[simp] theorem onMal_safe (f : Mal → Mal) : (s.onMal f).safe = s.safe := rfl
@[simp] theorem onMal_cv (f : Mal → Mal) : (s.onMal f).cv = s.cv := rfl
@[simp] theorem onMal_sec (f : Mal → Mal) : (s.onMal f).sec = s.sec := rfl
@[simp] theorem onMal_spi (f : Mal → Mal) : (s.onMal f).spi = s.spi := rfl
@[simp] theorem onMal_regs (f : Mal → Mal) : (s.onMal f).regs = s.regs := rfl
@[simp] theorem onMal_latches (f : Mal → Mal) : (s.onMal f).latches = s.latches := rfl
@[simp] theorem onMal_stims (f : Mal → Mal) : (s.onMal f).stims = s.stims := rfl
@[simp] theorem onMal_freeIdx (f : Mal → Mal) : (s.onMal f).freeIdx = s.freeIdx := rfl
@[simp] theorem onMal_pending (f : Mal → Mal) : (s.onMal f).pending = s.pending := rfl

@[simp] theorem onSense_sys (f : Sense → Sense) : (s.onSense f).sys = s.sys := rfl
@[simp] theorem onSense_flt (f : Sense → Sense) : (s.onSense f).flt = s.flt := rfl
@[simp] theorem onSense_clap (f : Sense → Sense) : (s.onSense f).clap = s.clap := rfl
@[simp] theorem onSense_nvm (f : Sense → Sense) : (s.onSense f).nvm = s.nvm := rfl
@[simp] theorem onSense_link (f : Sense → Sense) : (s.onSense f).link = s.link := rfl
@[simp] theorem onSense_can (f : Sense → Sense) : (s.onSense f).can = s.can := rfl
@[simp] theorem onSense_tab (f : Sense → Sense) : (s.onSense f).tab = s.tab := rfl
@[simp] theorem onSense_store (f : Sense → Sense) : (s.onSense f).store = s.store := rfl
@[simp] theorem onSense_carl (f : Sense → Sense) : (s.onSense f).carl = s.carl := rfl
@[simp] theorem onSense_pix (f : Sense → Sense) : (s.onSense f).pix = s.pix := rfl
@[simp] theorem onSense_mal (f : Sense → Sense) : (s.onSense f).mal = s.mal := rfl
@[simp] theorem onSense_sense (f : Sense → Sense) : (s.onSense f).sense = f s.sense := rfl
@[simp] theorem onSense_hk (f : Sense → Sense) : (s.onSense f).hk = s.hk := rfl
@[simp] theorem onSense_pwr (f : Sense → Sense) : (s.onSense f).pwr = s.pwr := rfl
@[simp] theorem onSense_safe (f : Sense → Sense) : (s.onSense f).safe = s.safe := rfl
@[simp] theorem onSense_cv (f : Sense → Sense) : (s.onSense f).cv = s.cv := rfl
@[simp] theorem onSense_sec (f : Sense → Sense) : (s.onSense f).sec = s.sec := rfl
@[simp] theorem onSense_spi (f : Sense → Sense) : (s.onSense f).spi = s.spi := rfl
@[simp] theorem onSense_regs (f : Sense → Sense) : (s.onSense f).regs = s.regs := rfl
@[simp] theorem onSense_latches (f : Sense → Sense) : (s.onSense f).latches = s.latches := rfl
@[simp] theorem onSense_stims (f : Sense → Sense) : (s.onSense f).stims = s.stims := rfl
@[simp] theorem onSense_freeIdx (f : Sense → Sense) : (s.onSense f).freeIdx = s.freeIdx := rfl
@[simp] theorem onSense_pending (f : Sense → Sense) : (s.onSense f).pending = s.pending := rfl

@[simp] theorem onHk_sys (f : Hk → Hk) : (s.onHk f).sys = s.sys := rfl
@[simp] theorem onHk_flt (f : Hk → Hk) : (s.onHk f).flt = s.flt := rfl
@[simp] theorem onHk_clap (f : Hk → Hk) : (s.onHk f).clap = s.clap := rfl
@[simp] theorem onHk_nvm (f : Hk → Hk) : (s.onHk f).nvm = s.nvm := rfl
@[simp] theorem onHk_link (f : Hk → Hk) : (s.onHk f).link = s.link := rfl
@[simp] theorem onHk_can (f : Hk → Hk) : (s.onHk f).can = s.can := rfl
@[simp] theorem onHk_tab (f : Hk → Hk) : (s.onHk f).tab = s.tab := rfl
@[simp] theorem onHk_store (f : Hk → Hk) : (s.onHk f).store = s.store := rfl
@[simp] theorem onHk_carl (f : Hk → Hk) : (s.onHk f).carl = s.carl := rfl
@[simp] theorem onHk_pix (f : Hk → Hk) : (s.onHk f).pix = s.pix := rfl
@[simp] theorem onHk_mal (f : Hk → Hk) : (s.onHk f).mal = s.mal := rfl
@[simp] theorem onHk_sense (f : Hk → Hk) : (s.onHk f).sense = s.sense := rfl
@[simp] theorem onHk_hk (f : Hk → Hk) : (s.onHk f).hk = f s.hk := rfl
@[simp] theorem onHk_pwr (f : Hk → Hk) : (s.onHk f).pwr = s.pwr := rfl
@[simp] theorem onHk_safe (f : Hk → Hk) : (s.onHk f).safe = s.safe := rfl
@[simp] theorem onHk_cv (f : Hk → Hk) : (s.onHk f).cv = s.cv := rfl
@[simp] theorem onHk_sec (f : Hk → Hk) : (s.onHk f).sec = s.sec := rfl
@[simp] theorem onHk_spi (f : Hk → Hk) : (s.onHk f).spi = s.spi := rfl
@[simp] theorem onHk_regs (f : Hk → Hk) : (s.onHk f).regs = s.regs := rfl
@[simp] theorem onHk_latches (f : Hk → Hk) : (s.onHk f).latches = s.latches := rfl
@[simp] theorem onHk_stims (f : Hk → Hk) : (s.onHk f).stims = s.stims := rfl
@[simp] theorem onHk_freeIdx (f : Hk → Hk) : (s.onHk f).freeIdx = s.freeIdx := rfl
@[simp] theorem onHk_pending (f : Hk → Hk) : (s.onHk f).pending = s.pending := rfl

@[simp] theorem onPwr_sys (f : Pwr → Pwr) : (s.onPwr f).sys = s.sys := rfl
@[simp] theorem onPwr_flt (f : Pwr → Pwr) : (s.onPwr f).flt = s.flt := rfl
@[simp] theorem onPwr_clap (f : Pwr → Pwr) : (s.onPwr f).clap = s.clap := rfl
@[simp] theorem onPwr_nvm (f : Pwr → Pwr) : (s.onPwr f).nvm = s.nvm := rfl
@[simp] theorem onPwr_link (f : Pwr → Pwr) : (s.onPwr f).link = s.link := rfl
@[simp] theorem onPwr_can (f : Pwr → Pwr) : (s.onPwr f).can = s.can := rfl
@[simp] theorem onPwr_tab (f : Pwr → Pwr) : (s.onPwr f).tab = s.tab := rfl
@[simp] theorem onPwr_store (f : Pwr → Pwr) : (s.onPwr f).store = s.store := rfl
@[simp] theorem onPwr_carl (f : Pwr → Pwr) : (s.onPwr f).carl = s.carl := rfl
@[simp] theorem onPwr_pix (f : Pwr → Pwr) : (s.onPwr f).pix = s.pix := rfl
@[simp] theorem onPwr_mal (f : Pwr → Pwr) : (s.onPwr f).mal = s.mal := rfl
@[simp] theorem onPwr_sense (f : Pwr → Pwr) : (s.onPwr f).sense = s.sense := rfl
@[simp] theorem onPwr_hk (f : Pwr → Pwr) : (s.onPwr f).hk = s.hk := rfl
@[simp] theorem onPwr_pwr (f : Pwr → Pwr) : (s.onPwr f).pwr = f s.pwr := rfl
@[simp] theorem onPwr_safe (f : Pwr → Pwr) : (s.onPwr f).safe = s.safe := rfl
@[simp] theorem onPwr_cv (f : Pwr → Pwr) : (s.onPwr f).cv = s.cv := rfl
@[simp] theorem onPwr_sec (f : Pwr → Pwr) : (s.onPwr f).sec = s.sec := rfl
@[simp] theorem onPwr_spi (f : Pwr → Pwr) : (s.onPwr f).spi = s.spi := rfl
@[simp] theorem onPwr_regs (f : Pwr → Pwr) : (s.onPwr f).regs = s.regs := rfl
@[simp] theorem onPwr_latches (f : Pwr → Pwr) : (s.onPwr f).latches = s.latches := rfl
@[simp] theorem onPwr_stims (f : Pwr → Pwr) : (s.onPwr f).stims = s.stims := rfl
@[simp] theorem onPwr_freeIdx (f : Pwr → Pwr) : (s.onPwr f).freeIdx = s.freeIdx := rfl
@[simp] theorem onPwr_pending (f : Pwr → Pwr) : (s.onPwr f).pending = s.pending := rfl

@[simp] theorem onSafe_sys (f : Safe → Safe) : (s.onSafe f).sys = s.sys := rfl
@[simp] theorem onSafe_flt (f : Safe → Safe) : (s.onSafe f).flt = s.flt := rfl
@[simp] theorem onSafe_clap (f : Safe → Safe) : (s.onSafe f).clap = s.clap := rfl
@[simp] theorem onSafe_nvm (f : Safe → Safe) : (s.onSafe f).nvm = s.nvm := rfl
@[simp] theorem onSafe_link (f : Safe → Safe) : (s.onSafe f).link = s.link := rfl
@[simp] theorem onSafe_can (f : Safe → Safe) : (s.onSafe f).can = s.can := rfl
@[simp] theorem onSafe_tab (f : Safe → Safe) : (s.onSafe f).tab = s.tab := rfl
@[simp] theorem onSafe_store (f : Safe → Safe) : (s.onSafe f).store = s.store := rfl
@[simp] theorem onSafe_carl (f : Safe → Safe) : (s.onSafe f).carl = s.carl := rfl
@[simp] theorem onSafe_pix (f : Safe → Safe) : (s.onSafe f).pix = s.pix := rfl
@[simp] theorem onSafe_mal (f : Safe → Safe) : (s.onSafe f).mal = s.mal := rfl
@[simp] theorem onSafe_sense (f : Safe → Safe) : (s.onSafe f).sense = s.sense := rfl
@[simp] theorem onSafe_hk (f : Safe → Safe) : (s.onSafe f).hk = s.hk := rfl
@[simp] theorem onSafe_pwr (f : Safe → Safe) : (s.onSafe f).pwr = s.pwr := rfl
@[simp] theorem onSafe_safe (f : Safe → Safe) : (s.onSafe f).safe = f s.safe := rfl
@[simp] theorem onSafe_cv (f : Safe → Safe) : (s.onSafe f).cv = s.cv := rfl
@[simp] theorem onSafe_sec (f : Safe → Safe) : (s.onSafe f).sec = s.sec := rfl
@[simp] theorem onSafe_spi (f : Safe → Safe) : (s.onSafe f).spi = s.spi := rfl
@[simp] theorem onSafe_regs (f : Safe → Safe) : (s.onSafe f).regs = s.regs := rfl
@[simp] theorem onSafe_latches (f : Safe → Safe) : (s.onSafe f).latches = s.latches := rfl
@[simp] theorem onSafe_stims (f : Safe → Safe) : (s.onSafe f).stims = s.stims := rfl
@[simp] theorem onSafe_freeIdx (f : Safe → Safe) : (s.onSafe f).freeIdx = s.freeIdx := rfl
@[simp] theorem onSafe_pending (f : Safe → Safe) : (s.onSafe f).pending = s.pending := rfl

@[simp] theorem onCv_sys (f : Cv → Cv) : (s.onCv f).sys = s.sys := rfl
@[simp] theorem onCv_flt (f : Cv → Cv) : (s.onCv f).flt = s.flt := rfl
@[simp] theorem onCv_clap (f : Cv → Cv) : (s.onCv f).clap = s.clap := rfl
@[simp] theorem onCv_nvm (f : Cv → Cv) : (s.onCv f).nvm = s.nvm := rfl
@[simp] theorem onCv_link (f : Cv → Cv) : (s.onCv f).link = s.link := rfl
@[simp] theorem onCv_can (f : Cv → Cv) : (s.onCv f).can = s.can := rfl
@[simp] theorem onCv_tab (f : Cv → Cv) : (s.onCv f).tab = s.tab := rfl
@[simp] theorem onCv_store (f : Cv → Cv) : (s.onCv f).store = s.store := rfl
@[simp] theorem onCv_carl (f : Cv → Cv) : (s.onCv f).carl = s.carl := rfl
@[simp] theorem onCv_pix (f : Cv → Cv) : (s.onCv f).pix = s.pix := rfl
@[simp] theorem onCv_mal (f : Cv → Cv) : (s.onCv f).mal = s.mal := rfl
@[simp] theorem onCv_sense (f : Cv → Cv) : (s.onCv f).sense = s.sense := rfl
@[simp] theorem onCv_hk (f : Cv → Cv) : (s.onCv f).hk = s.hk := rfl
@[simp] theorem onCv_pwr (f : Cv → Cv) : (s.onCv f).pwr = s.pwr := rfl
@[simp] theorem onCv_safe (f : Cv → Cv) : (s.onCv f).safe = s.safe := rfl
@[simp] theorem onCv_cv (f : Cv → Cv) : (s.onCv f).cv = f s.cv := rfl
@[simp] theorem onCv_sec (f : Cv → Cv) : (s.onCv f).sec = s.sec := rfl
@[simp] theorem onCv_spi (f : Cv → Cv) : (s.onCv f).spi = s.spi := rfl
@[simp] theorem onCv_regs (f : Cv → Cv) : (s.onCv f).regs = s.regs := rfl
@[simp] theorem onCv_latches (f : Cv → Cv) : (s.onCv f).latches = s.latches := rfl
@[simp] theorem onCv_stims (f : Cv → Cv) : (s.onCv f).stims = s.stims := rfl
@[simp] theorem onCv_freeIdx (f : Cv → Cv) : (s.onCv f).freeIdx = s.freeIdx := rfl
@[simp] theorem onCv_pending (f : Cv → Cv) : (s.onCv f).pending = s.pending := rfl

@[simp] theorem onSec_sys (f : Sec → Sec) : (s.onSec f).sys = s.sys := rfl
@[simp] theorem onSec_flt (f : Sec → Sec) : (s.onSec f).flt = s.flt := rfl
@[simp] theorem onSec_clap (f : Sec → Sec) : (s.onSec f).clap = s.clap := rfl
@[simp] theorem onSec_nvm (f : Sec → Sec) : (s.onSec f).nvm = s.nvm := rfl
@[simp] theorem onSec_link (f : Sec → Sec) : (s.onSec f).link = s.link := rfl
@[simp] theorem onSec_can (f : Sec → Sec) : (s.onSec f).can = s.can := rfl
@[simp] theorem onSec_tab (f : Sec → Sec) : (s.onSec f).tab = s.tab := rfl
@[simp] theorem onSec_store (f : Sec → Sec) : (s.onSec f).store = s.store := rfl
@[simp] theorem onSec_carl (f : Sec → Sec) : (s.onSec f).carl = s.carl := rfl
@[simp] theorem onSec_pix (f : Sec → Sec) : (s.onSec f).pix = s.pix := rfl
@[simp] theorem onSec_mal (f : Sec → Sec) : (s.onSec f).mal = s.mal := rfl
@[simp] theorem onSec_sense (f : Sec → Sec) : (s.onSec f).sense = s.sense := rfl
@[simp] theorem onSec_hk (f : Sec → Sec) : (s.onSec f).hk = s.hk := rfl
@[simp] theorem onSec_pwr (f : Sec → Sec) : (s.onSec f).pwr = s.pwr := rfl
@[simp] theorem onSec_safe (f : Sec → Sec) : (s.onSec f).safe = s.safe := rfl
@[simp] theorem onSec_cv (f : Sec → Sec) : (s.onSec f).cv = s.cv := rfl
@[simp] theorem onSec_sec (f : Sec → Sec) : (s.onSec f).sec = f s.sec := rfl
@[simp] theorem onSec_spi (f : Sec → Sec) : (s.onSec f).spi = s.spi := rfl
@[simp] theorem onSec_regs (f : Sec → Sec) : (s.onSec f).regs = s.regs := rfl
@[simp] theorem onSec_latches (f : Sec → Sec) : (s.onSec f).latches = s.latches := rfl
@[simp] theorem onSec_stims (f : Sec → Sec) : (s.onSec f).stims = s.stims := rfl
@[simp] theorem onSec_freeIdx (f : Sec → Sec) : (s.onSec f).freeIdx = s.freeIdx := rfl
@[simp] theorem onSec_pending (f : Sec → Sec) : (s.onSec f).pending = s.pending := rfl

@[simp] theorem onSpi_sys (f : Spi → Spi) : (s.onSpi f).sys = s.sys := rfl
@[simp] theorem onSpi_flt (f : Spi → Spi) : (s.onSpi f).flt = s.flt := rfl
@[simp] theorem onSpi_clap (f : Spi → Spi) : (s.onSpi f).clap = s.clap := rfl
@[simp] theorem onSpi_nvm (f : Spi → Spi) : (s.onSpi f).nvm = s.nvm := rfl
@[simp] theorem onSpi_link (f : Spi → Spi) : (s.onSpi f).link = s.link := rfl
@[simp] theorem onSpi_can (f : Spi → Spi) : (s.onSpi f).can = s.can := rfl
@[simp] theorem onSpi_tab (f : Spi → Spi) : (s.onSpi f).tab = s.tab := rfl
@[simp] theorem onSpi_store (f : Spi → Spi) : (s.onSpi f).store = s.store := rfl
@[simp] theorem onSpi_carl (f : Spi → Spi) : (s.onSpi f).carl = s.carl := rfl
@[simp] theorem onSpi_pix (f : Spi → Spi) : (s.onSpi f).pix = s.pix := rfl
@[simp] theorem onSpi_mal (f : Spi → Spi) : (s.onSpi f).mal = s.mal := rfl
@[simp] theorem onSpi_sense (f : Spi → Spi) : (s.onSpi f).sense = s.sense := rfl
@[simp] theorem onSpi_hk (f : Spi → Spi) : (s.onSpi f).hk = s.hk := rfl
@[simp] theorem onSpi_pwr (f : Spi → Spi) : (s.onSpi f).pwr = s.pwr := rfl
@[simp] theorem onSpi_safe (f : Spi → Spi) : (s.onSpi f).safe = s.safe := rfl
@[simp] theorem onSpi_cv (f : Spi → Spi) : (s.onSpi f).cv = s.cv := rfl
@[simp] theorem onSpi_sec (f : Spi → Spi) : (s.onSpi f).sec = s.sec := rfl
@[simp] theorem onSpi_spi (f : Spi → Spi) : (s.onSpi f).spi = f s.spi := rfl
@[simp] theorem onSpi_regs (f : Spi → Spi) : (s.onSpi f).regs = s.regs := rfl
@[simp] theorem onSpi_latches (f : Spi → Spi) : (s.onSpi f).latches = s.latches := rfl
@[simp] theorem onSpi_stims (f : Spi → Spi) : (s.onSpi f).stims = s.stims := rfl
@[simp] theorem onSpi_freeIdx (f : Spi → Spi) : (s.onSpi f).freeIdx = s.freeIdx := rfl
@[simp] theorem onSpi_pending (f : Spi → Spi) : (s.onSpi f).pending = s.pending := rfl

@[simp] theorem onRegs_sys (f : List (Nat × Word) → List (Nat × Word)) : (s.onRegs f).sys = s.sys := rfl
@[simp] theorem onRegs_flt (f : List (Nat × Word) → List (Nat × Word)) : (s.onRegs f).flt = s.flt := rfl
@[simp] theorem onRegs_clap (f : List (Nat × Word) → List (Nat × Word)) : (s.onRegs f).clap = s.clap := rfl
@[simp] theorem onRegs_nvm (f : List (Nat × Word) → List (Nat × Word)) : (s.onRegs f).nvm = s.nvm := rfl
@[simp] theorem onRegs_link (f : List (Nat × Word) → List (Nat × Word)) : (s.onRegs f).link = s.link := rfl
@[simp] theorem onRegs_can (f : List (Nat × Word) → List (Nat × Word)) : (s.onRegs f).can = s.can := rfl
@[simp] theorem onRegs_tab (f : List (Nat × Word) → List (Nat × Word)) : (s.onRegs f).tab = s.tab := rfl
@[simp] theorem onRegs_store (f : List (Nat × Word) → List (Nat × Word)) : (s.onRegs f).store = s.store := rfl
@[simp] theorem onRegs_carl (f : List (Nat × Word) → List (Nat × Word)) : (s.onRegs f).carl = s.carl := rfl
@[simp] theorem onRegs_pix (f : List (Nat × Word) → List (Nat × Word)) : (s.onRegs f).pix = s.pix := rfl
@[simp] theorem onRegs_mal (f : List (Nat × Word) → List (Nat × Word)) : (s.onRegs f).mal = s.mal := rfl
@[simp] theorem onRegs_sense (f : List (Nat × Word) → List (Nat × Word)) : (s.onRegs f).sense = s.sense := rfl
@[simp] theorem onRegs_hk (f : List (Nat × Word) → List (Nat × Word)) : (s.onRegs f).hk = s.hk := rfl
@[simp] theorem onRegs_pwr (f : List (Nat × Word) → List (Nat × Word)) : (s.onRegs f).pwr = s.pwr := rfl
@[simp] theorem onRegs_safe (f : List (Nat × Word) → List (Nat × Word)) : (s.onRegs f).safe = s.safe := rfl
@[simp] theorem onRegs_cv (f : List (Nat × Word) → List (Nat × Word)) : (s.onRegs f).cv = s.cv := rfl
@[simp] theorem onRegs_sec (f : List (Nat × Word) → List (Nat × Word)) : (s.onRegs f).sec = s.sec := rfl
@[simp] theorem onRegs_spi (f : List (Nat × Word) → List (Nat × Word)) : (s.onRegs f).spi = s.spi := rfl
@[simp] theorem onRegs_regs (f : List (Nat × Word) → List (Nat × Word)) : (s.onRegs f).regs = f s.regs := rfl
@[simp] theorem onRegs_latches (f : List (Nat × Word) → List (Nat × Word)) : (s.onRegs f).latches = s.latches := rfl
@[simp] theorem onRegs_stims (f : List (Nat × Word) → List (Nat × Word)) : (s.onRegs f).stims = s.stims := rfl
@[simp] theorem onRegs_freeIdx (f : List (Nat × Word) → List (Nat × Word)) : (s.onRegs f).freeIdx = s.freeIdx := rfl
@[simp] theorem onRegs_pending (f : List (Nat × Word) → List (Nat × Word)) : (s.onRegs f).pending = s.pending := rfl

@[simp] theorem onLatches_sys (f : List (Nat × Word) → List (Nat × Word)) : (s.onLatches f).sys = s.sys := rfl
@[simp] theorem onLatches_flt (f : List (Nat × Word) → List (Nat × Word)) : (s.onLatches f).flt = s.flt := rfl
@[simp] theorem onLatches_clap (f : List (Nat × Word) → List (Nat × Word)) : (s.onLatches f).clap = s.clap := rfl
@[simp] theorem onLatches_nvm (f : List (Nat × Word) → List (Nat × Word)) : (s.onLatches f).nvm = s.nvm := rfl
@[simp] theorem onLatches_link (f : List (Nat × Word) → List (Nat × Word)) : (s.onLatches f).link = s.link := rfl
@[simp] theorem onLatches_can (f : List (Nat × Word) → List (Nat × Word)) : (s.onLatches f).can = s.can := rfl
@[simp] theorem onLatches_tab (f : List (Nat × Word) → List (Nat × Word)) : (s.onLatches f).tab = s.tab := rfl
@[simp] theorem onLatches_store (f : List (Nat × Word) → List (Nat × Word)) : (s.onLatches f).store = s.store := rfl
@[simp] theorem onLatches_carl (f : List (Nat × Word) → List (Nat × Word)) : (s.onLatches f).carl = s.carl := rfl
@[simp] theorem onLatches_pix (f : List (Nat × Word) → List (Nat × Word)) : (s.onLatches f).pix = s.pix := rfl
@[simp] theorem onLatches_mal (f : List (Nat × Word) → List (Nat × Word)) : (s.onLatches f).mal = s.mal := rfl
@[simp] theorem onLatches_sense (f : List (Nat × Word) → List (Nat × Word)) : (s.onLatches f).sense = s.sense := rfl
@[simp] theorem onLatches_hk (f : List (Nat × Word) → List (Nat × Word)) : (s.onLatches f).hk = s.hk := rfl
@[simp] theorem onLatches_pwr (f : List (Nat × Word) → List (Nat × Word)) : (s.onLatches f).pwr = s.pwr := rfl
@[simp] theorem onLatches_safe (f : List (Nat × Word) → List (Nat × Word)) : (s.onLatches f).safe = s.safe := rfl
@[simp] theorem onLatches_cv (f : List (Nat × Word) → List (Nat × Word)) : (s.onLatches f).cv = s.cv := rfl
@[simp] theorem onLatches_sec (f : List (Nat × Word) → List (Nat × Word)) : (s.onLatches f).sec = s.sec := rfl
@[simp] theorem onLatches_spi (f : List (Nat × Word) → List (Nat × Word)) : (s.onLatches f).spi = s.spi := rfl
@[simp] theorem onLatches_regs (f : List (Nat × Word) → List (Nat × Word)) : (s.onLatches f).regs = s.regs := rfl
@[simp] theorem onLatches_latches (f : List (Nat × Word) → List (Nat × Word)) : (s.onLatches f).latches = f s.latches := rfl
@[simp] theorem onLatches_stims (f : List (Nat × Word) → List (Nat × Word)) : (s.onLatches f).stims = s.stims := rfl
@[simp] theorem onLatches_freeIdx (f : List (Nat × Word) → List (Nat × Word)) : (s.onLatches f).freeIdx = s.freeIdx := rfl
@[simp] theorem onLatches_pending (f : List (Nat × Word) → List (Nat × Word)) : (s.onLatches f).pending = s.pending := rfl

@[simp] theorem onStims_sys (f : List (Nat × Nat × Nat) → List (Nat × Nat × Nat)) : (s.onStims f).sys = s.sys := rfl
@[simp] theorem onStims_flt (f : List (Nat × Nat × Nat) → List (Nat × Nat × Nat)) : (s.onStims f).flt = s.flt := rfl
@[simp] theorem onStims_clap (f : List (Nat × Nat × Nat) → List (Nat × Nat × Nat)) : (s.onStims f).clap = s.clap := rfl
@[simp] theorem onStims_nvm (f : List (Nat × Nat × Nat) → List (Nat × Nat × Nat)) : (s.onStims f).nvm = s.nvm := rfl
@[simp] theorem onStims_link (f : List (Nat × Nat × Nat) → List (Nat × Nat × Nat)) : (s.onStims f).link = s.link := rfl
@[simp] theorem onStims_can (f : List (Nat × Nat × Nat) → List (Nat × Nat × Nat)) : (s.onStims f).can = s.can := rfl
@[simp] theorem onStims_tab (f : List (Nat × Nat × Nat) → List (Nat × Nat × Nat)) : (s.onStims f).tab = s.tab := rfl
@[simp] theorem onStims_store (f : List (Nat × Nat × Nat) → List (Nat × Nat × Nat)) : (s.onStims f).store = s.store := rfl
@[simp] theorem onStims_carl (f : List (Nat × Nat × Nat) → List (Nat × Nat × Nat)) : (s.onStims f).carl = s.carl := rfl
@[simp] theorem onStims_pix (f : List (Nat × Nat × Nat) → List (Nat × Nat × Nat)) : (s.onStims f).pix = s.pix := rfl
@[simp] theorem onStims_mal (f : List (Nat × Nat × Nat) → List (Nat × Nat × Nat)) : (s.onStims f).mal = s.mal := rfl
@[simp] theorem onStims_sense (f : List (Nat × Nat × Nat) → List (Nat × Nat × Nat)) : (s.onStims f).sense = s.sense := rfl
@[simp] theorem onStims_hk (f : List (Nat × Nat × Nat) → List (Nat × Nat × Nat)) : (s.onStims f).hk = s.hk := rfl
@[simp] theorem onStims_pwr (f : List (Nat × Nat × Nat) → List (Nat × Nat × Nat)) : (s.onStims f).pwr = s.pwr := rfl
@[simp] theorem onStims_safe (f : List (Nat × Nat × Nat) → List (Nat × Nat × Nat)) : (s.onStims f).safe = s.safe := rfl
@[simp] theorem onStims_cv (f : List (Nat × Nat × Nat) → List (Nat × Nat × Nat)) : (s.onStims f).cv = s.cv := rfl
@[simp] theorem onStims_sec (f : List (Nat × Nat × Nat) → List (Nat × Nat × Nat)) : (s.onStims f).sec = s.sec := rfl
@[simp] theorem onStims_spi (f : List (Nat × Nat × Nat) → List (Nat × Nat × Nat)) : (s.onStims f).spi = s.spi := rfl
@[simp] theorem onStims_regs (f : List (Nat × Nat × Nat) → List (Nat × Nat × Nat)) : (s.onStims f).regs = s.regs := rfl
@[simp] theorem onStims_latches (f : List (Nat × Nat × Nat) → List (Nat × Nat × Nat)) : (s.onStims f).latches = s.latches := rfl
@[simp] theorem onStims_stims (f : List (Nat × Nat × Nat) → List (Nat × Nat × Nat)) : (s.onStims f).stims = f s.stims := rfl
@[simp] theorem onStims_freeIdx (f : List (Nat × Nat × Nat) → List (Nat × Nat × Nat)) : (s.onStims f).freeIdx = s.freeIdx := rfl
@[simp] theorem onStims_pending (f : List (Nat × Nat × Nat) → List (Nat × Nat × Nat)) : (s.onStims f).pending = s.pending := rfl

@[simp] theorem onFreeIdx_sys (f : Nat → Nat) : (s.onFreeIdx f).sys = s.sys := rfl
@[simp] theorem onFreeIdx_flt (f : Nat → Nat) : (s.onFreeIdx f).flt = s.flt := rfl
@[simp] theorem onFreeIdx_clap (f : Nat → Nat) : (s.onFreeIdx f).clap = s.clap := rfl
@[simp] theorem onFreeIdx_nvm (f : Nat → Nat) : (s.onFreeIdx f).nvm = s.nvm := rfl
@[simp] theorem onFreeIdx_link (f : Nat → Nat) : (s.onFreeIdx f).link = s.link := rfl
@[simp] theorem onFreeIdx_can (f : Nat → Nat) : (s.onFreeIdx f).can = s.can := rfl
@[simp] theorem onFreeIdx_tab (f : Nat → Nat) : (s.onFreeIdx f).tab = s.tab := rfl
@[simp] theorem onFreeIdx_store (f : Nat → Nat) : (s.onFreeIdx f).store = s.store := rfl
@[simp] theorem onFreeIdx_carl (f : Nat → Nat) : (s.onFreeIdx f).carl = s.carl := rfl
@[simp] theorem onFreeIdx_pix (f : Nat → Nat) : (s.onFreeIdx f).pix = s.pix := rfl
@[simp] theorem onFreeIdx_mal (f : Nat → Nat) : (s.onFreeIdx f).mal = s.mal := rfl
@[simp] theorem onFreeIdx_sense (f : Nat → Nat) : (s.onFreeIdx f).sense = s.sense := rfl
@[simp] theorem onFreeIdx_hk (f : Nat → Nat) : (s.onFreeIdx f).hk = s.hk := rfl
@[simp] theorem onFreeIdx_pwr (f : Nat → Nat) : (s.onFreeIdx f).pwr = s.pwr := rfl
@[simp] theorem onFreeIdx_safe (f : Nat → Nat) : (s.onFreeIdx f).safe = s.safe := rfl
@[simp] theorem onFreeIdx_cv (f : Nat → Nat) : (s.onFreeIdx f).cv = s.cv := rfl
@[simp] theorem onFreeIdx_sec (f : Nat → Nat) : (s.onFreeIdx f).sec = s.sec := rfl
@[simp] theorem onFreeIdx_spi (f : Nat → Nat) : (s.onFreeIdx f).spi = s.spi := rfl
@[simp] theorem onFreeIdx_regs (f : Nat → Nat) : (s.onFreeIdx f).regs = s.regs := rfl
@[simp] theorem onFreeIdx_latches (f : Nat → Nat) : (s.onFreeIdx f).latches = s.latches := rfl
@[simp] theorem onFreeIdx_stims (f : Nat → Nat) : (s.onFreeIdx f).stims = s.stims := rfl
@[simp] theorem onFreeIdx_freeIdx (f : Nat → Nat) : (s.onFreeIdx f).freeIdx = f s.freeIdx := rfl
@[simp] theorem onFreeIdx_pending (f : Nat → Nat) : (s.onFreeIdx f).pending = s.pending := rfl

@[simp] theorem onPending_sys (f : List Instr → List Instr) : (s.onPending f).sys = s.sys := rfl
@[simp] theorem onPending_flt (f : List Instr → List Instr) : (s.onPending f).flt = s.flt := rfl
@[simp] theorem onPending_clap (f : List Instr → List Instr) : (s.onPending f).clap = s.clap := rfl
@[simp] theorem onPending_nvm (f : List Instr → List Instr) : (s.onPending f).nvm = s.nvm := rfl
@[simp] theorem onPending_link (f : List Instr → List Instr) : (s.onPending f).link = s.link := rfl
@[simp] theorem onPending_can (f : List Instr → List Instr) : (s.onPending f).can = s.can := rfl
@[simp] theorem onPending_tab (f : List Instr → List Instr) : (s.onPending f).tab = s.tab := rfl
@[simp] theorem onPending_store (f : List Instr → List Instr) : (s.onPending f).store = s.store := rfl
@[simp] theorem onPending_carl (f : List Instr → List Instr) : (s.onPending f).carl = s.carl := rfl
@[simp] theorem onPending_pix (f : List Instr → List Instr) : (s.onPending f).pix = s.pix := rfl
@[simp] theorem onPending_mal (f : List Instr → List Instr) : (s.onPending f).mal = s.mal := rfl
@[simp] theorem onPending_sense (f : List Instr → List Instr) : (s.onPending f).sense = s.sense := rfl
@[simp] theorem onPending_hk (f : List Instr → List Instr) : (s.onPending f).hk = s.hk := rfl
@[simp] theorem onPending_pwr (f : List Instr → List Instr) : (s.onPending f).pwr = s.pwr := rfl
@[simp] theorem onPending_safe (f : List Instr → List Instr) : (s.onPending f).safe = s.safe := rfl
@[simp] theorem onPending_cv (f : List Instr → List Instr) : (s.onPending f).cv = s.cv := rfl
@[simp] theorem onPending_sec (f : List Instr → List Instr) : (s.onPending f).sec = s.sec := rfl
@[simp] theorem onPending_spi (f : List Instr → List Instr) : (s.onPending f).spi = s.spi := rfl
@[simp] theorem onPending_regs (f : List Instr → List Instr) : (s.onPending f).regs = s.regs := rfl
@[simp] theorem onPending_latches (f : List Instr → List Instr) : (s.onPending f).latches = s.latches := rfl
@[simp] theorem onPending_stims (f : List Instr → List Instr) : (s.onPending f).stims = s.stims := rfl
@[simp] theorem onPending_freeIdx (f : List Instr → List Instr) : (s.onPending f).freeIdx = s.freeIdx := rfl
@[simp] theorem onPending_pending (f : List Instr → List Instr) : (s.onPending f).pending = f s.pending := rfl

end Sys2Proof.Machine.State
end

