-- ==== Sys2Proof/Laws/Ops.lean ====
section
/-!
SUPPORT. The frame of each shared operation: the fields of State, and the fields of CLAP, that it leaves as they were.
-/
namespace Sys2Proof.Machine

theorem iter_keeps {α β : Type} (g : α → β) (f : α → α) (h : ∀ x, g (f x) = g x) (n : Nat) (x : α) : g (iter n f x) = g x := by
  induction n generalizing x with
  | zero => rfl
  | succ n ih => simp [iter, ih, h]

theorem foldl_keeps {α β γ : Type} (g : α → β) (f : α → γ → α) (h : ∀ x a, g (f x a) = g x) (l : List γ) (x : α) :
    g (l.foldl f x) = g x := by
  induction l generalizing x with
  | nil => rfl
  | cons a l ih => simp [ih, h]

theorem forN_keeps {α β : Type} (g : α → β) (f : Nat → α → α) (h : ∀ i x, g (f i x) = g x) (n i : Nat) (x : α) :
    g (forN n i f x) = g x := by
  induction n generalizing i x with
  | zero => rfl
  | succ n ih => simp [forN, ih, h]

@[simp] theorem State.setReg_frame (s : State) (a : Nat) (v : Word) :
    (s.setReg a v).sys = s.sys ∧
    (s.setReg a v).flt = s.flt ∧
    (s.setReg a v).clap = s.clap ∧
    (s.setReg a v).nvm = s.nvm ∧
    (s.setReg a v).link = s.link ∧
    (s.setReg a v).can = s.can ∧
    (s.setReg a v).tab = s.tab ∧
    (s.setReg a v).store = s.store ∧
    (s.setReg a v).carl = s.carl ∧
    (s.setReg a v).pix = s.pix ∧
    (s.setReg a v).mal = s.mal ∧
    (s.setReg a v).sense = s.sense ∧
    (s.setReg a v).hk = s.hk ∧
    (s.setReg a v).pwr = s.pwr ∧
    (s.setReg a v).safe = s.safe ∧
    (s.setReg a v).cv = s.cv ∧
    (s.setReg a v).sec = s.sec ∧
    (s.setReg a v).spi = s.spi ∧
    (s.setReg a v).latches = s.latches ∧
    (s.setReg a v).stims = s.stims ∧
    (s.setReg a v).freeIdx = s.freeIdx ∧
    (s.setReg a v).pending = s.pending := by
  simp [State.setReg]

@[simp] theorem State.setFld_frame (s : State) (a lo n v : Nat) :
    (s.setFld a lo n v).sys = s.sys ∧
    (s.setFld a lo n v).flt = s.flt ∧
    (s.setFld a lo n v).clap = s.clap ∧
    (s.setFld a lo n v).nvm = s.nvm ∧
    (s.setFld a lo n v).link = s.link ∧
    (s.setFld a lo n v).can = s.can ∧
    (s.setFld a lo n v).tab = s.tab ∧
    (s.setFld a lo n v).store = s.store ∧
    (s.setFld a lo n v).carl = s.carl ∧
    (s.setFld a lo n v).pix = s.pix ∧
    (s.setFld a lo n v).mal = s.mal ∧
    (s.setFld a lo n v).sense = s.sense ∧
    (s.setFld a lo n v).hk = s.hk ∧
    (s.setFld a lo n v).pwr = s.pwr ∧
    (s.setFld a lo n v).safe = s.safe ∧
    (s.setFld a lo n v).cv = s.cv ∧
    (s.setFld a lo n v).sec = s.sec ∧
    (s.setFld a lo n v).spi = s.spi ∧
    (s.setFld a lo n v).latches = s.latches ∧
    (s.setFld a lo n v).stims = s.stims ∧
    (s.setFld a lo n v).freeIdx = s.freeIdx ∧
    (s.setFld a lo n v).pending = s.pending := by
  simp [State.setFld]

@[simp] theorem State.bump_frame (s : State) (a lo n k : Nat) :
    (s.bump a lo n k).sys = s.sys ∧
    (s.bump a lo n k).flt = s.flt ∧
    (s.bump a lo n k).clap = s.clap ∧
    (s.bump a lo n k).nvm = s.nvm ∧
    (s.bump a lo n k).link = s.link ∧
    (s.bump a lo n k).can = s.can ∧
    (s.bump a lo n k).tab = s.tab ∧
    (s.bump a lo n k).store = s.store ∧
    (s.bump a lo n k).carl = s.carl ∧
    (s.bump a lo n k).pix = s.pix ∧
    (s.bump a lo n k).mal = s.mal ∧
    (s.bump a lo n k).sense = s.sense ∧
    (s.bump a lo n k).hk = s.hk ∧
    (s.bump a lo n k).pwr = s.pwr ∧
    (s.bump a lo n k).safe = s.safe ∧
    (s.bump a lo n k).cv = s.cv ∧
    (s.bump a lo n k).sec = s.sec ∧
    (s.bump a lo n k).spi = s.spi ∧
    (s.bump a lo n k).latches = s.latches ∧
    (s.bump a lo n k).stims = s.stims ∧
    (s.bump a lo n k).freeIdx = s.freeIdx ∧
    (s.bump a lo n k).pending = s.pending := by
  simp [State.bump]

@[simp] theorem State.freeNext_frame (s : State) :
    (s.freeNext).sys = s.sys ∧
    (s.freeNext).flt = s.flt ∧
    (s.freeNext).clap = s.clap ∧
    (s.freeNext).nvm = s.nvm ∧
    (s.freeNext).link = s.link ∧
    (s.freeNext).can = s.can ∧
    (s.freeNext).tab = s.tab ∧
    (s.freeNext).store = s.store ∧
    (s.freeNext).carl = s.carl ∧
    (s.freeNext).pix = s.pix ∧
    (s.freeNext).mal = s.mal ∧
    (s.freeNext).sense = s.sense ∧
    (s.freeNext).hk = s.hk ∧
    (s.freeNext).pwr = s.pwr ∧
    (s.freeNext).safe = s.safe ∧
    (s.freeNext).cv = s.cv ∧
    (s.freeNext).sec = s.sec ∧
    (s.freeNext).spi = s.spi ∧
    (s.freeNext).regs = s.regs ∧
    (s.freeNext).latches = s.latches ∧
    (s.freeNext).stims = s.stims ∧
    (s.freeNext).pending = s.pending := by
  simp [State.freeNext]

@[simp] theorem cvEvent_frame (u : Nat) (f : CvUnit → CvUnit) (s : State) :
    (cvEvent u f s).sys = s.sys ∧
    (cvEvent u f s).flt = s.flt ∧
    (cvEvent u f s).clap = s.clap ∧
    (cvEvent u f s).nvm = s.nvm ∧
    (cvEvent u f s).link = s.link ∧
    (cvEvent u f s).can = s.can ∧
    (cvEvent u f s).tab = s.tab ∧
    (cvEvent u f s).store = s.store ∧
    (cvEvent u f s).carl = s.carl ∧
    (cvEvent u f s).pix = s.pix ∧
    (cvEvent u f s).mal = s.mal ∧
    (cvEvent u f s).sense = s.sense ∧
    (cvEvent u f s).hk = s.hk ∧
    (cvEvent u f s).pwr = s.pwr ∧
    (cvEvent u f s).safe = s.safe ∧
    (cvEvent u f s).sec = s.sec ∧
    (cvEvent u f s).spi = s.spi ∧
    (cvEvent u f s).regs = s.regs ∧
    (cvEvent u f s).latches = s.latches ∧
    (cvEvent u f s).stims = s.stims ∧
    (cvEvent u f s).freeIdx = s.freeIdx ∧
    (cvEvent u f s).pending = s.pending ∧
    (cvEvent u f s).cv.scan = s.cv.scan ∧
    (cvEvent u f s).cv.last = s.cv.last := by
  simp [cvEvent]

@[simp] theorem cvCheck_frame (u : Nat) (good : Bool) (s : State) :
    (cvCheck u good s).sys = s.sys ∧
    (cvCheck u good s).flt = s.flt ∧
    (cvCheck u good s).clap = s.clap ∧
    (cvCheck u good s).nvm = s.nvm ∧
    (cvCheck u good s).link = s.link ∧
    (cvCheck u good s).can = s.can ∧
    (cvCheck u good s).tab = s.tab ∧
    (cvCheck u good s).store = s.store ∧
    (cvCheck u good s).carl = s.carl ∧
    (cvCheck u good s).pix = s.pix ∧
    (cvCheck u good s).mal = s.mal ∧
    (cvCheck u good s).sense = s.sense ∧
    (cvCheck u good s).hk = s.hk ∧
    (cvCheck u good s).pwr = s.pwr ∧
    (cvCheck u good s).safe = s.safe ∧
    (cvCheck u good s).sec = s.sec ∧
    (cvCheck u good s).spi = s.spi ∧
    (cvCheck u good s).latches = s.latches ∧
    (cvCheck u good s).stims = s.stims ∧
    (cvCheck u good s).freeIdx = s.freeIdx ∧
    (cvCheck u good s).pending = s.pending ∧
    (cvCheck u good s).cv.scan = s.cv.scan ∧
    (cvCheck u good s).cv.last = s.cv.last := by
  unfold cvCheck; cases good <;> simp

@[simp] theorem sendPkt_frame (p : TxPkt) (s : State) :
    (sendPkt p s).sys = s.sys ∧
    (sendPkt p s).flt = s.flt ∧
    (sendPkt p s).clap = s.clap ∧
    (sendPkt p s).nvm = s.nvm ∧
    (sendPkt p s).can = s.can ∧
    (sendPkt p s).tab = s.tab ∧
    (sendPkt p s).store = s.store ∧
    (sendPkt p s).carl = s.carl ∧
    (sendPkt p s).pix = s.pix ∧
    (sendPkt p s).mal = s.mal ∧
    (sendPkt p s).sense = s.sense ∧
    (sendPkt p s).hk = s.hk ∧
    (sendPkt p s).pwr = s.pwr ∧
    (sendPkt p s).safe = s.safe ∧
    (sendPkt p s).sec = s.sec ∧
    (sendPkt p s).spi = s.spi ∧
    (sendPkt p s).regs = s.regs ∧
    (sendPkt p s).latches = s.latches ∧
    (sendPkt p s).stims = s.stims ∧
    (sendPkt p s).freeIdx = s.freeIdx ∧
    (sendPkt p s).pending = s.pending ∧
    (sendPkt p s).cv.scan = s.cv.scan ∧
    (sendPkt p s).cv.last = s.cv.last ∧
    (sendPkt p s).link.ls = s.link.ls := by
  simp [sendPkt]

@[simp] theorem queuePkt_frame (cls : Nat) (payload : Bytes) (tag : TxTag) (s : State) :
    (queuePkt cls payload tag s).sys = s.sys ∧
    (queuePkt cls payload tag s).flt = s.flt ∧
    (queuePkt cls payload tag s).clap = s.clap ∧
    (queuePkt cls payload tag s).nvm = s.nvm ∧
    (queuePkt cls payload tag s).can = s.can ∧
    (queuePkt cls payload tag s).tab = s.tab ∧
    (queuePkt cls payload tag s).store = s.store ∧
    (queuePkt cls payload tag s).carl = s.carl ∧
    (queuePkt cls payload tag s).pix = s.pix ∧
    (queuePkt cls payload tag s).mal = s.mal ∧
    (queuePkt cls payload tag s).sense = s.sense ∧
    (queuePkt cls payload tag s).hk = s.hk ∧
    (queuePkt cls payload tag s).pwr = s.pwr ∧
    (queuePkt cls payload tag s).safe = s.safe ∧
    (queuePkt cls payload tag s).cv = s.cv ∧
    (queuePkt cls payload tag s).sec = s.sec ∧
    (queuePkt cls payload tag s).spi = s.spi ∧
    (queuePkt cls payload tag s).regs = s.regs ∧
    (queuePkt cls payload tag s).latches = s.latches ∧
    (queuePkt cls payload tag s).stims = s.stims ∧
    (queuePkt cls payload tag s).freeIdx = s.freeIdx ∧
    (queuePkt cls payload tag s).pending = s.pending ∧
    (queuePkt cls payload tag s).link.ls = s.link.ls := by
  simp [queuePkt]

@[simp] theorem sendCtrl_frame (lanes : BitVec 4) (b : BitVec 64) (s : State) :
    (sendCtrl lanes b s).sys = s.sys ∧
    (sendCtrl lanes b s).flt = s.flt ∧
    (sendCtrl lanes b s).clap = s.clap ∧
    (sendCtrl lanes b s).nvm = s.nvm ∧
    (sendCtrl lanes b s).can = s.can ∧
    (sendCtrl lanes b s).tab = s.tab ∧
    (sendCtrl lanes b s).store = s.store ∧
    (sendCtrl lanes b s).carl = s.carl ∧
    (sendCtrl lanes b s).pix = s.pix ∧
    (sendCtrl lanes b s).mal = s.mal ∧
    (sendCtrl lanes b s).sense = s.sense ∧
    (sendCtrl lanes b s).hk = s.hk ∧
    (sendCtrl lanes b s).pwr = s.pwr ∧
    (sendCtrl lanes b s).safe = s.safe ∧
    (sendCtrl lanes b s).cv = s.cv ∧
    (sendCtrl lanes b s).sec = s.sec ∧
    (sendCtrl lanes b s).spi = s.spi ∧
    (sendCtrl lanes b s).regs = s.regs ∧
    (sendCtrl lanes b s).latches = s.latches ∧
    (sendCtrl lanes b s).stims = s.stims ∧
    (sendCtrl lanes b s).freeIdx = s.freeIdx ∧
    (sendCtrl lanes b s).pending = s.pending ∧
    (sendCtrl lanes b s).link.ls = s.link.ls := by
  simp [sendCtrl]

/-- What pumpOne may do: nothing, or send one packet that waited in outq or in the event queue. -/
theorem pumpOne_cases (s : State) :
    pumpOne s = s ∨ (∃ p q, pumpOne s = sendPkt p (s.onLink (fun l => { l with outq := q }))) ∨
    ∃ p q, pumpOne s = sendPkt p (s.onClap (fun c => { c with evtQ := q, evtLost := false })) := by
  unfold pumpOne
  repeat' split
  · exact .inl rfl
  · exact .inl rfl
  · exact .inr (.inl ⟨_, _, rfl⟩)
  · exact .inr (.inr ⟨_, _, rfl⟩)

@[simp] theorem pumpOne_frame (s : State) :
    (pumpOne s).sys = s.sys ∧
    (pumpOne s).flt = s.flt ∧
    (pumpOne s).nvm = s.nvm ∧
    (pumpOne s).can = s.can ∧
    (pumpOne s).tab = s.tab ∧
    (pumpOne s).store = s.store ∧
    (pumpOne s).carl = s.carl ∧
    (pumpOne s).pix = s.pix ∧
    (pumpOne s).mal = s.mal ∧
    (pumpOne s).sense = s.sense ∧
    (pumpOne s).hk = s.hk ∧
    (pumpOne s).pwr = s.pwr ∧
    (pumpOne s).safe = s.safe ∧
    (pumpOne s).sec = s.sec ∧
    (pumpOne s).spi = s.spi ∧
    (pumpOne s).regs = s.regs ∧
    (pumpOne s).latches = s.latches ∧
    (pumpOne s).stims = s.stims ∧
    (pumpOne s).freeIdx = s.freeIdx ∧
    (pumpOne s).pending = s.pending ∧
    (pumpOne s).clap.queue = s.clap.queue ∧
    (pumpOne s).clap.held = s.clap.held ∧
    (pumpOne s).clap.restarting = s.clap.restarting ∧
    (pumpOne s).clap.long = s.clap.long ∧
    (pumpOne s).clap.retained = s.clap.retained ∧
    (pumpOne s).clap.ledgerSeq = s.clap.ledgerSeq ∧
    (pumpOne s).clap.seqU = s.clap.seqU ∧
    (pumpOne s).clap.log = s.clap.log ∧
    (pumpOne s).clap.logSeq = s.clap.logSeq ∧
    (pumpOne s).clap.logPend = s.clap.logPend ∧
    (pumpOne s).clap.rates = s.clap.rates ∧
    (pumpOne s).clap.ledger = s.clap.ledger ∧
    (pumpOne s).cv.scan = s.cv.scan ∧
    (pumpOne s).cv.last = s.cv.last ∧
    (pumpOne s).link.ls = s.link.ls := by
  rcases pumpOne_cases s with h | ⟨p, q, h⟩ | ⟨p, q, h⟩ <;> rw [h] <;> simp

@[simp] theorem pump_frame (s : State) :
    (pump s).sys = s.sys ∧
    (pump s).flt = s.flt ∧
    (pump s).nvm = s.nvm ∧
    (pump s).can = s.can ∧
    (pump s).tab = s.tab ∧
    (pump s).store = s.store ∧
    (pump s).carl = s.carl ∧
    (pump s).pix = s.pix ∧
    (pump s).mal = s.mal ∧
    (pump s).sense = s.sense ∧
    (pump s).hk = s.hk ∧
    (pump s).pwr = s.pwr ∧
    (pump s).safe = s.safe ∧
    (pump s).sec = s.sec ∧
    (pump s).spi = s.spi ∧
    (pump s).regs = s.regs ∧
    (pump s).latches = s.latches ∧
    (pump s).stims = s.stims ∧
    (pump s).freeIdx = s.freeIdx ∧
    (pump s).pending = s.pending ∧
    (pump s).clap.queue = s.clap.queue ∧
    (pump s).clap.held = s.clap.held ∧
    (pump s).clap.restarting = s.clap.restarting ∧
    (pump s).clap.long = s.clap.long ∧
    (pump s).clap.retained = s.clap.retained ∧
    (pump s).clap.ledgerSeq = s.clap.ledgerSeq ∧
    (pump s).clap.seqU = s.clap.seqU ∧
    (pump s).clap.log = s.clap.log ∧
    (pump s).clap.logSeq = s.clap.logSeq ∧
    (pump s).clap.logPend = s.clap.logPend ∧
    (pump s).clap.rates = s.clap.rates ∧
    (pump s).clap.ledger = s.clap.ledger ∧
    (pump s).cv.scan = s.cv.scan ∧
    (pump s).cv.last = s.cv.last ∧
    (pump s).link.ls = s.link.ls := by
  unfold pump
  refine ⟨iter_keeps (fun x : State => x.sys) pumpOne (by simp) _ _, iter_keeps (fun x : State => x.flt) pumpOne (by simp) _ _, iter_keeps (fun x : State => x.nvm) pumpOne (by simp) _ _, iter_keeps (fun x : State => x.can) pumpOne (by simp) _ _, iter_keeps (fun x : State => x.tab) pumpOne (by simp) _ _, iter_keeps (fun x : State => x.store) pumpOne (by simp) _ _, iter_keeps (fun x : State => x.carl) pumpOne (by simp) _ _, iter_keeps (fun x : State => x.pix) pumpOne (by simp) _ _, iter_keeps (fun x : State => x.mal) pumpOne (by simp) _ _, iter_keeps (fun x : State => x.sense) pumpOne (by simp) _ _, iter_keeps (fun x : State => x.hk) pumpOne (by simp) _ _, iter_keeps (fun x : State => x.pwr) pumpOne (by simp) _ _, iter_keeps (fun x : State => x.safe) pumpOne (by simp) _ _, iter_keeps (fun x : State => x.sec) pumpOne (by simp) _ _, iter_keeps (fun x : State => x.spi) pumpOne (by simp) _ _, iter_keeps (fun x : State => x.regs) pumpOne (by simp) _ _, iter_keeps (fun x : State => x.latches) pumpOne (by simp) _ _, iter_keeps (fun x : State => x.stims) pumpOne (by simp) _ _, iter_keeps (fun x : State => x.freeIdx) pumpOne (by simp) _ _, iter_keeps (fun x : State => x.pending) pumpOne (by simp) _ _, iter_keeps (fun x : State => x.clap.queue) pumpOne (by simp) _ _, iter_keeps (fun x : State => x.clap.held) pumpOne (by simp) _ _, iter_keeps (fun x : State => x.clap.restarting) pumpOne (by simp) _ _, iter_keeps (fun x : State => x.clap.long) pumpOne (by simp) _ _, iter_keeps (fun x : State => x.clap.retained) pumpOne (by simp) _ _, iter_keeps (fun x : State => x.clap.ledgerSeq) pumpOne (by simp) _ _, iter_keeps (fun x : State => x.clap.seqU) pumpOne (by simp) _ _, iter_keeps (fun x : State => x.clap.log) pumpOne (by simp) _ _, iter_keeps (fun x : State => x.clap.logSeq) pumpOne (by simp) _ _, iter_keeps (fun x : State => x.clap.logPend) pumpOne (by simp) _ _, iter_keeps (fun x : State => x.clap.rates) pumpOne (by simp) _ _, iter_keeps (fun x : State => x.clap.ledger) pumpOne (by simp) _ _, iter_keeps (fun x : State => x.cv.scan) pumpOne (by simp) _ _, iter_keeps (fun x : State => x.cv.last) pumpOne (by simp) _ _, iter_keeps (fun x : State => x.link.ls) pumpOne (by simp) _ _⟩

@[simp] theorem queueCan_frame (off : Nat) (bs : Bytes) (tag : TxTag) (s : State) :
    (queueCan off bs tag s).sys = s.sys ∧
    (queueCan off bs tag s).flt = s.flt ∧
    (queueCan off bs tag s).clap = s.clap ∧
    (queueCan off bs tag s).nvm = s.nvm ∧
    (queueCan off bs tag s).link = s.link ∧
    (queueCan off bs tag s).tab = s.tab ∧
    (queueCan off bs tag s).store = s.store ∧
    (queueCan off bs tag s).carl = s.carl ∧
    (queueCan off bs tag s).pix = s.pix ∧
    (queueCan off bs tag s).mal = s.mal ∧
    (queueCan off bs tag s).sense = s.sense ∧
    (queueCan off bs tag s).hk = s.hk ∧
    (queueCan off bs tag s).pwr = s.pwr ∧
    (queueCan off bs tag s).safe = s.safe ∧
    (queueCan off bs tag s).cv = s.cv ∧
    (queueCan off bs tag s).sec = s.sec ∧
    (queueCan off bs tag s).spi = s.spi ∧
    (queueCan off bs tag s).regs = s.regs ∧
    (queueCan off bs tag s).latches = s.latches ∧
    (queueCan off bs tag s).stims = s.stims ∧
    (queueCan off bs tag s).freeIdx = s.freeIdx ∧
    (queueCan off bs tag s).pending = s.pending := by
  unfold queueCan; split <;> simp

theorem flushCan_cases (s : State) :
    flushCan s = s ∨ ∃ q l, ∃ es : List EvtRec, flushCan s =
      (es.foldl (fun (acc : State × Bool) (e : EvtRec) => (queueCan (8 + s.side) (evtBytes e acc.2) .none acc.1, false))
        (s.onClap (fun c => { c with evtQ := q, evtLost := l }), s.clap.evtLost)).1 := by
  unfold flushCan
  split
  · exact .inl rfl
  · exact .inr ⟨s.clap.evtQ.filter (fun e => !s.evtOnCan e), _, s.clap.evtQ.filter s.evtOnCan, rfl⟩

@[simp] theorem flushCan_frame (s : State) :
    (flushCan s).sys = s.sys ∧
    (flushCan s).flt = s.flt ∧
    (flushCan s).nvm = s.nvm ∧
    (flushCan s).tab = s.tab ∧
    (flushCan s).store = s.store ∧
    (flushCan s).carl = s.carl ∧
    (flushCan s).pix = s.pix ∧
    (flushCan s).mal = s.mal ∧
    (flushCan s).sense = s.sense ∧
    (flushCan s).hk = s.hk ∧
    (flushCan s).pwr = s.pwr ∧
    (flushCan s).safe = s.safe ∧
    (flushCan s).sec = s.sec ∧
    (flushCan s).spi = s.spi ∧
    (flushCan s).regs = s.regs ∧
    (flushCan s).latches = s.latches ∧
    (flushCan s).stims = s.stims ∧
    (flushCan s).freeIdx = s.freeIdx ∧
    (flushCan s).pending = s.pending ∧
    (flushCan s).clap.queue = s.clap.queue ∧
    (flushCan s).clap.held = s.clap.held ∧
    (flushCan s).clap.restarting = s.clap.restarting ∧
    (flushCan s).clap.long = s.clap.long ∧
    (flushCan s).clap.retained = s.clap.retained ∧
    (flushCan s).clap.ledgerSeq = s.clap.ledgerSeq ∧
    (flushCan s).clap.seqU = s.clap.seqU ∧
    (flushCan s).clap.log = s.clap.log ∧
    (flushCan s).clap.logSeq = s.clap.logSeq ∧
    (flushCan s).clap.logPend = s.clap.logPend ∧
    (flushCan s).clap.rates = s.clap.rates ∧
    (flushCan s).clap.ledger = s.clap.ledger ∧
    (flushCan s).cv.scan = s.cv.scan ∧
    (flushCan s).cv.last = s.cv.last ∧
    (flushCan s).link.ls = s.link.ls := by
  rcases flushCan_cases s with h | ⟨q, l, es, h⟩
  · simp [h]
  · rw [h]
    refine ⟨(foldl_keeps (fun x : State × Bool => x.1.sys) _ (by simp) _ _).trans (by simp), (foldl_keeps (fun x : State × Bool => x.1.flt) _ (by simp) _ _).trans (by simp), (foldl_keeps (fun x : State × Bool => x.1.nvm) _ (by simp) _ _).trans (by simp), (foldl_keeps (fun x : State × Bool => x.1.tab) _ (by simp) _ _).trans (by simp), (foldl_keeps (fun x : State × Bool => x.1.store) _ (by simp) _ _).trans (by simp), (foldl_keeps (fun x : State × Bool => x.1.carl) _ (by simp) _ _).trans (by simp), (foldl_keeps (fun x : State × Bool => x.1.pix) _ (by simp) _ _).trans (by simp), (foldl_keeps (fun x : State × Bool => x.1.mal) _ (by simp) _ _).trans (by simp), (foldl_keeps (fun x : State × Bool => x.1.sense) _ (by simp) _ _).trans (by simp), (foldl_keeps (fun x : State × Bool => x.1.hk) _ (by simp) _ _).trans (by simp), (foldl_keeps (fun x : State × Bool => x.1.pwr) _ (by simp) _ _).trans (by simp), (foldl_keeps (fun x : State × Bool => x.1.safe) _ (by simp) _ _).trans (by simp), (foldl_keeps (fun x : State × Bool => x.1.sec) _ (by simp) _ _).trans (by simp), (foldl_keeps (fun x : State × Bool => x.1.spi) _ (by simp) _ _).trans (by simp), (foldl_keeps (fun x : State × Bool => x.1.regs) _ (by simp) _ _).trans (by simp), (foldl_keeps (fun x : State × Bool => x.1.latches) _ (by simp) _ _).trans (by simp), (foldl_keeps (fun x : State × Bool => x.1.stims) _ (by simp) _ _).trans (by simp), (foldl_keeps (fun x : State × Bool => x.1.freeIdx) _ (by simp) _ _).trans (by simp), (foldl_keeps (fun x : State × Bool => x.1.pending) _ (by simp) _ _).trans (by simp), (foldl_keeps (fun x : State × Bool => x.1.clap.queue) _ (by simp) _ _).trans (by simp), (foldl_keeps (fun x : State × Bool => x.1.clap.held) _ (by simp) _ _).trans (by simp), (foldl_keeps (fun x : State × Bool => x.1.clap.restarting) _ (by simp) _ _).trans (by simp), (foldl_keeps (fun x : State × Bool => x.1.clap.long) _ (by simp) _ _).trans (by simp), (foldl_keeps (fun x : State × Bool => x.1.clap.retained) _ (by simp) _ _).trans (by simp), (foldl_keeps (fun x : State × Bool => x.1.clap.ledgerSeq) _ (by simp) _ _).trans (by simp), (foldl_keeps (fun x : State × Bool => x.1.clap.seqU) _ (by simp) _ _).trans (by simp), (foldl_keeps (fun x : State × Bool => x.1.clap.log) _ (by simp) _ _).trans (by simp), (foldl_keeps (fun x : State × Bool => x.1.clap.logSeq) _ (by simp) _ _).trans (by simp), (foldl_keeps (fun x : State × Bool => x.1.clap.logPend) _ (by simp) _ _).trans (by simp), (foldl_keeps (fun x : State × Bool => x.1.clap.rates) _ (by simp) _ _).trans (by simp), (foldl_keeps (fun x : State × Bool => x.1.clap.ledger) _ (by simp) _ _).trans (by simp), (foldl_keeps (fun x : State × Bool => x.1.cv.scan) _ (by simp) _ _).trans (by simp), (foldl_keeps (fun x : State × Bool => x.1.cv.last) _ (by simp) _ _).trans (by simp), (foldl_keeps (fun x : State × Bool => x.1.link.ls) _ (by simp) _ _).trans (by simp)⟩

@[simp] theorem flush_frame (s : State) :
    (flush s).sys = s.sys ∧
    (flush s).flt = s.flt ∧
    (flush s).nvm = s.nvm ∧
    (flush s).tab = s.tab ∧
    (flush s).store = s.store ∧
    (flush s).carl = s.carl ∧
    (flush s).pix = s.pix ∧
    (flush s).mal = s.mal ∧
    (flush s).sense = s.sense ∧
    (flush s).hk = s.hk ∧
    (flush s).pwr = s.pwr ∧
    (flush s).safe = s.safe ∧
    (flush s).sec = s.sec ∧
    (flush s).spi = s.spi ∧
    (flush s).regs = s.regs ∧
    (flush s).latches = s.latches ∧
    (flush s).stims = s.stims ∧
    (flush s).freeIdx = s.freeIdx ∧
    (flush s).pending = s.pending ∧
    (flush s).clap.queue = s.clap.queue ∧
    (flush s).clap.held = s.clap.held ∧
    (flush s).clap.restarting = s.clap.restarting ∧
    (flush s).clap.long = s.clap.long ∧
    (flush s).clap.retained = s.clap.retained ∧
    (flush s).clap.ledgerSeq = s.clap.ledgerSeq ∧
    (flush s).clap.seqU = s.clap.seqU ∧
    (flush s).clap.log = s.clap.log ∧
    (flush s).clap.logSeq = s.clap.logSeq ∧
    (flush s).clap.logPend = s.clap.logPend ∧
    (flush s).clap.rates = s.clap.rates ∧
    (flush s).clap.ledger = s.clap.ledger ∧
    (flush s).cv.scan = s.cv.scan ∧
    (flush s).cv.last = s.cv.last ∧
    (flush s).link.ls = s.link.ls := by
  simp [flush]

@[simp] theorem touchMram_frame (a n : Nat) (s : State) :
    (touchMram a n s).sys = s.sys ∧
    (touchMram a n s).flt = s.flt ∧
    (touchMram a n s).clap = s.clap ∧
    (touchMram a n s).nvm = s.nvm ∧
    (touchMram a n s).link = s.link ∧
    (touchMram a n s).can = s.can ∧
    (touchMram a n s).tab = s.tab ∧
    (touchMram a n s).store = s.store ∧
    (touchMram a n s).carl = s.carl ∧
    (touchMram a n s).pix = s.pix ∧
    (touchMram a n s).mal = s.mal ∧
    (touchMram a n s).sense = s.sense ∧
    (touchMram a n s).hk = s.hk ∧
    (touchMram a n s).pwr = s.pwr ∧
    (touchMram a n s).safe = s.safe ∧
    (touchMram a n s).sec = s.sec ∧
    (touchMram a n s).spi = s.spi ∧
    (touchMram a n s).regs = s.regs ∧
    (touchMram a n s).latches = s.latches ∧
    (touchMram a n s).stims = s.stims ∧
    (touchMram a n s).freeIdx = s.freeIdx ∧
    (touchMram a n s).pending = s.pending := by
  unfold touchMram; repeat' split
  all_goals simp

@[simp] theorem touchLedger_frame (s : State) :
    (touchLedger s).sys = s.sys ∧
    (touchLedger s).flt = s.flt ∧
    (touchLedger s).clap = s.clap ∧
    (touchLedger s).nvm = s.nvm ∧
    (touchLedger s).link = s.link ∧
    (touchLedger s).can = s.can ∧
    (touchLedger s).tab = s.tab ∧
    (touchLedger s).store = s.store ∧
    (touchLedger s).carl = s.carl ∧
    (touchLedger s).pix = s.pix ∧
    (touchLedger s).mal = s.mal ∧
    (touchLedger s).sense = s.sense ∧
    (touchLedger s).hk = s.hk ∧
    (touchLedger s).pwr = s.pwr ∧
    (touchLedger s).safe = s.safe ∧
    (touchLedger s).sec = s.sec ∧
    (touchLedger s).spi = s.spi ∧
    (touchLedger s).regs = s.regs ∧
    (touchLedger s).latches = s.latches ∧
    (touchLedger s).stims = s.stims ∧
    (touchLedger s).freeIdx = s.freeIdx ∧
    (touchLedger s).pending = s.pending := by
  simp [touchLedger]

@[simp] theorem modEntry_frame (l : Word) (f : LedgerEntry → LedgerEntry) (s : State) :
    (modEntry l f s).sys = s.sys ∧
    (modEntry l f s).flt = s.flt ∧
    (modEntry l f s).nvm = s.nvm ∧
    (modEntry l f s).link = s.link ∧
    (modEntry l f s).can = s.can ∧
    (modEntry l f s).tab = s.tab ∧
    (modEntry l f s).store = s.store ∧
    (modEntry l f s).carl = s.carl ∧
    (modEntry l f s).pix = s.pix ∧
    (modEntry l f s).mal = s.mal ∧
    (modEntry l f s).sense = s.sense ∧
    (modEntry l f s).hk = s.hk ∧
    (modEntry l f s).pwr = s.pwr ∧
    (modEntry l f s).safe = s.safe ∧
    (modEntry l f s).sec = s.sec ∧
    (modEntry l f s).spi = s.spi ∧
    (modEntry l f s).regs = s.regs ∧
    (modEntry l f s).latches = s.latches ∧
    (modEntry l f s).stims = s.stims ∧
    (modEntry l f s).freeIdx = s.freeIdx ∧
    (modEntry l f s).pending = s.pending ∧
    (modEntry l f s).clap.queue = s.clap.queue ∧
    (modEntry l f s).clap.held = s.clap.held ∧
    (modEntry l f s).clap.restarting = s.clap.restarting ∧
    (modEntry l f s).clap.long = s.clap.long ∧
    (modEntry l f s).clap.retained = s.clap.retained ∧
    (modEntry l f s).clap.ledgerSeq = s.clap.ledgerSeq ∧
    (modEntry l f s).clap.seqU = s.clap.seqU ∧
    (modEntry l f s).clap.log = s.clap.log ∧
    (modEntry l f s).clap.logSeq = s.clap.logSeq ∧
    (modEntry l f s).clap.logPend = s.clap.logPend ∧
    (modEntry l f s).clap.rates = s.clap.rates ∧
    (modEntry l f s).clap.evtQ = s.clap.evtQ := by
  simp [modEntry]

@[simp] theorem markDelivered_frame (tag : TxTag) (s : State) :
    (markDelivered tag s).sys = s.sys ∧
    (markDelivered tag s).flt = s.flt ∧
    (markDelivered tag s).nvm = s.nvm ∧
    (markDelivered tag s).link = s.link ∧
    (markDelivered tag s).can = s.can ∧
    (markDelivered tag s).tab = s.tab ∧
    (markDelivered tag s).store = s.store ∧
    (markDelivered tag s).carl = s.carl ∧
    (markDelivered tag s).pix = s.pix ∧
    (markDelivered tag s).mal = s.mal ∧
    (markDelivered tag s).sense = s.sense ∧
    (markDelivered tag s).hk = s.hk ∧
    (markDelivered tag s).pwr = s.pwr ∧
    (markDelivered tag s).safe = s.safe ∧
    (markDelivered tag s).sec = s.sec ∧
    (markDelivered tag s).spi = s.spi ∧
    (markDelivered tag s).regs = s.regs ∧
    (markDelivered tag s).latches = s.latches ∧
    (markDelivered tag s).stims = s.stims ∧
    (markDelivered tag s).freeIdx = s.freeIdx ∧
    (markDelivered tag s).pending = s.pending ∧
    (markDelivered tag s).clap.queue = s.clap.queue ∧
    (markDelivered tag s).clap.held = s.clap.held ∧
    (markDelivered tag s).clap.restarting = s.clap.restarting ∧
    (markDelivered tag s).clap.long = s.clap.long ∧
    (markDelivered tag s).clap.retained = s.clap.retained ∧
    (markDelivered tag s).clap.ledgerSeq = s.clap.ledgerSeq ∧
    (markDelivered tag s).clap.seqU = s.clap.seqU ∧
    (markDelivered tag s).clap.log = s.clap.log ∧
    (markDelivered tag s).clap.logSeq = s.clap.logSeq ∧
    (markDelivered tag s).clap.logPend = s.clap.logPend ∧
    (markDelivered tag s).clap.rates = s.clap.rates ∧
    (markDelivered tag s).clap.evtQ = s.clap.evtQ := by
  unfold markDelivered; split <;> simp

@[simp] theorem cvAppend2_frame (s : State) :
    (cvAppend2 s).sys = s.sys ∧
    (cvAppend2 s).flt = s.flt ∧
    (cvAppend2 s).clap = s.clap ∧
    (cvAppend2 s).nvm = s.nvm ∧
    (cvAppend2 s).link = s.link ∧
    (cvAppend2 s).can = s.can ∧
    (cvAppend2 s).tab = s.tab ∧
    (cvAppend2 s).store = s.store ∧
    (cvAppend2 s).carl = s.carl ∧
    (cvAppend2 s).pix = s.pix ∧
    (cvAppend2 s).mal = s.mal ∧
    (cvAppend2 s).sense = s.sense ∧
    (cvAppend2 s).hk = s.hk ∧
    (cvAppend2 s).pwr = s.pwr ∧
    (cvAppend2 s).safe = s.safe ∧
    (cvAppend2 s).sec = s.sec ∧
    (cvAppend2 s).spi = s.spi ∧
    (cvAppend2 s).regs = s.regs ∧
    (cvAppend2 s).latches = s.latches ∧
    (cvAppend2 s).stims = s.stims ∧
    (cvAppend2 s).freeIdx = s.freeIdx ∧
    (cvAppend2 s).pending = s.pending ∧
    (cvAppend2 s).cv.scan = s.cv.scan ∧
    (cvAppend2 s).cv.last = s.cv.last := by
  simp [cvAppend2]

@[simp] theorem putReply_frame (path : Path) (bs : Bytes) (tag : TxTag) (s : State) :
    (putReply path bs tag s).sys = s.sys ∧
    (putReply path bs tag s).flt = s.flt ∧
    (putReply path bs tag s).nvm = s.nvm ∧
    (putReply path bs tag s).tab = s.tab ∧
    (putReply path bs tag s).store = s.store ∧
    (putReply path bs tag s).carl = s.carl ∧
    (putReply path bs tag s).pix = s.pix ∧
    (putReply path bs tag s).mal = s.mal ∧
    (putReply path bs tag s).sense = s.sense ∧
    (putReply path bs tag s).hk = s.hk ∧
    (putReply path bs tag s).pwr = s.pwr ∧
    (putReply path bs tag s).safe = s.safe ∧
    (putReply path bs tag s).sec = s.sec ∧
    (putReply path bs tag s).regs = s.regs ∧
    (putReply path bs tag s).latches = s.latches ∧
    (putReply path bs tag s).stims = s.stims ∧
    (putReply path bs tag s).freeIdx = s.freeIdx ∧
    (putReply path bs tag s).pending = s.pending ∧
    (putReply path bs tag s).clap.queue = s.clap.queue ∧
    (putReply path bs tag s).clap.held = s.clap.held ∧
    (putReply path bs tag s).clap.restarting = s.clap.restarting ∧
    (putReply path bs tag s).clap.long = s.clap.long ∧
    (putReply path bs tag s).clap.retained = s.clap.retained ∧
    (putReply path bs tag s).clap.ledgerSeq = s.clap.ledgerSeq ∧
    (putReply path bs tag s).clap.seqU = s.clap.seqU ∧
    (putReply path bs tag s).clap.log = s.clap.log ∧
    (putReply path bs tag s).clap.logSeq = s.clap.logSeq ∧
    (putReply path bs tag s).clap.logPend = s.clap.logPend ∧
    (putReply path bs tag s).clap.rates = s.clap.rates ∧
    (putReply path bs tag s).clap.ledger = s.clap.ledger ∧
    (putReply path bs tag s).cv.scan = s.cv.scan ∧
    (putReply path bs tag s).cv.last = s.cv.last ∧
    (putReply path bs tag s).link.ls = s.link.ls := by
  unfold putReply; split <;> simp

@[simp] theorem sendReply_frame (p : CmdPkt) (path : Path) (st : Nat) (d : BitVec 16) (data : Bytes) (r : Bool) (tag : TxTag) (s : State) :
    (sendReply p path st d data r tag s).sys = s.sys ∧
    (sendReply p path st d data r tag s).flt = s.flt ∧
    (sendReply p path st d data r tag s).nvm = s.nvm ∧
    (sendReply p path st d data r tag s).tab = s.tab ∧
    (sendReply p path st d data r tag s).store = s.store ∧
    (sendReply p path st d data r tag s).carl = s.carl ∧
    (sendReply p path st d data r tag s).pix = s.pix ∧
    (sendReply p path st d data r tag s).mal = s.mal ∧
    (sendReply p path st d data r tag s).sense = s.sense ∧
    (sendReply p path st d data r tag s).hk = s.hk ∧
    (sendReply p path st d data r tag s).pwr = s.pwr ∧
    (sendReply p path st d data r tag s).safe = s.safe ∧
    (sendReply p path st d data r tag s).sec = s.sec ∧
    (sendReply p path st d data r tag s).regs = s.regs ∧
    (sendReply p path st d data r tag s).latches = s.latches ∧
    (sendReply p path st d data r tag s).stims = s.stims ∧
    (sendReply p path st d data r tag s).freeIdx = s.freeIdx ∧
    (sendReply p path st d data r tag s).pending = s.pending ∧
    (sendReply p path st d data r tag s).clap.queue = s.clap.queue ∧
    (sendReply p path st d data r tag s).clap.held = s.clap.held ∧
    (sendReply p path st d data r tag s).clap.restarting = s.clap.restarting ∧
    (sendReply p path st d data r tag s).clap.long = s.clap.long ∧
    (sendReply p path st d data r tag s).clap.retained = s.clap.retained ∧
    (sendReply p path st d data r tag s).clap.ledgerSeq = s.clap.ledgerSeq ∧
    (sendReply p path st d data r tag s).clap.seqU = s.clap.seqU ∧
    (sendReply p path st d data r tag s).clap.log = s.clap.log ∧
    (sendReply p path st d data r tag s).clap.logSeq = s.clap.logSeq ∧
    (sendReply p path st d data r tag s).clap.logPend = s.clap.logPend ∧
    (sendReply p path st d data r tag s).clap.rates = s.clap.rates ∧
    (sendReply p path st d data r tag s).link.ls = s.link.ls := by
  unfold sendReply; split <;> simp

@[simp] theorem finish0_frame (c : Ctx) (r : Res) (s : State) :
    (finish0 c r s).sys = s.sys ∧
    (finish0 c r s).flt = s.flt ∧
    (finish0 c r s).nvm = s.nvm ∧
    (finish0 c r s).tab = s.tab ∧
    (finish0 c r s).store = s.store ∧
    (finish0 c r s).carl = s.carl ∧
    (finish0 c r s).pix = s.pix ∧
    (finish0 c r s).mal = s.mal ∧
    (finish0 c r s).sense = s.sense ∧
    (finish0 c r s).hk = s.hk ∧
    (finish0 c r s).pwr = s.pwr ∧
    (finish0 c r s).safe = s.safe ∧
    (finish0 c r s).sec = s.sec ∧
    (finish0 c r s).regs = s.regs ∧
    (finish0 c r s).latches = s.latches ∧
    (finish0 c r s).stims = s.stims ∧
    (finish0 c r s).freeIdx = s.freeIdx ∧
    (finish0 c r s).pending = s.pending ∧
    (finish0 c r s).clap.queue = s.clap.queue ∧
    (finish0 c r s).clap.held = s.clap.held ∧
    (finish0 c r s).clap.restarting = s.clap.restarting ∧
    (finish0 c r s).clap.long = s.clap.long ∧
    (finish0 c r s).clap.retained = s.clap.retained ∧
    (finish0 c r s).clap.ledgerSeq = s.clap.ledgerSeq ∧
    (finish0 c r s).clap.seqU = s.clap.seqU ∧
    (finish0 c r s).clap.log = s.clap.log ∧
    (finish0 c r s).clap.logSeq = s.clap.logSeq ∧
    (finish0 c r s).clap.logPend = s.clap.logPend ∧
    (finish0 c r s).clap.rates = s.clap.rates ∧
    (finish0 c r s).link.ls = s.link.ls := by
  unfold finish0; dsimp only; cases c.ledger <;> simp

@[simp] theorem onFlts_frame (b : Nat) (f : FltBlock → FltBlock) (s : State) :
    (onFlts b f s).sys = s.sys ∧
    (onFlts b f s).clap = s.clap ∧
    (onFlts b f s).nvm = s.nvm ∧
    (onFlts b f s).link = s.link ∧
    (onFlts b f s).can = s.can ∧
    (onFlts b f s).tab = s.tab ∧
    (onFlts b f s).store = s.store ∧
    (onFlts b f s).carl = s.carl ∧
    (onFlts b f s).pix = s.pix ∧
    (onFlts b f s).mal = s.mal ∧
    (onFlts b f s).sense = s.sense ∧
    (onFlts b f s).hk = s.hk ∧
    (onFlts b f s).pwr = s.pwr ∧
    (onFlts b f s).safe = s.safe ∧
    (onFlts b f s).cv = s.cv ∧
    (onFlts b f s).sec = s.sec ∧
    (onFlts b f s).spi = s.spi ∧
    (onFlts b f s).regs = s.regs ∧
    (onFlts b f s).latches = s.latches ∧
    (onFlts b f s).stims = s.stims ∧
    (onFlts b f s).freeIdx = s.freeIdx ∧
    (onFlts b f s).pending = s.pending := by
  simp [onFlts]

@[simp] theorem recordBase_frame (b src : Nat) (x : FltArg) (s : State) :
    ((recordBase b src x s).1).sys = s.sys ∧
    ((recordBase b src x s).1).clap = s.clap ∧
    ((recordBase b src x s).1).nvm = s.nvm ∧
    ((recordBase b src x s).1).link = s.link ∧
    ((recordBase b src x s).1).can = s.can ∧
    ((recordBase b src x s).1).tab = s.tab ∧
    ((recordBase b src x s).1).store = s.store ∧
    ((recordBase b src x s).1).carl = s.carl ∧
    ((recordBase b src x s).1).pix = s.pix ∧
    ((recordBase b src x s).1).mal = s.mal ∧
    ((recordBase b src x s).1).sense = s.sense ∧
    ((recordBase b src x s).1).hk = s.hk ∧
    ((recordBase b src x s).1).pwr = s.pwr ∧
    ((recordBase b src x s).1).safe = s.safe ∧
    ((recordBase b src x s).1).cv = s.cv ∧
    ((recordBase b src x s).1).sec = s.sec ∧
    ((recordBase b src x s).1).spi = s.spi ∧
    ((recordBase b src x s).1).regs = s.regs ∧
    ((recordBase b src x s).1).latches = s.latches ∧
    ((recordBase b src x s).1).stims = s.stims ∧
    ((recordBase b src x s).1).freeIdx = s.freeIdx ∧
    ((recordBase b src x s).1).pending = s.pending := by
  simp [recordBase]

@[simp] theorem postRec_frame (front : Bool) (blk sev code : Nat) (data : Bytes) (s : State) :
    ((postRec front blk sev code data s).1).sys = s.sys ∧
    ((postRec front blk sev code data s).1).nvm = s.nvm ∧
    ((postRec front blk sev code data s).1).tab = s.tab ∧
    ((postRec front blk sev code data s).1).store = s.store ∧
    ((postRec front blk sev code data s).1).carl = s.carl ∧
    ((postRec front blk sev code data s).1).pix = s.pix ∧
    ((postRec front blk sev code data s).1).mal = s.mal ∧
    ((postRec front blk sev code data s).1).sense = s.sense ∧
    ((postRec front blk sev code data s).1).hk = s.hk ∧
    ((postRec front blk sev code data s).1).pwr = s.pwr ∧
    ((postRec front blk sev code data s).1).safe = s.safe ∧
    ((postRec front blk sev code data s).1).sec = s.sec ∧
    ((postRec front blk sev code data s).1).spi = s.spi ∧
    ((postRec front blk sev code data s).1).regs = s.regs ∧
    ((postRec front blk sev code data s).1).latches = s.latches ∧
    ((postRec front blk sev code data s).1).stims = s.stims ∧
    ((postRec front blk sev code data s).1).freeIdx = s.freeIdx ∧
    ((postRec front blk sev code data s).1).pending = s.pending ∧
    ((postRec front blk sev code data s).1).clap.queue = s.clap.queue ∧
    ((postRec front blk sev code data s).1).clap.held = s.clap.held ∧
    ((postRec front blk sev code data s).1).clap.restarting = s.clap.restarting ∧
    ((postRec front blk sev code data s).1).clap.long = s.clap.long ∧
    ((postRec front blk sev code data s).1).clap.retained = s.clap.retained ∧
    ((postRec front blk sev code data s).1).clap.ledgerSeq = s.clap.ledgerSeq ∧
    ((postRec front blk sev code data s).1).clap.seqU = s.clap.seqU ∧
    ((postRec front blk sev code data s).1).clap.log = s.clap.log ∧
    ((postRec front blk sev code data s).1).clap.logSeq = s.clap.logSeq ∧
    ((postRec front blk sev code data s).1).clap.logPend = s.clap.logPend ∧
    ((postRec front blk sev code data s).1).clap.rates = s.clap.rates ∧
    ((postRec front blk sev code data s).1).clap.ledger = s.clap.ledger ∧
    ((postRec front blk sev code data s).1).link.ls = s.link.ls ∧
    ((postRec front blk sev code data s).1).cv.scan = s.cv.scan ∧
    ((postRec front blk sev code data s).1).cv.last = s.cv.last := by
  unfold postRec; dsimp only; (repeat' split) <;> simp

@[simp] theorem postEvent0_frame (blk sev code : Nat) (data : Bytes) (s : State) :
    ((postEvent0 blk sev code data s).1).sys = s.sys ∧
    ((postEvent0 blk sev code data s).1).nvm = s.nvm ∧
    ((postEvent0 blk sev code data s).1).tab = s.tab ∧
    ((postEvent0 blk sev code data s).1).store = s.store ∧
    ((postEvent0 blk sev code data s).1).carl = s.carl ∧
    ((postEvent0 blk sev code data s).1).pix = s.pix ∧
    ((postEvent0 blk sev code data s).1).mal = s.mal ∧
    ((postEvent0 blk sev code data s).1).sense = s.sense ∧
    ((postEvent0 blk sev code data s).1).hk = s.hk ∧
    ((postEvent0 blk sev code data s).1).pwr = s.pwr ∧
    ((postEvent0 blk sev code data s).1).safe = s.safe ∧
    ((postEvent0 blk sev code data s).1).sec = s.sec ∧
    ((postEvent0 blk sev code data s).1).spi = s.spi ∧
    ((postEvent0 blk sev code data s).1).regs = s.regs ∧
    ((postEvent0 blk sev code data s).1).latches = s.latches ∧
    ((postEvent0 blk sev code data s).1).stims = s.stims ∧
    ((postEvent0 blk sev code data s).1).freeIdx = s.freeIdx ∧
    ((postEvent0 blk sev code data s).1).pending = s.pending ∧
    ((postEvent0 blk sev code data s).1).clap.queue = s.clap.queue ∧
    ((postEvent0 blk sev code data s).1).clap.held = s.clap.held ∧
    ((postEvent0 blk sev code data s).1).clap.restarting = s.clap.restarting ∧
    ((postEvent0 blk sev code data s).1).clap.long = s.clap.long ∧
    ((postEvent0 blk sev code data s).1).clap.retained = s.clap.retained ∧
    ((postEvent0 blk sev code data s).1).clap.ledgerSeq = s.clap.ledgerSeq ∧
    ((postEvent0 blk sev code data s).1).clap.seqU = s.clap.seqU ∧
    ((postEvent0 blk sev code data s).1).clap.log = s.clap.log ∧
    ((postEvent0 blk sev code data s).1).clap.logSeq = s.clap.logSeq ∧
    ((postEvent0 blk sev code data s).1).clap.logPend = s.clap.logPend ∧
    ((postEvent0 blk sev code data s).1).clap.rates = s.clap.rates ∧
    ((postEvent0 blk sev code data s).1).clap.ledger = s.clap.ledger ∧
    ((postEvent0 blk sev code data s).1).link.ls = s.link.ls ∧
    ((postEvent0 blk sev code data s).1).cv.scan = s.cv.scan ∧
    ((postEvent0 blk sev code data s).1).cv.last = s.cv.last := by
  simp [postEvent0]

@[simp] theorem dropLong_frame (c : LongCmd) (s : State) :
    (dropLong c s).sys = s.sys ∧
    (dropLong c s).flt = s.flt ∧
    (dropLong c s).nvm = s.nvm ∧
    (dropLong c s).link = s.link ∧
    (dropLong c s).can = s.can ∧
    (dropLong c s).tab = s.tab ∧
    (dropLong c s).store = s.store ∧
    (dropLong c s).carl = s.carl ∧
    (dropLong c s).pix = s.pix ∧
    (dropLong c s).mal = s.mal ∧
    (dropLong c s).sense = s.sense ∧
    (dropLong c s).hk = s.hk ∧
    (dropLong c s).pwr = s.pwr ∧
    (dropLong c s).safe = s.safe ∧
    (dropLong c s).cv = s.cv ∧
    (dropLong c s).sec = s.sec ∧
    (dropLong c s).spi = s.spi ∧
    (dropLong c s).regs = s.regs ∧
    (dropLong c s).latches = s.latches ∧
    (dropLong c s).stims = s.stims ∧
    (dropLong c s).freeIdx = s.freeIdx ∧
    (dropLong c s).pending = s.pending ∧
    (dropLong c s).clap.queue = s.clap.queue ∧
    (dropLong c s).clap.held = s.clap.held ∧
    (dropLong c s).clap.restarting = s.clap.restarting ∧
    (dropLong c s).clap.retained = s.clap.retained ∧
    (dropLong c s).clap.ledgerSeq = s.clap.ledgerSeq ∧
    (dropLong c s).clap.seqU = s.clap.seqU ∧
    (dropLong c s).clap.log = s.clap.log ∧
    (dropLong c s).clap.logSeq = s.clap.logSeq ∧
    (dropLong c s).clap.logPend = s.clap.logPend ∧
    (dropLong c s).clap.rates = s.clap.rates ∧
    (dropLong c s).clap.ledger = s.clap.ledger ∧
    (dropLong c s).clap.evtQ = s.clap.evtQ := by
  simp [dropLong]

@[simp] theorem abandonLight_frame (s : State) :
    (abandonLight s).sys = s.sys ∧
    (abandonLight s).flt = s.flt ∧
    (abandonLight s).nvm = s.nvm ∧
    (abandonLight s).tab = s.tab ∧
    (abandonLight s).store = s.store ∧
    (abandonLight s).carl = s.carl ∧
    (abandonLight s).pix = s.pix ∧
    (abandonLight s).mal = s.mal ∧
    (abandonLight s).sense = s.sense ∧
    (abandonLight s).hk = s.hk ∧
    (abandonLight s).pwr = s.pwr ∧
    (abandonLight s).safe = s.safe ∧
    (abandonLight s).sec = s.sec ∧
    (abandonLight s).regs = s.regs ∧
    (abandonLight s).latches = s.latches ∧
    (abandonLight s).stims = s.stims ∧
    (abandonLight s).freeIdx = s.freeIdx ∧
    (abandonLight s).pending = s.pending ∧
    (abandonLight s).clap.queue = s.clap.queue ∧
    (abandonLight s).clap.restarting = s.clap.restarting ∧
    (abandonLight s).clap.retained = s.clap.retained ∧
    (abandonLight s).clap.ledgerSeq = s.clap.ledgerSeq ∧
    (abandonLight s).clap.seqU = s.clap.seqU ∧
    (abandonLight s).clap.log = s.clap.log ∧
    (abandonLight s).clap.logSeq = s.clap.logSeq ∧
    (abandonLight s).clap.logPend = s.clap.logPend ∧
    (abandonLight s).clap.rates = s.clap.rates ∧
    (abandonLight s).link.ls = s.link.ls := by
  unfold abandonLight; dsimp only
  refine ⟨(foldl_keeps (fun x : State => x.sys) _ (by simp) _ _).trans (by simp), (foldl_keeps (fun x : State => x.flt) _ (by simp) _ _).trans (by simp), (foldl_keeps (fun x : State => x.nvm) _ (by simp) _ _).trans (by simp), (foldl_keeps (fun x : State => x.tab) _ (by simp) _ _).trans (by simp), (foldl_keeps (fun x : State => x.store) _ (by simp) _ _).trans (by simp), (foldl_keeps (fun x : State => x.carl) _ (by simp) _ _).trans (by simp), (foldl_keeps (fun x : State => x.pix) _ (by simp) _ _).trans (by simp), (foldl_keeps (fun x : State => x.mal) _ (by simp) _ _).trans (by simp), (foldl_keeps (fun x : State => x.sense) _ (by simp) _ _).trans (by simp), (foldl_keeps (fun x : State => x.hk) _ (by simp) _ _).trans (by simp), (foldl_keeps (fun x : State => x.pwr) _ (by simp) _ _).trans (by simp), (foldl_keeps (fun x : State => x.safe) _ (by simp) _ _).trans (by simp), (foldl_keeps (fun x : State => x.sec) _ (by simp) _ _).trans (by simp), (foldl_keeps (fun x : State => x.regs) _ (by simp) _ _).trans (by simp), (foldl_keeps (fun x : State => x.latches) _ (by simp) _ _).trans (by simp), (foldl_keeps (fun x : State => x.stims) _ (by simp) _ _).trans (by simp), (foldl_keeps (fun x : State => x.freeIdx) _ (by simp) _ _).trans (by simp), (foldl_keeps (fun x : State => x.pending) _ (by simp) _ _).trans (by simp), (foldl_keeps (fun x : State => x.clap.queue) _ (by simp) _ _).trans (by simp), (foldl_keeps (fun x : State => x.clap.restarting) _ (by simp) _ _).trans (by simp), (foldl_keeps (fun x : State => x.clap.retained) _ (by simp) _ _).trans (by simp), (foldl_keeps (fun x : State => x.clap.ledgerSeq) _ (by simp) _ _).trans (by simp), (foldl_keeps (fun x : State => x.clap.seqU) _ (by simp) _ _).trans (by simp), (foldl_keeps (fun x : State => x.clap.log) _ (by simp) _ _).trans (by simp), (foldl_keeps (fun x : State => x.clap.logSeq) _ (by simp) _ _).trans (by simp), (foldl_keeps (fun x : State => x.clap.logPend) _ (by simp) _ _).trans (by simp), (foldl_keeps (fun x : State => x.clap.rates) _ (by simp) _ _).trans (by simp), (foldl_keeps (fun x : State => x.link.ls) _ (by simp) _ _).trans (by simp)⟩

@[simp] theorem syncOwner_frame (s : State) :
    (syncOwner s).sys = s.sys ∧
    (syncOwner s).flt = s.flt ∧
    (syncOwner s).clap = s.clap ∧
    (syncOwner s).nvm = s.nvm ∧
    (syncOwner s).link = s.link ∧
    (syncOwner s).can = s.can ∧
    (syncOwner s).tab = s.tab ∧
    (syncOwner s).store = s.store ∧
    (syncOwner s).carl = s.carl ∧
    (syncOwner s).pix = s.pix ∧
    (syncOwner s).mal = s.mal ∧
    (syncOwner s).sense = s.sense ∧
    (syncOwner s).hk = s.hk ∧
    (syncOwner s).safe = s.safe ∧
    (syncOwner s).cv = s.cv ∧
    (syncOwner s).sec = s.sec ∧
    (syncOwner s).spi = s.spi ∧
    (syncOwner s).regs = s.regs ∧
    (syncOwner s).latches = s.latches ∧
    (syncOwner s).stims = s.stims ∧
    (syncOwner s).freeIdx = s.freeIdx ∧
    (syncOwner s).pending = s.pending := by
  unfold syncOwner; (repeat' split) <;> simp

@[simp] theorem degTimer_frame (o n : DevState) (s : State) :
    (degTimer o n s).sys = s.sys ∧
    (degTimer o n s).flt = s.flt ∧
    (degTimer o n s).clap = s.clap ∧
    (degTimer o n s).nvm = s.nvm ∧
    (degTimer o n s).link = s.link ∧
    (degTimer o n s).can = s.can ∧
    (degTimer o n s).tab = s.tab ∧
    (degTimer o n s).store = s.store ∧
    (degTimer o n s).carl = s.carl ∧
    (degTimer o n s).pix = s.pix ∧
    (degTimer o n s).mal = s.mal ∧
    (degTimer o n s).sense = s.sense ∧
    (degTimer o n s).hk = s.hk ∧
    (degTimer o n s).pwr = s.pwr ∧
    (degTimer o n s).cv = s.cv ∧
    (degTimer o n s).sec = s.sec ∧
    (degTimer o n s).spi = s.spi ∧
    (degTimer o n s).regs = s.regs ∧
    (degTimer o n s).latches = s.latches ∧
    (degTimer o n s).stims = s.stims ∧
    (degTimer o n s).freeIdx = s.freeIdx ∧
    (degTimer o n s).pending = s.pending := by
  unfold degTimer; (repeat' split) <;> simp

@[simp] theorem enterState_frame (n : DevState) (s : State) :
    (enterState n s).nvm = s.nvm ∧
    (enterState n s).tab = s.tab ∧
    (enterState n s).store = s.store ∧
    (enterState n s).carl = s.carl ∧
    (enterState n s).pix = s.pix ∧
    (enterState n s).mal = s.mal ∧
    (enterState n s).hk = s.hk ∧
    (enterState n s).sec = s.sec ∧
    (enterState n s).spi = s.spi ∧
    (enterState n s).regs = s.regs ∧
    (enterState n s).latches = s.latches ∧
    (enterState n s).stims = s.stims ∧
    (enterState n s).freeIdx = s.freeIdx ∧
    (enterState n s).pending = s.pending ∧
    (enterState n s).clap.queue = s.clap.queue ∧
    (enterState n s).clap.held = s.clap.held ∧
    (enterState n s).clap.restarting = s.clap.restarting ∧
    (enterState n s).clap.long = s.clap.long ∧
    (enterState n s).clap.retained = s.clap.retained ∧
    (enterState n s).clap.ledgerSeq = s.clap.ledgerSeq ∧
    (enterState n s).clap.seqU = s.clap.seqU ∧
    (enterState n s).clap.log = s.clap.log ∧
    (enterState n s).clap.logSeq = s.clap.logSeq ∧
    (enterState n s).clap.logPend = s.clap.logPend ∧
    (enterState n s).clap.rates = s.clap.rates ∧
    (enterState n s).clap.ledger = s.clap.ledger ∧
    (enterState n s).link.ls = s.link.ls ∧
    (enterState n s).sys.coldDue = s.sys.coldDue ∧
    (enterState n s).sys.gongCause = s.sys.gongCause ∧
    (enterState n s).cv.scan = s.cv.scan ∧
    (enterState n s).cv.last = s.cv.last := by
  unfold enterState; dsimp only; (repeat' split) <;> simp

@[simp] theorem gongLight_frame (cause : Nat) (s : State) :
    (gongLight cause s).flt = s.flt ∧
    (gongLight cause s).nvm = s.nvm ∧
    (gongLight cause s).tab = s.tab ∧
    (gongLight cause s).store = s.store ∧
    (gongLight cause s).sense = s.sense ∧
    (gongLight cause s).hk = s.hk ∧
    (gongLight cause s).pwr = s.pwr ∧
    (gongLight cause s).safe = s.safe ∧
    (gongLight cause s).sec = s.sec ∧
    (gongLight cause s).regs = s.regs ∧
    (gongLight cause s).latches = s.latches ∧
    (gongLight cause s).stims = s.stims ∧
    (gongLight cause s).freeIdx = s.freeIdx ∧
    (gongLight cause s).pending = s.pending ∧
    (gongLight cause s).clap.queue = s.clap.queue ∧
    (gongLight cause s).clap.restarting = s.clap.restarting ∧
    (gongLight cause s).clap.retained = s.clap.retained ∧
    (gongLight cause s).clap.ledgerSeq = s.clap.ledgerSeq ∧
    (gongLight cause s).clap.seqU = s.clap.seqU ∧
    (gongLight cause s).clap.log = s.clap.log ∧
    (gongLight cause s).clap.logSeq = s.clap.logSeq ∧
    (gongLight cause s).clap.logPend = s.clap.logPend ∧
    (gongLight cause s).clap.rates = s.clap.rates ∧
    (gongLight cause s).link.ls = s.link.ls ∧
    (gongLight cause s).sys.coldDue = s.sys.coldDue ∧
    (gongLight cause s).sys.st = s.sys.st := by
  simp [gongLight]

@[simp] theorem enterGong_frame (cause : Nat) (s : State) :
    (enterGong cause s).nvm = s.nvm ∧
    (enterGong cause s).tab = s.tab ∧
    (enterGong cause s).store = s.store ∧
    (enterGong cause s).hk = s.hk ∧
    (enterGong cause s).sec = s.sec ∧
    (enterGong cause s).regs = s.regs ∧
    (enterGong cause s).latches = s.latches ∧
    (enterGong cause s).stims = s.stims ∧
    (enterGong cause s).freeIdx = s.freeIdx ∧
    (enterGong cause s).pending = s.pending ∧
    (enterGong cause s).clap.queue = s.clap.queue ∧
    (enterGong cause s).clap.restarting = s.clap.restarting ∧
    (enterGong cause s).clap.retained = s.clap.retained ∧
    (enterGong cause s).clap.ledgerSeq = s.clap.ledgerSeq ∧
    (enterGong cause s).clap.seqU = s.clap.seqU ∧
    (enterGong cause s).clap.log = s.clap.log ∧
    (enterGong cause s).clap.logSeq = s.clap.logSeq ∧
    (enterGong cause s).clap.logPend = s.clap.logPend ∧
    (enterGong cause s).clap.rates = s.clap.rates ∧
    (enterGong cause s).link.ls = s.link.ls ∧
    (enterGong cause s).sys.coldDue = s.sys.coldDue := by
  unfold enterGong; (repeat' split) <;> simp

@[simp] theorem recordT_frame (b src : Nat) (x : FltArg) (s : State) :
    ((recordT b src x s).1).nvm = s.nvm ∧
    ((recordT b src x s).1).tab = s.tab ∧
    ((recordT b src x s).1).store = s.store ∧
    ((recordT b src x s).1).hk = s.hk ∧
    ((recordT b src x s).1).sec = s.sec ∧
    ((recordT b src x s).1).regs = s.regs ∧
    ((recordT b src x s).1).latches = s.latches ∧
    ((recordT b src x s).1).stims = s.stims ∧
    ((recordT b src x s).1).freeIdx = s.freeIdx ∧
    ((recordT b src x s).1).pending = s.pending ∧
    ((recordT b src x s).1).clap.queue = s.clap.queue ∧
    ((recordT b src x s).1).clap.restarting = s.clap.restarting ∧
    ((recordT b src x s).1).clap.retained = s.clap.retained ∧
    ((recordT b src x s).1).clap.ledgerSeq = s.clap.ledgerSeq ∧
    ((recordT b src x s).1).clap.seqU = s.clap.seqU ∧
    ((recordT b src x s).1).clap.log = s.clap.log ∧
    ((recordT b src x s).1).clap.logSeq = s.clap.logSeq ∧
    ((recordT b src x s).1).clap.logPend = s.clap.logPend ∧
    ((recordT b src x s).1).clap.rates = s.clap.rates ∧
    ((recordT b src x s).1).link.ls = s.link.ls ∧
    ((recordT b src x s).1).sys.coldDue = s.sys.coldDue := by
  unfold recordT; dsimp only; split <;> simp

@[simp] theorem record_frame (b src : Nat) (x : FltArg) (s : State) :
    (record b src x s).nvm = s.nvm ∧
    (record b src x s).tab = s.tab ∧
    (record b src x s).store = s.store ∧
    (record b src x s).hk = s.hk ∧
    (record b src x s).sec = s.sec ∧
    (record b src x s).regs = s.regs ∧
    (record b src x s).latches = s.latches ∧
    (record b src x s).stims = s.stims ∧
    (record b src x s).freeIdx = s.freeIdx ∧
    (record b src x s).pending = s.pending ∧
    (record b src x s).clap.queue = s.clap.queue ∧
    (record b src x s).clap.restarting = s.clap.restarting ∧
    (record b src x s).clap.retained = s.clap.retained ∧
    (record b src x s).clap.ledgerSeq = s.clap.ledgerSeq ∧
    (record b src x s).clap.seqU = s.clap.seqU ∧
    (record b src x s).clap.log = s.clap.log ∧
    (record b src x s).clap.logSeq = s.clap.logSeq ∧
    (record b src x s).clap.logPend = s.clap.logPend ∧
    (record b src x s).clap.rates = s.clap.rates ∧
    (record b src x s).link.ls = s.link.ls ∧
    (record b src x s).sys.coldDue = s.sys.coldDue := by
  simp [record]

@[simp] theorem postEvent_frame (blk sev code : Nat) (data : Bytes) (s : State) :
    (postEvent blk sev code data s).nvm = s.nvm ∧
    (postEvent blk sev code data s).tab = s.tab ∧
    (postEvent blk sev code data s).store = s.store ∧
    (postEvent blk sev code data s).hk = s.hk ∧
    (postEvent blk sev code data s).sec = s.sec ∧
    (postEvent blk sev code data s).regs = s.regs ∧
    (postEvent blk sev code data s).latches = s.latches ∧
    (postEvent blk sev code data s).stims = s.stims ∧
    (postEvent blk sev code data s).freeIdx = s.freeIdx ∧
    (postEvent blk sev code data s).pending = s.pending ∧
    (postEvent blk sev code data s).clap.queue = s.clap.queue ∧
    (postEvent blk sev code data s).clap.restarting = s.clap.restarting ∧
    (postEvent blk sev code data s).clap.retained = s.clap.retained ∧
    (postEvent blk sev code data s).clap.ledgerSeq = s.clap.ledgerSeq ∧
    (postEvent blk sev code data s).clap.seqU = s.clap.seqU ∧
    (postEvent blk sev code data s).clap.log = s.clap.log ∧
    (postEvent blk sev code data s).clap.logSeq = s.clap.logSeq ∧
    (postEvent blk sev code data s).clap.logPend = s.clap.logPend ∧
    (postEvent blk sev code data s).clap.rates = s.clap.rates ∧
    (postEvent blk sev code data s).link.ls = s.link.ls ∧
    (postEvent blk sev code data s).sys.coldDue = s.sys.coldDue := by
  unfold postEvent; dsimp only; split <;> simp

@[simp] theorem logItem_frame (kind blk src sev : Nat) (detail : Bytes) (s : State) :
    (logItem kind blk src sev detail s).sys = s.sys ∧
    (logItem kind blk src sev detail s).flt = s.flt ∧
    (logItem kind blk src sev detail s).nvm = s.nvm ∧
    (logItem kind blk src sev detail s).link = s.link ∧
    (logItem kind blk src sev detail s).can = s.can ∧
    (logItem kind blk src sev detail s).tab = s.tab ∧
    (logItem kind blk src sev detail s).store = s.store ∧
    (logItem kind blk src sev detail s).carl = s.carl ∧
    (logItem kind blk src sev detail s).pix = s.pix ∧
    (logItem kind blk src sev detail s).mal = s.mal ∧
    (logItem kind blk src sev detail s).sense = s.sense ∧
    (logItem kind blk src sev detail s).hk = s.hk ∧
    (logItem kind blk src sev detail s).pwr = s.pwr ∧
    (logItem kind blk src sev detail s).safe = s.safe ∧
    (logItem kind blk src sev detail s).cv = s.cv ∧
    (logItem kind blk src sev detail s).sec = s.sec ∧
    (logItem kind blk src sev detail s).spi = s.spi ∧
    (logItem kind blk src sev detail s).regs = s.regs ∧
    (logItem kind blk src sev detail s).latches = s.latches ∧
    (logItem kind blk src sev detail s).stims = s.stims ∧
    (logItem kind blk src sev detail s).freeIdx = s.freeIdx ∧
    (logItem kind blk src sev detail s).pending = s.pending ∧
    (logItem kind blk src sev detail s).clap.queue = s.clap.queue ∧
    (logItem kind blk src sev detail s).clap.held = s.clap.held ∧
    (logItem kind blk src sev detail s).clap.restarting = s.clap.restarting ∧
    (logItem kind blk src sev detail s).clap.long = s.clap.long ∧
    (logItem kind blk src sev detail s).clap.retained = s.clap.retained ∧
    (logItem kind blk src sev detail s).clap.ledgerSeq = s.clap.ledgerSeq ∧
    (logItem kind blk src sev detail s).clap.seqU = s.clap.seqU ∧
    (logItem kind blk src sev detail s).clap.log = s.clap.log ∧
    (logItem kind blk src sev detail s).clap.logSeq = s.clap.logSeq ∧
    (logItem kind blk src sev detail s).clap.rates = s.clap.rates ∧
    (logItem kind blk src sev detail s).clap.ledger = s.clap.ledger ∧
    (logItem kind blk src sev detail s).clap.evtQ = s.clap.evtQ := by
  simp [logItem]

@[simp] theorem logRefusal_frame (p : CmdPkt) (st addr : Nat) (s : State) :
    (logRefusal p st addr s).sys = s.sys ∧
    (logRefusal p st addr s).flt = s.flt ∧
    (logRefusal p st addr s).nvm = s.nvm ∧
    (logRefusal p st addr s).link = s.link ∧
    (logRefusal p st addr s).can = s.can ∧
    (logRefusal p st addr s).tab = s.tab ∧
    (logRefusal p st addr s).store = s.store ∧
    (logRefusal p st addr s).carl = s.carl ∧
    (logRefusal p st addr s).pix = s.pix ∧
    (logRefusal p st addr s).mal = s.mal ∧
    (logRefusal p st addr s).sense = s.sense ∧
    (logRefusal p st addr s).hk = s.hk ∧
    (logRefusal p st addr s).pwr = s.pwr ∧
    (logRefusal p st addr s).safe = s.safe ∧
    (logRefusal p st addr s).cv = s.cv ∧
    (logRefusal p st addr s).sec = s.sec ∧
    (logRefusal p st addr s).spi = s.spi ∧
    (logRefusal p st addr s).regs = s.regs ∧
    (logRefusal p st addr s).latches = s.latches ∧
    (logRefusal p st addr s).stims = s.stims ∧
    (logRefusal p st addr s).freeIdx = s.freeIdx ∧
    (logRefusal p st addr s).pending = s.pending ∧
    (logRefusal p st addr s).clap.queue = s.clap.queue ∧
    (logRefusal p st addr s).clap.held = s.clap.held ∧
    (logRefusal p st addr s).clap.restarting = s.clap.restarting ∧
    (logRefusal p st addr s).clap.long = s.clap.long ∧
    (logRefusal p st addr s).clap.retained = s.clap.retained ∧
    (logRefusal p st addr s).clap.ledgerSeq = s.clap.ledgerSeq ∧
    (logRefusal p st addr s).clap.seqU = s.clap.seqU ∧
    (logRefusal p st addr s).clap.log = s.clap.log ∧
    (logRefusal p st addr s).clap.logSeq = s.clap.logSeq ∧
    (logRefusal p st addr s).clap.rates = s.clap.rates ∧
    (logRefusal p st addr s).clap.ledger = s.clap.ledger ∧
    (logRefusal p st addr s).clap.evtQ = s.clap.evtQ := by
  simp [logRefusal]

@[simp] theorem violation_frame (p : CmdPkt) (st addr : Nat) (s : State) :
    (violation p st addr s).nvm = s.nvm ∧
    (violation p st addr s).tab = s.tab ∧
    (violation p st addr s).store = s.store ∧
    (violation p st addr s).hk = s.hk ∧
    (violation p st addr s).sec = s.sec ∧
    (violation p st addr s).latches = s.latches ∧
    (violation p st addr s).stims = s.stims ∧
    (violation p st addr s).freeIdx = s.freeIdx ∧
    (violation p st addr s).pending = s.pending ∧
    (violation p st addr s).clap.queue = s.clap.queue ∧
    (violation p st addr s).clap.restarting = s.clap.restarting ∧
    (violation p st addr s).clap.retained = s.clap.retained ∧
    (violation p st addr s).clap.ledgerSeq = s.clap.ledgerSeq ∧
    (violation p st addr s).clap.seqU = s.clap.seqU ∧
    (violation p st addr s).clap.log = s.clap.log ∧
    (violation p st addr s).clap.logSeq = s.clap.logSeq ∧
    (violation p st addr s).clap.rates = s.clap.rates ∧
    (violation p st addr s).link.ls = s.link.ls ∧
    (violation p st addr s).sys.coldDue = s.sys.coldDue := by
  simp [violation]

@[simp] theorem finish_frame (c : Ctx) (r : Res) (s : State) :
    (finish c r s).nvm = s.nvm ∧
    (finish c r s).tab = s.tab ∧
    (finish c r s).store = s.store ∧
    (finish c r s).hk = s.hk ∧
    (finish c r s).sec = s.sec ∧
    (finish c r s).latches = s.latches ∧
    (finish c r s).stims = s.stims ∧
    (finish c r s).freeIdx = s.freeIdx ∧
    (finish c r s).pending = s.pending ∧
    (finish c r s).clap.queue = s.clap.queue ∧
    (finish c r s).clap.restarting = s.clap.restarting ∧
    (finish c r s).clap.retained = s.clap.retained ∧
    (finish c r s).clap.ledgerSeq = s.clap.ledgerSeq ∧
    (finish c r s).clap.seqU = s.clap.seqU ∧
    (finish c r s).clap.log = s.clap.log ∧
    (finish c r s).clap.logSeq = s.clap.logSeq ∧
    (finish c r s).clap.rates = s.clap.rates ∧
    (finish c r s).link.ls = s.link.ls ∧
    (finish c r s).sys.coldDue = s.sys.coldDue := by
  unfold finish; dsimp only; (repeat' split) <;> simp

@[simp] theorem finishLong_frame (l : LongCmd) (r : Res) (s : State) :
    (finishLong l r s).nvm = s.nvm ∧
    (finishLong l r s).tab = s.tab ∧
    (finishLong l r s).store = s.store ∧
    (finishLong l r s).hk = s.hk ∧
    (finishLong l r s).sec = s.sec ∧
    (finishLong l r s).latches = s.latches ∧
    (finishLong l r s).stims = s.stims ∧
    (finishLong l r s).freeIdx = s.freeIdx ∧
    (finishLong l r s).pending = s.pending ∧
    (finishLong l r s).clap.queue = s.clap.queue ∧
    (finishLong l r s).clap.restarting = s.clap.restarting ∧
    (finishLong l r s).clap.retained = s.clap.retained ∧
    (finishLong l r s).clap.ledgerSeq = s.clap.ledgerSeq ∧
    (finishLong l r s).clap.seqU = s.clap.seqU ∧
    (finishLong l r s).clap.log = s.clap.log ∧
    (finishLong l r s).clap.logSeq = s.clap.logSeq ∧
    (finishLong l r s).clap.rates = s.clap.rates ∧
    (finishLong l r s).link.ls = s.link.ls ∧
    (finishLong l r s).sys.coldDue = s.sys.coldDue := by
  simp [finishLong]

@[simp] theorem startStillExit_frame (s : State) :
    (startStillExit s).flt = s.flt ∧
    (startStillExit s).clap = s.clap ∧
    (startStillExit s).nvm = s.nvm ∧
    (startStillExit s).link = s.link ∧
    (startStillExit s).can = s.can ∧
    (startStillExit s).tab = s.tab ∧
    (startStillExit s).store = s.store ∧
    (startStillExit s).carl = s.carl ∧
    (startStillExit s).pix = s.pix ∧
    (startStillExit s).mal = s.mal ∧
    (startStillExit s).sense = s.sense ∧
    (startStillExit s).hk = s.hk ∧
    (startStillExit s).pwr = s.pwr ∧
    (startStillExit s).safe = s.safe ∧
    (startStillExit s).cv = s.cv ∧
    (startStillExit s).sec = s.sec ∧
    (startStillExit s).spi = s.spi ∧
    (startStillExit s).regs = s.regs ∧
    (startStillExit s).latches = s.latches ∧
    (startStillExit s).stims = s.stims ∧
    (startStillExit s).freeIdx = s.freeIdx ∧
    (startStillExit s).pending = s.pending ∧
    (startStillExit s).sys.st = s.sys.st ∧
    (startStillExit s).sys.coldDue = s.sys.coldDue := by
  simp [startStillExit]

@[simp] theorem addCause_frame (bit : Nat) (s : State) :
    (addCause bit s).nvm = s.nvm ∧
    (addCause bit s).tab = s.tab ∧
    (addCause bit s).store = s.store ∧
    (addCause bit s).carl = s.carl ∧
    (addCause bit s).pix = s.pix ∧
    (addCause bit s).mal = s.mal ∧
    (addCause bit s).hk = s.hk ∧
    (addCause bit s).sec = s.sec ∧
    (addCause bit s).spi = s.spi ∧
    (addCause bit s).regs = s.regs ∧
    (addCause bit s).latches = s.latches ∧
    (addCause bit s).stims = s.stims ∧
    (addCause bit s).freeIdx = s.freeIdx ∧
    (addCause bit s).pending = s.pending ∧
    (addCause bit s).clap.queue = s.clap.queue ∧
    (addCause bit s).clap.held = s.clap.held ∧
    (addCause bit s).clap.restarting = s.clap.restarting ∧
    (addCause bit s).clap.long = s.clap.long ∧
    (addCause bit s).clap.retained = s.clap.retained ∧
    (addCause bit s).clap.ledgerSeq = s.clap.ledgerSeq ∧
    (addCause bit s).clap.seqU = s.clap.seqU ∧
    (addCause bit s).clap.log = s.clap.log ∧
    (addCause bit s).clap.logSeq = s.clap.logSeq ∧
    (addCause bit s).clap.logPend = s.clap.logPend ∧
    (addCause bit s).clap.rates = s.clap.rates ∧
    (addCause bit s).clap.ledger = s.clap.ledger ∧
    (addCause bit s).link.ls = s.link.ls ∧
    (addCause bit s).sys.coldDue = s.sys.coldDue ∧
    (addCause bit s).cv.scan = s.cv.scan ∧
    (addCause bit s).cv.last = s.cv.last := by
  unfold addCause; dsimp only; (repeat' split) <;> simp

@[simp] theorem clearCause_frame (bit : Nat) (s : State) :
    (clearCause bit s).sys = s.sys ∧
    (clearCause bit s).flt = s.flt ∧
    (clearCause bit s).clap = s.clap ∧
    (clearCause bit s).nvm = s.nvm ∧
    (clearCause bit s).link = s.link ∧
    (clearCause bit s).can = s.can ∧
    (clearCause bit s).tab = s.tab ∧
    (clearCause bit s).store = s.store ∧
    (clearCause bit s).carl = s.carl ∧
    (clearCause bit s).pix = s.pix ∧
    (clearCause bit s).mal = s.mal ∧
    (clearCause bit s).sense = s.sense ∧
    (clearCause bit s).hk = s.hk ∧
    (clearCause bit s).pwr = s.pwr ∧
    (clearCause bit s).cv = s.cv ∧
    (clearCause bit s).sec = s.sec ∧
    (clearCause bit s).spi = s.spi ∧
    (clearCause bit s).regs = s.regs ∧
    (clearCause bit s).latches = s.latches ∧
    (clearCause bit s).stims = s.stims ∧
    (clearCause bit s).freeIdx = s.freeIdx ∧
    (clearCause bit s).pending = s.pending := by
  simp [clearCause]

@[simp] theorem recordSafe_frame (src : Nat) (x : FltArg) (s : State) :
    (recordSafe src x s).nvm = s.nvm ∧
    (recordSafe src x s).tab = s.tab ∧
    (recordSafe src x s).store = s.store ∧
    (recordSafe src x s).hk = s.hk ∧
    (recordSafe src x s).sec = s.sec ∧
    (recordSafe src x s).regs = s.regs ∧
    (recordSafe src x s).latches = s.latches ∧
    (recordSafe src x s).stims = s.stims ∧
    (recordSafe src x s).freeIdx = s.freeIdx ∧
    (recordSafe src x s).pending = s.pending ∧
    (recordSafe src x s).clap.queue = s.clap.queue ∧
    (recordSafe src x s).clap.restarting = s.clap.restarting ∧
    (recordSafe src x s).clap.retained = s.clap.retained ∧
    (recordSafe src x s).clap.ledgerSeq = s.clap.ledgerSeq ∧
    (recordSafe src x s).clap.seqU = s.clap.seqU ∧
    (recordSafe src x s).clap.log = s.clap.log ∧
    (recordSafe src x s).clap.logSeq = s.clap.logSeq ∧
    (recordSafe src x s).clap.logPend = s.clap.logPend ∧
    (recordSafe src x s).clap.rates = s.clap.rates ∧
    (recordSafe src x s).link.ls = s.link.ls ∧
    (recordSafe src x s).sys.coldDue = s.sys.coldDue := by
  unfold recordSafe; dsimp only; (repeat' split) <;> simp

@[simp] theorem sendPending_frame (c : Ctx) (s : State) :
    (sendPending c s).sys = s.sys ∧
    (sendPending c s).flt = s.flt ∧
    (sendPending c s).nvm = s.nvm ∧
    (sendPending c s).tab = s.tab ∧
    (sendPending c s).store = s.store ∧
    (sendPending c s).carl = s.carl ∧
    (sendPending c s).pix = s.pix ∧
    (sendPending c s).mal = s.mal ∧
    (sendPending c s).sense = s.sense ∧
    (sendPending c s).hk = s.hk ∧
    (sendPending c s).pwr = s.pwr ∧
    (sendPending c s).safe = s.safe ∧
    (sendPending c s).sec = s.sec ∧
    (sendPending c s).regs = s.regs ∧
    (sendPending c s).latches = s.latches ∧
    (sendPending c s).stims = s.stims ∧
    (sendPending c s).freeIdx = s.freeIdx ∧
    (sendPending c s).pending = s.pending ∧
    (sendPending c s).clap.queue = s.clap.queue ∧
    (sendPending c s).clap.held = s.clap.held ∧
    (sendPending c s).clap.restarting = s.clap.restarting ∧
    (sendPending c s).clap.long = s.clap.long ∧
    (sendPending c s).clap.retained = s.clap.retained ∧
    (sendPending c s).clap.ledgerSeq = s.clap.ledgerSeq ∧
    (sendPending c s).clap.seqU = s.clap.seqU ∧
    (sendPending c s).clap.log = s.clap.log ∧
    (sendPending c s).clap.logSeq = s.clap.logSeq ∧
    (sendPending c s).clap.logPend = s.clap.logPend ∧
    (sendPending c s).clap.rates = s.clap.rates ∧
    (sendPending c s).link.ls = s.link.ls := by
  unfold sendPending; split <;> simp

end Sys2Proof.Machine
end

