-- ==== Sys2Proof/Laws/Commands.lean ====
section
/-!
SUPPORT. What an admitted command packet comes to: its body in the state that acceptance leaves, its answer, and what follows.
-/
namespace Sys2Proof

open Sys2Proof.Machine

variable {op : Nat} {h : CmdHdr} {ps : Bytes} {s t : State} {r : Res} {k : LongKind}

theorem drainOne_idle (hq : t.clap.queue = []) : drainOne t = t := by
  unfold drainOne
  split
  · rfl
  · rw [hq]

theorem iter_drainOne_idle (n : Nat) (hq : t.clap.queue = []) : iter n drainOne t = t := by
  induction n with
  | zero => rfl
  | succ n ih => rw [iter, drainOne_idle hq, ih]

theorem drain_idle (hq : t.clap.queue = []) : drain t = t := iter_drainOne_idle _ hq

/-- With an empty queue, settling is upkeep. -/
theorem settle_idle (hq : t.clap.queue = []) : settle t = upkeep t := by
  unfold settle settleWith settleNow upkeep
  rw [drain_idle hq]

/-- With an empty queue, what follows is upkeep. -/
theorem follow_idle (n : Nat) (hq : t.clap.queue = []) : follow n t = upkeep t := by
  unfold follow
  rw [iter_drainOne_idle _ hq]

theorem Takes.waits (hT : Takes s) : s.clapWaits = false := by
  simp [State.clapWaits, hT.running, hT.free, hT.noCold]

/-- A packet that arrives when the Clapper takes it is processed at once, after the credits that it holds have returned. -/
theorem drain_arrive (hT : Takes s) (p : CmdPkt) (units : Nat) :
    drain (arrive p units s) = iter (s.clap.long.length + 2) drainOne (process p (if units = 0 then s else returnCredits 0 units s)) := by
  have hq : (arrive p units s).clap.queue = [⟨s.now, pathRank p.path, .pkt p, units⟩] := by
    simp [arrive, hT.idle, insertBy]
  have hw : (arrive p units s).clapWaits = false := by
    have h1 := hT.waits
    simpa [State.clapWaits, arrive] using h1
  have hs : (arrive p units s).onClap (fun c => { c with queue := [] }) = s := by
    have hc : ({ s.clap with queue := [] } : Clap) = s.clap := by rw [← hT.idle]
    show ({ s with clap := { s.clap with queue := [] } } : State) = s
    rw [hc]
  have h1 : drainOne (arrive p units s) = process p (if units = 0 then s else returnCredits 0 units s) := by
    unfold drainOne
    rw [hw, hq]
    simp only [Bool.false_eq_true, if_false, hs]
  have hl : (arrive p units s).clap.long = s.clap.long := rfl
  unfold drain
  rw [hq, hl, show 2 * [(⟨s.now, pathRank p.path, .pkt p, units⟩ : QItem)].length + s.clap.long.length + 1 = s.clap.long.length + 2 + 1 from by simp; omega]
  rw [iter, h1]

/-- Steps 2 to 6 let an admitted packet through. -/
theorem Admits.process (hA : Admits op h ps s) (ho : op < 65536) :
    process (pktOf op h ps s) s = run7 (ctxOf op h ps s) (taken op h ps s) := by
  have hop : (pktOf op h ps s).opcode.toNat = op := by
    show (BitVec.ofNat 16 op).toNat = op
    rw [BitVec.toNat_ofNat]; exact Nat.mod_eq_of_lt ho
  have hb : (pktOf op h ps s).bad = none := by
    show (if 4132 < ps.length then some (0xFFFF : BitVec 16) else none) = none
    rw [if_neg (Nat.not_lt.mpr hA.size)]
  have hf : ¬ (pktOf op h ps s).seq.toNat ≤ (s.lastSeq (pktOf op h ps s)).toNat := Nat.not_le.mpr hA.fresh
  unfold Machine.process
  rw [hb, hA.auth]
  simp only [Option.isSome_none, Bool.false_eq_true, if_false, if_neg hf, hA.unit, Bool.false_or]
  rw [hop]
  have hr := hA.room
  cases hrow : opRow op with
  | none =>
    have hj : journals op = false := by unfold journals; rw [hrow]
    simp only [Bool.false_and, Bool.false_eq_true, if_false]
    unfold accept
    rw [hop, hrow]
    simp only [Bool.false_eq_true, if_false, ctxOf, entryOf, taken, hj]
  | some row =>
    have hj : journals op = row.j := by unfold journals; rw [hrow]
    rw [hj] at hr
    cases hjj : row.j with
    | false =>
      simp only [hjj, Bool.false_and, Bool.false_eq_true, if_false]
      unfold accept
      rw [hop, hrow]
      simp only [hjj, Bool.false_eq_true, if_false, ctxOf, entryOf, taken, hj]
    | true =>
      rw [hr hjj]
      simp only [hjj, Bool.not_true, Bool.and_false, Bool.false_eq_true, if_false]
      unfold accept
      rw [hop, hrow]
      have hq : (takeSeq (pktOf op h ps s) s).clap.ledgerSeq = s.clap.ledgerSeq := by unfold takeSeq onSlot; split <;> rfl
      simp only [hjj, if_true, ctxOf, entryOf, taken, hj, journal, hq]

/-- An admitted packet: its body, its answer, and what follows. -/
theorem hostCmd_admitted (hA : Admits op h ps s) (ho : op < 65536) :
    hostCmd op h ps s = follow s.clap.long.length ((conclude (ctxOf op h ps s) (opBody op (bodyCtx (ctxOf op h ps s)) (taken op h ps s)).2
      (opBody op (bodyCtx (ctxOf op h ps s)) (taken op h ps s)).1)) := by
  have hop : (ctxOf op h ps s).pkt.opcode.toNat = op := by
    show (BitVec.ofNat 16 op).toNat = op
    rw [BitVec.toNat_ofNat]; exact Nat.mod_eq_of_lt ho
  have h1 : hostCmd op h ps s = upkeep (drain (arrive (pktOf op h ps s) 0 s)) := by
    unfold hostCmd
    rw [if_pos hA.hears]; unfold settle settleWith settleNow upkeep; rfl
  rw [h1, drain_arrive hA.toTakes, if_pos rfl, hA.process ho]
  unfold follow run7
  rw [hA.step79, hop]

/-- An admitted packet whose body ends with a final reply. -/
theorem hostCmd_replied (hA : Admits op h ps s) (ho : op < 65536)
    (hb : opBody op (bodyCtx (ctxOf op h ps s)) (taken op h ps s) = (t, .done r .none))
    (hl : longRow op = false ∨ 0x10 ≤ r.status) : hostCmd op h ps s = replied op h ps s r t := by
  have hop : (ctxOf op h ps s).pkt.opcode.toNat = op := by
    show (BitVec.ofNat 16 op).toNat = op
    rw [BitVec.toNat_ofNat]; exact Nat.mod_eq_of_lt ho
  rw [hostCmd_admitted hA ho, hb]
  have hn : (longRow op && decide (r.status < 0x10)) = false := by
    rcases hl with hl | hl
    · rw [hl]; rfl
    · rw [Bool.and_eq_false_iff]; right; simp; omega
  have hc : conclude (ctxOf op h ps s) (.done r .none) t = finish (ctxOf op h ps s) r t := by
    unfold conclude afterReply
    rw [hop]
    cases hrow : opRow op with
    | none => simp
    | some row =>
      unfold longRow at hn
      rw [hrow] at hn
      simp only at hn
      simp only [hn]
      simp
  rw [hc]
  rfl

/-- A long command that completes at once sends PENDING first. -/
theorem hostCmd_repliedLong (hA : Admits op h ps s) (ho : op < 65536)
    (hb : opBody op (bodyCtx (ctxOf op h ps s)) (taken op h ps s) = (t, .done r .none))
    (hl : longRow op = true) (hr : r.status < 0x10) : hostCmd op h ps s = replied op h ps s r (sendPending (ctxOf op h ps s) t) := by
  have hop : (ctxOf op h ps s).pkt.opcode.toNat = op := by
    show (BitVec.ofNat 16 op).toNat = op
    rw [BitVec.toNat_ofNat]; exact Nat.mod_eq_of_lt ho
  rw [hostCmd_admitted hA ho, hb]
  have hc : conclude (ctxOf op h ps s) (.done r .none) t = finish (ctxOf op h ps s) r (sendPending (ctxOf op h ps s) t) := by
    unfold conclude afterReply
    rw [hop]
    cases hrow : opRow op with
    | none => unfold longRow at hl; rw [hrow] at hl; cases hl
    | some row =>
      unfold longRow at hl
      rw [hrow] at hl
      simp only at hl
      simp [hl, hr]
  rw [hc]
  rfl

/-- An admitted packet that becomes a long command. -/
theorem hostCmd_started (hA : Admits op h ps s) (ho : op < 65536)
    (hb : opBody op (bodyCtx (ctxOf op h ps s)) (taken op h ps s) = (t, .later k))
    (hk : ∀ a b c d, k ≠ .schedule a b c d true) : hostCmd op h ps s = started op h ps s k t := by
  rw [hostCmd_admitted hA ho, hb]
  unfold conclude
  dsimp only
  split
  · rename_i a b c d _ _
    exact absurd rfl (hk a b c d)
  · rfl

/-- What acceptance leaves as it was: everything but the key slots, the Clapper and the scan that a write of the Ledger disturbs. -/
@[simp] theorem taken_frame (op : Nat) (h : CmdHdr) (ps : Bytes) (s : State) :
    (taken op h ps s).sys = s.sys ∧
    (taken op h ps s).flt = s.flt ∧
    (taken op h ps s).nvm = s.nvm ∧
    (taken op h ps s).link = s.link ∧
    (taken op h ps s).can = s.can ∧
    (taken op h ps s).tab = s.tab ∧
    (taken op h ps s).store = s.store ∧
    (taken op h ps s).carl = s.carl ∧
    (taken op h ps s).pix = s.pix ∧
    (taken op h ps s).mal = s.mal ∧
    (taken op h ps s).sense = s.sense ∧
    (taken op h ps s).hk = s.hk ∧
    (taken op h ps s).safe = s.safe ∧
    (taken op h ps s).pwr = s.pwr ∧
    (taken op h ps s).spi = s.spi ∧
    (taken op h ps s).regs = s.regs ∧
    (taken op h ps s).stims = s.stims ∧
    (taken op h ps s).freeIdx = s.freeIdx ∧
    (taken op h ps s).pending = s.pending := by
  have hf : ∀ (p : CmdPkt) (s : State),
      (takeSeq p s).sys = s.sys ∧ (takeSeq p s).flt = s.flt ∧ (takeSeq p s).nvm = s.nvm ∧ (takeSeq p s).link = s.link ∧ (takeSeq p s).can = s.can ∧ (takeSeq p s).tab = s.tab ∧ (takeSeq p s).store = s.store ∧ (takeSeq p s).carl = s.carl ∧ (takeSeq p s).pix = s.pix ∧ (takeSeq p s).mal = s.mal ∧ (takeSeq p s).sense = s.sense ∧ (takeSeq p s).hk = s.hk ∧ (takeSeq p s).safe = s.safe ∧ (takeSeq p s).pwr = s.pwr ∧ (takeSeq p s).spi = s.spi ∧ (takeSeq p s).regs = s.regs ∧ (takeSeq p s).stims = s.stims ∧ (takeSeq p s).freeIdx = s.freeIdx ∧ (takeSeq p s).pending = s.pending := by
    intro p s
    unfold takeSeq onSlot
    split <;> simp
  unfold taken journal
  split <;> simp [hf]

/-- The Clapper's part of what acceptance leaves. -/
@[simp] theorem taken_clap (op : Nat) (h : CmdHdr) (ps : Bytes) (s : State) :
    (taken op h ps s).clap.queue = s.clap.queue ∧
    (taken op h ps s).clap.held = s.clap.held ∧
    (taken op h ps s).clap.restarting = s.clap.restarting ∧
    (taken op h ps s).clap.long = s.clap.long ∧
    (taken op h ps s).clap.evtQ = s.clap.evtQ ∧
    (taken op h ps s).clap.log = s.clap.log ∧
    (taken op h ps s).clap.logSeq = s.clap.logSeq := by
  have hf : ∀ (p : CmdPkt) (s : State), (takeSeq p s).clap.queue = s.clap.queue ∧ (takeSeq p s).clap.held = s.clap.held ∧
      (takeSeq p s).clap.restarting = s.clap.restarting ∧ (takeSeq p s).clap.long = s.clap.long ∧
      (takeSeq p s).clap.evtQ = s.clap.evtQ ∧ (takeSeq p s).clap.log = s.clap.log ∧ (takeSeq p s).clap.logSeq = s.clap.logSeq := by
    intro p s
    unfold takeSeq onSlot
    split <;> simp
  unfold taken journal
  split <;> simp [hf]

@[simp] theorem taken_sec (op : Nat) (h : CmdHdr) (ps : Bytes) (s : State) :
    (taken op h ps s).sec.fails = s.sec.fails ∧
    (taken op h ps s).sec.lockAt = s.sec.lockAt ∧
    (taken op h ps s).sec.stage = s.sec.stage ∧
    (taken op h ps s).sec.stageEnd = s.sec.stageEnd ∧
    (taken op h ps s).sec.arGen = s.sec.arGen ∧
    (taken op h ps s).sec.active = s.sec.active ∧
    (taken op h ps s).sec.minSvn = s.sec.minSvn ∧
    (taken op h ps s).sec.revoked = s.sec.revoked ∧
    (taken op h ps s).latches = s.latches ∧
    (taken op h ps s).clap.seqU = if (pktOf op h ps s).auth then s.clap.seqU else h.seq := by
  have hf : ∀ (p : CmdPkt) (s : State),
      (takeSeq p s).sec.fails = s.sec.fails ∧ (takeSeq p s).sec.lockAt = s.sec.lockAt ∧ (takeSeq p s).sec.stage = s.sec.stage ∧ (takeSeq p s).sec.stageEnd = s.sec.stageEnd ∧ (takeSeq p s).sec.arGen = s.sec.arGen ∧ (takeSeq p s).sec.active = s.sec.active ∧ (takeSeq p s).sec.minSvn = s.sec.minSvn ∧ (takeSeq p s).sec.revoked = s.sec.revoked ∧ (takeSeq p s).latches = s.latches ∧ (takeSeq p s).clap.seqU = if p.auth then s.clap.seqU else p.seq := by
    intro p s
    unfold takeSeq onSlot
    split <;> simp
  have hs : (pktOf op h ps s).seq = h.seq := rfl
  unfold taken journal
  split <;> simp [hf, hs]

/-- A number read back from its bytes (R18). -/
theorem leNat_natLe (n v : Nat) (hv : v < 256 ^ n) : leNat (natLe n v) = v := by
  induction n generalizing v with
  | zero => simp at hv; simp [natLe, leNat, hv]
  | succ n ih =>
    rw [natLe, leNat, ih (v / 256) (by rw [Nat.pow_succ] at hv; omega), BitVec.toNat_ofNat]
    omega

theorem length_natLe (n v : Nat) : (natLe n v).length = n := by
  induction n generalizing v with
  | zero => rfl
  | succ n ih => rw [natLe, List.length_cons, ih]

/-- A register-write row: a REG_WRITE of one register. -/
theorem hostReg_wrote {a : Nat} {h : CmdHdr} {v : Word} {s : State} (ha : a < 2 ^ 32) (hW : Writes a h v s) :
    hostReg a v h s = wrote a h v s (writeWord a v (writing a h v s)) := by
  have hp : regParams a v = natLe 4 a ++ ([1, 0, 0, 0] ++ leOf 4 v) := by unfold regParams; rw [List.append_assoc]
  have h4 : (natLe 4 a).length = 4 := length_natLe 4 a
  have hv4 : (leOf 4 v).length = 4 := length_natLe 4 _
  have e1 : numAt (regParams a v) 0 4 = a := by
    unfold numAt sliceB
    rw [hp, List.drop_zero, List.take_append_of_le_length (by omega), List.take_of_length_le (by omega)]
    exact leNat_natLe 4 a ha
  have e2 : numAt (regParams a v) 4 1 = 1 := by
    unfold numAt sliceB
    rw [hp, List.drop_append_of_le_length (by omega), List.drop_of_length_le (by omega)]
    rfl
  have e3 : sliceB (regParams a v) 5 3 = [0, 0, 0] := by
    unfold sliceB
    rw [hp, List.drop_append, h4, List.drop_of_length_le (by omega)]
    rfl
  have e4 : u32At (regParams a v) 8 = v := by
    unfold u32At numAt sliceB
    rw [hp, List.drop_append, h4, List.drop_of_length_le (by omega)]
    show BitVec.ofNat 32 (leNat ((leOf 4 v).take 4)) = v
    rw [List.take_of_length_le (by omega)]
    unfold leOf
    rw [leNat_natLe 4 _ (by exact v.isLt), BitVec.ofNat_toNat, BitVec.setWidth_eq]
  have e5 : (regParams a v).length = 12 := by rw [hp]; simp [h4, hv4]
  have hb : bodyRegWrite (bodyCtx (ctxOf 0x801 h (regParams a v) s)) (writing a h v s) = did (writeWord a v (writing a h v s)) := by
    have hr := hW.rules
    unfold bodyRegWrite
    have p1 : (bodyCtx (ctxOf 0x801 h (regParams a v) s)).pkt.params = regParams a v := by cases h; rfl
    have p2 : (bodyCtx (ctxOf 0x801 h (regParams a v) s)).pkt.slot.toNat = slotOf 0x801 h (regParams a v) s := by cases h; rfl
    have e6 : findIdx? (fun b : Byte => decide (b ≠ 0)) [0, 0, 0] = none := by decide
    simp only [p1, p2, e1, e2, e3, e5, e6]
    rw [if_neg (by omega), if_neg (by omega), if_neg (by omega)]
    have e7 : (List.range 1).map (fun i => (a + 4 * i, u32At (regParams a v) (8 + 4 * i))) = [(a, v)] := by
      simp [List.range_succ, e4]
    rw [e7, hr]
    rfl
  exact hostCmd_replied hW.admits (by decide) hb (Or.inl rfl)

end Sys2Proof
end

