-- ==== Sys2Proof/Laws/Answers.lean ====
section
/-!
SUPPORT. What exec answers for an admitted packet, by how its body ends, and what the body's context says of the packet.
-/
namespace Sys2Proof
open Sys2Proof.Machine
variable {op : Nat} {h : CmdHdr} {ps : Bytes} {s t : State} {r : Res} {k : LongKind}

/-- The opcode of an accepted packet. -/
theorem ctx_op (ho : op < 65536) : (ctxOf op h ps s).pkt.opcode.toNat = op := by
  show (BitVec.ofNat 16 op).toNat = op
  rw [BitVec.toNat_ofNat]; exact Nat.mod_eq_of_lt ho

/-- The body ends with a final reply. -/
theorem next_replied (hA : Admits op h ps s) (ho : op < 65536)
    (hb : opBody op (bodyCtx (ctxOf op h ps s)) (taken op h ps s) = (t, .done r .none))
    (hl : longRow op = false ∨ 0x10 ≤ r.status) : (Host.Outcome.next (hostCmd op h ps s) : Host.Outcome State Machine.Fault Machine.Refusal) = .next (replied op h ps s r t) :=
  congrArg _ (hostCmd_replied hA ho hb hl)

/-- The body becomes a long command. -/
theorem next_started (hA : Admits op h ps s) (ho : op < 65536)
    (hb : opBody op (bodyCtx (ctxOf op h ps s)) (taken op h ps s) = (t, .later k))
    (hk : ∀ a b c d, k ≠ .schedule a b c d true) : (Host.Outcome.next (hostCmd op h ps s) : Host.Outcome State Machine.Fault Machine.Refusal) = .next (started op h ps s k t) :=
  congrArg _ (hostCmd_started hA ho hb hk)

/-- A long row ends at once: PENDING precedes the final reply where it was asked for. -/
theorem next_repliedLong (hA : Admits op h ps s) (ho : op < 65536)
    (hb : opBody op (bodyCtx (ctxOf op h ps s)) (taken op h ps s) = (t, .done r .none))
    (hl : longRow op = true) (hr : r.status < 0x10) :
    (Host.Outcome.next (hostCmd op h ps s) : Host.Outcome State Machine.Fault Machine.Refusal) = .next (replied op h ps s r (sendPending (ctxOf op h ps s) t)) :=
  congrArg _ (hostCmd_repliedLong hA ho hb hl hr)

@[simp] theorem bctx_params : (bodyCtx (ctxOf op h ps s)).pkt.params = ps := by cases h; rfl
@[simp] theorem bctx_ledger : (bodyCtx (ctxOf op h ps s)).ledger = entryOf op s := by cases h; rfl
@[simp] theorem bctx_slot : (bodyCtx (ctxOf op h ps s)).pkt.slot.toNat = slotOf op h ps s := by cases h; rfl
@[simp] theorem bctx_expert : (bodyCtx (ctxOf op h ps s)).pkt.expert = expertOf h s := by cases h; rfl
@[simp] theorem bctx_path : (bodyCtx (ctxOf op h ps s)).pkt.path = h.path := by cases h; rfl

end Sys2Proof
end

