-- ==== Sys2Proof/Laws/Core.lean ====
section
/-!
SUPPORT. The part of State that few commands change: Layer Store, MRAM, keys and the queue of waiting commands. One lemma for each
operation that leaves it as it was.
-/
namespace Sys2Proof.Machine

/-- Layer Store, MRAM, keys and the queue of waiting commands. -/
def State.core (s : State) : Store × Nvm × Sec × List Instr := (s.store, s.nvm, s.sec, s.pending)

theorem State.core_eq {s t : State} (h1 : t.store = s.store) (h2 : t.nvm = s.nvm) (h3 : t.sec = s.sec) (h4 : t.pending = s.pending) :
    t.core = s.core := by simp only [State.core, h1, h2, h3, h4]


@[simp] theorem State.core_onSys (s : State) (f : Sys → Sys) : (s.onSys f).core = s.core :=
  State.core_eq rfl rfl rfl rfl
@[simp] theorem State.core_onFlt (s : State) (f : List FltBlock → List FltBlock) : (s.onFlt f).core = s.core :=
  State.core_eq rfl rfl rfl rfl
@[simp] theorem State.core_onClap (s : State) (f : Clap → Clap) : (s.onClap f).core = s.core :=
  State.core_eq rfl rfl rfl rfl
@[simp] theorem State.core_onLink (s : State) (f : Link → Link) : (s.onLink f).core = s.core :=
  State.core_eq rfl rfl rfl rfl
@[simp] theorem State.core_onCan (s : State) (f : Can → Can) : (s.onCan f).core = s.core :=
  State.core_eq rfl rfl rfl rfl
@[simp] theorem State.core_onTab (s : State) (f : TaborBlk → TaborBlk) : (s.onTab f).core = s.core :=
  State.core_eq rfl rfl rfl rfl
@[simp] theorem State.core_onCarl (s : State) (f : Carl → Carl) : (s.onCarl f).core = s.core :=
  State.core_eq rfl rfl rfl rfl
@[simp] theorem State.core_onPix (s : State) (f : Pix → Pix) : (s.onPix f).core = s.core :=
  State.core_eq rfl rfl rfl rfl
@[simp] theorem State.core_onMal (s : State) (f : Mal → Mal) : (s.onMal f).core = s.core :=
  State.core_eq rfl rfl rfl rfl
@[simp] theorem State.core_onSense (s : State) (f : Sense → Sense) : (s.onSense f).core = s.core :=
  State.core_eq rfl rfl rfl rfl
@[simp] theorem State.core_onHk (s : State) (f : Hk → Hk) : (s.onHk f).core = s.core :=
  State.core_eq rfl rfl rfl rfl
@[simp] theorem State.core_onPwr (s : State) (f : Pwr → Pwr) : (s.onPwr f).core = s.core :=
  State.core_eq rfl rfl rfl rfl
@[simp] theorem State.core_onSafe (s : State) (f : Safe → Safe) : (s.onSafe f).core = s.core :=
  State.core_eq rfl rfl rfl rfl
@[simp] theorem State.core_onCv (s : State) (f : Cv → Cv) : (s.onCv f).core = s.core :=
  State.core_eq rfl rfl rfl rfl
@[simp] theorem State.core_onSpi (s : State) (f : Spi → Spi) : (s.onSpi f).core = s.core :=
  State.core_eq rfl rfl rfl rfl
@[simp] theorem State.core_onRegs (s : State) (f : List (Nat × Word) → List (Nat × Word)) : (s.onRegs f).core = s.core :=
  State.core_eq rfl rfl rfl rfl
@[simp] theorem State.core_onLatches (s : State) (f : List (Nat × Word) → List (Nat × Word)) : (s.onLatches f).core = s.core :=
  State.core_eq rfl rfl rfl rfl
@[simp] theorem State.core_onStims (s : State) (f : List (Nat × Nat × Nat) → List (Nat × Nat × Nat)) : (s.onStims f).core = s.core :=
  State.core_eq rfl rfl rfl rfl
@[simp] theorem State.core_onFreeIdx (s : State) (f : Nat → Nat) : (s.onFreeIdx f).core = s.core :=
  State.core_eq rfl rfl rfl rfl

@[simp] theorem State.core_ite (c : Prop) [Decidable c] (a b : State) : (if c then a else b).core = if c then a.core else b.core := by split <;> rfl
@[simp] theorem State.core_foldl {α : Type} (f : State → α → State) (l : List α) (s : State) (h : ∀ x a, (f x a).core = x.core) :
    (l.foldl f s).core = s.core := foldl_keeps State.core f h l s
@[simp] theorem State.core_iter (f : State → State) (n : Nat) (s : State) (h : ∀ x, (f x).core = x.core) : (iter n f s).core = s.core :=
  iter_keeps State.core f h n s
@[simp] theorem State.core_forN (f : Nat → State → State) (n i : Nat) (s : State) (h : ∀ i x, (f i x).core = x.core) :
    (forN n i f s).core = s.core := forN_keeps State.core f h n i s

@[simp] theorem State.setReg_core (s : State) (a : Nat) (v : Word) : (State.setReg s a v).core = s.core := by
  exact State.core_eq (by simp) (by simp) (by simp) (by simp)
@[simp] theorem State.setFld_core (s : State) (a lo n v : Nat) : (State.setFld s a lo n v).core = s.core := by
  exact State.core_eq (by simp) (by simp) (by simp) (by simp)
@[simp] theorem State.bump_core (s : State) (a lo n k : Nat) : (State.bump s a lo n k).core = s.core := by
  exact State.core_eq (by simp) (by simp) (by simp) (by simp)
@[simp] theorem State.freeNext_core (s : State) : (State.freeNext s).core = s.core := by
  exact State.core_eq (by simp) (by simp) (by simp) (by simp)
@[simp] theorem cvEvent_core (u : Nat) (f : CvUnit → CvUnit) (s : State) : (cvEvent u f s).core = s.core := by
  exact State.core_eq (by simp) (by simp) (by simp) (by simp)
@[simp] theorem cvCheck_core (u : Nat) (good : Bool) (s : State) : (cvCheck u good s).core = s.core := by
  exact State.core_eq (by simp) (by simp) (by simp) (by simp)
@[simp] theorem sendPkt_core (p : TxPkt) (s : State) : (sendPkt p s).core = s.core := by
  exact State.core_eq (by simp) (by simp) (by simp) (by simp)
@[simp] theorem queuePkt_core (cls : Nat) (payload : Bytes) (tag : TxTag) (s : State) : (queuePkt cls payload tag s).core = s.core := by
  exact State.core_eq (by simp) (by simp) (by simp) (by simp)
@[simp] theorem sendCtrl_core (lanes : BitVec 4) (b : BitVec 64) (s : State) : (sendCtrl lanes b s).core = s.core := by
  exact State.core_eq (by simp) (by simp) (by simp) (by simp)
@[simp] theorem pumpOne_core (s : State) : (pumpOne s).core = s.core := by
  exact State.core_eq (by simp) (by simp) (by simp) (by simp)
@[simp] theorem pump_core (s : State) : (pump s).core = s.core := by
  exact State.core_eq (by simp) (by simp) (by simp) (by simp)
@[simp] theorem queueCan_core (off : Nat) (bs : Bytes) (tag : TxTag) (s : State) : (queueCan off bs tag s).core = s.core := by
  exact State.core_eq (by simp) (by simp) (by simp) (by simp)
@[simp] theorem flushCan_core (s : State) : (flushCan s).core = s.core := by
  exact State.core_eq (by simp) (by simp) (by simp) (by simp)
@[simp] theorem flush_core (s : State) : (flush s).core = s.core := by
  exact State.core_eq (by simp) (by simp) (by simp) (by simp)
@[simp] theorem touchMram_core (a n : Nat) (s : State) : (touchMram a n s).core = s.core := by
  exact State.core_eq (by simp) (by simp) (by simp) (by simp)
@[simp] theorem touchLedger_core (s : State) : (touchLedger s).core = s.core := by
  exact State.core_eq (by simp) (by simp) (by simp) (by simp)
@[simp] theorem modEntry_core (lseq : Word) (f : LedgerEntry → LedgerEntry) (s : State) : (modEntry lseq f s).core = s.core := by
  exact State.core_eq (by simp) (by simp) (by simp) (by simp)
@[simp] theorem markDelivered_core (tag : TxTag) (s : State) : (markDelivered tag s).core = s.core := by
  exact State.core_eq (by simp) (by simp) (by simp) (by simp)
@[simp] theorem cvAppend2_core (s : State) : (cvAppend2 s).core = s.core := by
  exact State.core_eq (by simp) (by simp) (by simp) (by simp)
@[simp] theorem putReply_core (path : Path) (bs : Bytes) (tag : TxTag) (s : State) : (putReply path bs tag s).core = s.core := by
  exact State.core_eq (by simp) (by simp) (by simp) (by simp)
@[simp] theorem sendReply_core (p : CmdPkt) (path : Path) (status : Nat) (detail : BitVec 16) (data : Bytes) (replayed : Bool) (tag : TxTag) (s : State) : (sendReply p path status detail data replayed tag s).core = s.core := by
  exact State.core_eq (by simp) (by simp) (by simp) (by simp)
@[simp] theorem onFlts_core (b : Nat) (f : FltBlock → FltBlock) (s : State) : (onFlts b f s).core = s.core := by
  exact State.core_eq (by simp) (by simp) (by simp) (by simp)
@[simp] theorem recordBase_core (b src : Nat) (x : FltArg) (s : State) : ((recordBase b src x s).1).core = s.core := by
  exact State.core_eq (by simp) (by simp) (by simp) (by simp)
@[simp] theorem postRec_core (front : Bool) (blk sev code : Nat) (data : Bytes) (s : State) : ((postRec front blk sev code data s).1).core = s.core := by
  exact State.core_eq (by simp) (by simp) (by simp) (by simp)
@[simp] theorem postEvent0_core (blk sev code : Nat) (data : Bytes) (s : State) : ((postEvent0 blk sev code data s).1).core = s.core := by
  exact State.core_eq (by simp) (by simp) (by simp) (by simp)
@[simp] theorem answer_core (r : Res) (s : State) : ((answer r s).1).core = s.core := by
  rfl
@[simp] theorem no_core (r : Res) (s : State) : ((no r s).1).core = s.core := by
  rfl
@[simp] theorem did_core (s : State) : ((did s).1).core = s.core := by
  rfl
@[simp] theorem didData_core (d : Bytes) (s : State) : ((didData d s).1).core = s.core := by
  rfl
@[simp] theorem finish0_core (c : Ctx) (r : Res) (s : State) : (finish0 c r s).core = s.core := by
  exact State.core_eq (by simp) (by simp) (by simp) (by simp)
@[simp] theorem dropLong_core (c : LongCmd) (s : State) : (dropLong c s).core = s.core := by
  exact State.core_eq (by simp) (by simp) (by simp) (by simp)
@[simp] theorem abandonLight_core (s : State) : (abandonLight s).core = s.core := by
  exact State.core_eq (by simp) (by simp) (by simp) (by simp)
@[simp] theorem syncOwner_core (s : State) : (syncOwner s).core = s.core := by
  exact State.core_eq (by simp) (by simp) (by simp) (by simp)
@[simp] theorem degTimer_core (old new : DevState) (s : State) : (degTimer old new s).core = s.core := by
  exact State.core_eq (by simp) (by simp) (by simp) (by simp)
@[simp] theorem enterState_core (n : DevState) (s : State) : (enterState n s).core = s.core := by
  exact State.core_eq (by simp) (by simp) (by simp) (by simp)
@[simp] theorem gongLight_core (cause : Nat) (s : State) : (gongLight cause s).core = s.core := by
  exact State.core_eq (by simp) (by simp) (by simp) (by simp)
@[simp] theorem enterGong_core (cause : Nat) (s : State) : (enterGong cause s).core = s.core := by
  exact State.core_eq (by simp) (by simp) (by simp) (by simp)
@[simp] theorem recordT_core (b src : Nat) (x : FltArg) (s : State) : ((recordT b src x s).1).core = s.core := by
  exact State.core_eq (by simp) (by simp) (by simp) (by simp)
@[simp] theorem record_core (b src : Nat) (x : FltArg) (s : State) : (record b src x s).core = s.core := by
  exact State.core_eq (by simp) (by simp) (by simp) (by simp)
@[simp] theorem postEvent_core (blk sev code : Nat) (data : Bytes) (s : State) : (postEvent blk sev code data s).core = s.core := by
  exact State.core_eq (by simp) (by simp) (by simp) (by simp)
@[simp] theorem logItem_core (kind blk src sev : Nat) (detail : Bytes) (s : State) : (logItem kind blk src sev detail s).core = s.core := by
  exact State.core_eq (by simp) (by simp) (by simp) (by simp)
@[simp] theorem logRefusal_core (p : CmdPkt) (status : Nat) (addr : Nat) (s : State) : (logRefusal p status addr s).core = s.core := by
  exact State.core_eq (by simp) (by simp) (by simp) (by simp)
@[simp] theorem violation_core (p : CmdPkt) (status : Nat) (addr : Nat) (s : State) : (violation p status addr s).core = s.core := by
  exact State.core_eq (by simp) (by simp) (by simp) (by simp)
@[simp] theorem violationLink_core (blk src : Nat) (linkSeq : BitVec 16) (reason : Nat) (handle : BitVec 16) (addr : Nat) (s : State) : (violationLink blk src linkSeq reason handle addr s).core = s.core := by
  simp only [violationLink, logItem_core, postEvent_core, record_core]
@[simp] theorem finish_core (c : Ctx) (r : Res) (s : State) : (finish c r s).core = s.core := by
  exact State.core_eq (by simp) (by simp) (by simp) (by simp)
@[simp] theorem finishLong_core (l : LongCmd) (r : Res) (s : State) : (finishLong l r s).core = s.core := by
  exact State.core_eq (by simp) (by simp) (by simp) (by simp)
@[simp] theorem finishAll_core (p : LongCmd → Bool) (r : Res) (s : State) : (finishAll p r s).core = s.core := by
  unfold finishAll; (try dsimp only); (repeat' split) <;> (first | (with_reducible rfl; done) | (simp only [finishAll, finishLong_core, State.core_foldl]; done) | (refine (State.core_foldl _ _ _ ?_).trans ?_ <;> intros <;> (repeat' split) <;> simp only [finishAll, finishLong_core, State.core_foldl]; done))
@[simp] theorem startStillExit_core (s : State) : (startStillExit s).core = s.core := by
  exact State.core_eq (by simp) (by simp) (by simp) (by simp)
@[simp] theorem addCause_core (bit : Nat) (s : State) : (addCause bit s).core = s.core := by
  exact State.core_eq (by simp) (by simp) (by simp) (by simp)
@[simp] theorem clearCause_core (bit : Nat) (s : State) : (clearCause bit s).core = s.core := by
  exact State.core_eq (by simp) (by simp) (by simp) (by simp)
@[simp] theorem recordSafe_core (src : Nat) (x : FltArg) (s : State) : (recordSafe src x s).core = s.core := by
  exact State.core_eq (by simp) (by simp) (by simp) (by simp)
@[simp] theorem dropStim_core (b src p : Nat) (s : State) : (dropStim b src p s).core = s.core := by
  rfl
@[simp] theorem onTabor_core (n : Nat) (f : Tabor → Tabor) (s : State) : (onTabor n f s).core = s.core := by
  rfl
@[simp] theorem setRate_core (n : Nat) (f p : Int) (s : State) : (setRate n f p s).core = s.core := by
  simp only [setRate, onTabor_core, record_core, State.core_ite, ite_self]
@[simp] theorem tickTime_core (s : State) : (tickTime s).core = s.core := by
  simp only [tickTime, State.core_onSys, State.core_onTab, State.core_ite, ite_self]
@[simp] theorem enqueueDue_core (lseq : Word) (late : Bool) (s : State) : (enqueueDue lseq late s).core = s.core := by
  rfl
@[simp] theorem runSkipped_core (n : Nat) (frm til : Nat) (s : State) : (runSkipped n frm til s).core = s.core := by
  unfold runSkipped; (try dsimp only); (repeat' split) <;> (first | (with_reducible rfl; done) | (simp only [runSkipped, enqueueDue_core, State.core_foldl]; done) | (refine (State.core_foldl _ _ _ ?_).trans ?_ <;> intros <;> (repeat' split) <;> simp only [runSkipped, enqueueDue_core, State.core_foldl]; done))
@[simp] theorem runReached_core (n : Nat) (s : State) : (runReached n s).core = s.core := by
  unfold runReached; refine State.core_foldl _ _ _ fun _ _ => ?_; split <;> simp only [enqueueDue_core]
@[simp] theorem breakExch_core (n : Nat) (s : State) : (breakExch n s).core = s.core := by
  rfl
@[simp] theorem nextEpoch_core (n : Nat) (off : Int) (s : State) : (nextEpoch n off s).core = s.core := by
  simp only [nextEpoch, onTabor_core, record_core]
@[simp] theorem correct_core (n : Nat) (c : Int) (s : State) : (correct n c s).core = s.core := by
  simp only [correct, breakExch_core, nextEpoch_core, onTabor_core, record_core, runReached_core, runSkipped_core, setRate_core, State.core_ite, ite_self]
@[simp] theorem updateF_core (n : Nat) (dm dl : Int) (s : State) : (updateF n dm dl s).core = s.core := by
  simp only [updateF, onTabor_core, State.core_ite, ite_self]
@[simp] theorem holdover_core (n : Nat) (s : State) : (holdover n s).core = s.core := by
  simp only [holdover, onTabor_core, record_core, setRate_core]
@[simp] theorem portChanged_core (s : State) : (portChanged s).core = s.core := by
  simp [portChanged]
@[simp] theorem newAcquisition_core (n : Nat) (s : State) : (newAcquisition n s).core = s.core := by
  simp only [newAcquisition, onTabor_core, setRate_core, State.core_onTab, State.core_ite, ite_self]
@[simp] theorem taborCfgChanged_core (n : Nat) (s : State) : (taborCfgChanged n s).core = s.core := by
  simp only [taborCfgChanged, newAcquisition_core, nextEpoch_core, State.core_onTab, State.core_ite, ite_self]
@[simp] theorem frameCfgChanged_core (s : State) : (frameCfgChanged s).core = s.core := by
  simp only [frameCfgChanged, nextEpoch_core, State.core_ite, ite_self]
@[simp] theorem taborApply_core (n : Nat) (s : State) : (taborApply n s).core = s.core := by
  have h1 : ∀ r : Int, (if r < -rateLimit ∨ rateLimit < r then record bTABOR 6 (atUnit 2) (setRate 2 (clampI (-rateLimit) rateLimit r) 0 s)
      else setRate 2 (clampI (-rateLimit) rateLimit r) 0 s).core = s.core := by
    intro r; split <;> simp only [record_core, setRate_core]
  unfold taborApply
  split
  · simp only [nextEpoch_core, State.core_onTab, h1]
  · simp only [correct_core, breakExch_core, setRate_core]
@[simp] theorem timeBase_core (crystal : Bool) (s : State) : (timeBase crystal s).core = s.core := by
  simp only [timeBase, record_core, State.core_onTab, State.core_ite, ite_self]
@[simp] theorem xtalWindow_core (ppb : Int) (s : State) : (xtalWindow ppb s).core = s.core := by
  simp only [xtalWindow, State.core_onTab, State.core_ite, ite_self]
@[simp] theorem camEdge_core (s : State) : (camEdge s).core = s.core := by
  unfold camEdge; split <;> simp only [camEdge, State.bump_core, correct_core, onTabor_core, record_core, updateF_core, State.core_onTab, State.core_ite, ite_self]
@[simp] theorem camsync_core (falling : Bool) (s : State) : (camsync falling s).core = s.core := by
  simp only [camsync, camEdge_core, State.core_onTab, State.core_ite, ite_self]
@[simp] theorem camLoss_core (s : State) : (camLoss s).core = s.core := by
  simp only [camLoss, holdover_core, record_core, State.core_onTab, State.core_ite, ite_self]
@[simp] theorem netHoldover_core (n : Nat) (s : State) : (netHoldover n s).core = s.core := by
  simp only [netHoldover, holdover_core, State.core_ite, ite_self]
@[simp] theorem bodyTimeQuery_core (c : Ctx) (s : State) : ((bodyTimeQuery c s).1).core = s.core := by
  unfold bodyTimeQuery; dsimp only; (repeat' split) <;> simp only [bodyTimeQuery, answer_core, no_core, State.core_ite, ite_self]
@[simp] theorem bodyTimeConfig_core (c : Ctx) (s : State) : ((bodyTimeConfig c s).1).core = s.core := by
  unfold bodyTimeConfig; dsimp only; (repeat' split) <;> simp only [bodyTimeConfig, State.setReg_core, did_core, no_core, taborCfgChanged_core, State.core_ite, ite_self]
@[simp] theorem bodyScheduleAt_core (c : Ctx) (s : State) : ((bodyScheduleAt c s).1).core = s.core := by
  unfold bodyScheduleAt; dsimp only; (repeat' split) <;> simp only [bodyScheduleAt, no_core, State.core_ite, ite_self]
@[simp] theorem scheduleDue_core (lseq : Word) (s : State) : (scheduleDue lseq s).core = s.core := by
  unfold scheduleDue; (repeat' split) <;> simp only [scheduleDue, enqueueDue_core, State.core_ite, ite_self]
@[simp] theorem startRebuild_core (s : State) : (startRebuild s).core = s.core := by
  rfl
@[simp] theorem crcErr_core (s : State) : (crcErr s).core = s.core := by
  simp only [crcErr, State.bump_core, record_core]
@[simp] theorem onLane_core (n : Nat) (f : Lane → Lane) (s : State) : (onLane n f s).core = s.core := by
  rfl
@[simp] theorem useSet_core (m : BitVec 4) (s : State) : (useSet m s).core = s.core := by
  rfl
@[simp] theorem onLanes_core (m : BitVec 4) (f : Lane → Lane) (s : State) : (onLanes m f s).core = s.core :=
  State.core_foldl _ _ _ (fun _ _ => onLane_core _ _ _)
@[simp] theorem sendTrain_core (msg : Nat) (on lanes : BitVec 4) (grade : Nat) (s : State) : (sendTrain msg on lanes grade s).core = s.core := by
  unfold sendTrain; dsimp only
  rw [State.core_onLink, State.core_foldl _ _ _ (fun _ _ => sendCtrl_core _ _ _)]
@[simp] theorem sendLinkctl_core (bs : Bytes) (s : State) : (sendLinkctl bs s).core = s.core := by
  rfl
@[simp] theorem sendRow_core (bs : Bytes) (s : State) : (sendRow bs s).core = s.core := by
  rfl
@[simp] theorem sendAck_core (s : State) : (sendAck s).core = s.core := by
  rfl
@[simp] theorem sendNak_core (reason : Nat) (s : State) : (sendNak reason s).core = s.core := by
  rfl
@[simp] theorem sendCredit_core (pool : Nat) (s : State) : (sendCredit pool s).core = s.core := by
  rfl
@[simp] theorem sendCredits_core (s : State) : (sendCredits s).core = s.core := by
  rfl
@[simp] theorem emptyLink_core (s : State) : (emptyLink s).core = s.core := by
  rfl
@[simp] theorem startDetect_core (s : State) : (startDetect s).core = s.core := by
  unfold startDetect
  dsimp only
  simp only [flush_core, portChanged_core, sendTrain_core, onLanes_core, State.core_onLink, emptyLink_core, State.core_ite, ite_self]
@[simp] theorem endAttempt_core (s : State) : (endAttempt s).core = s.core := by
  simp only [endAttempt, startDetect_core, State.core_onLink, State.core_ite, ite_self]
@[simp] theorem resendAll_core (s : State) : (resendAll s).core = s.core := by
  rfl
@[simp] theorem enterRecovery_core (s : State) : (enterRecovery s).core = s.core := by
  simp only [enterRecovery, portChanged_core, sendTrain_core, onLanes_core, State.core_onLink]
@[simp] theorem sendUp_core (m : BitVec 4) (s : State) : (sendUp m s).core = s.core := by
  simp only [sendUp, sendTrain_core, State.core_onLink, State.core_ite, ite_self]
@[simp] theorem tryUp_core (s : State) : (tryUp s).core = s.core := by
  simp only [tryUp, sendUp_core, State.core_ite, ite_self]
@[simp] theorem replay_core (s : State) : (replay s).core = s.core := by
  simp only [replay, enterRecovery_core, record_core, resendAll_core, State.core_onLink, State.core_ite, ite_self]
@[simp] theorem enterLinkUp_core (s : State) : (enterLinkUp s).core = s.core := by
  simp only [enterLinkUp, sendCredits_core, sendTrain_core, onLanes_core, useSet_core, State.core_onLink]
@[simp] theorem tryLinkUp_core (s : State) : (tryLinkUp s).core = s.core := by
  simp only [tryLinkUp, enterLinkUp_core, State.core_ite, ite_self]
@[simp] theorem fallback_core (s : State) : (fallback s).core = s.core := by
  simp only [fallback, endAttempt_core, State.core_onLink, State.core_ite, ite_self]
@[simp] theorem tryAdapt_core (s : State) : (tryAdapt s).core = s.core := by
  simp only [tryAdapt, State.core_onLink, State.core_ite, ite_self]
@[simp] theorem trainRx_core (lane : Nat) (b : BitVec 64) (msg : Nat) (f : State → State) (s : State) (hf : ∀ x, (f x).core = x.core) :
    (trainRx lane b msg f s).core = s.core := by
  simp only [trainRx, hf, onLane_core, crcErr_core, State.core_ite, ite_self]
@[simp] theorem ctlRx_core (sub : Nat) (b : BitVec 64) (f : State → State) (s : State) (hf : ∀ x, (f x).core = x.core) :
    (ctlRx sub b f s).core = s.core := by
  simp only [ctlRx, hf, crcErr_core, State.core_ite, ite_self]
@[simp] theorem tsAdvEvent_core (lane : Nat) (b : BitVec 64) (s : State) : (tsAdvEvent lane b s).core = s.core := by
  unfold tsAdvEvent
  refine trainRx_core _ _ _ _ _ (fun x => ?_)
  (repeat' split) <;> simp only [onLane_core, sendTrain_core, State.core_onLink, State.core_ite, ite_self]
@[simp] theorem tsAckEvent_core (lane : Nat) (b : BitVec 64) (s : State) : (tsAckEvent lane b s).core = s.core := by
  unfold tsAckEvent
  refine trainRx_core _ _ _ _ _ (fun x => ?_)
  dsimp only
  simp only [onLanes_core, useSet_core, State.core_onLink, onLane_core, State.core_ite, ite_self]
@[simp] theorem speedReqEvent_core (lane : Nat) (b : BitVec 64) (s : State) : (speedReqEvent lane b s).core = s.core := by
  unfold speedReqEvent
  refine trainRx_core _ _ _ _ _ (fun x => ?_)
  dsimp only
  have h (g : Nat) (y : State) : (iter 17 (fun s => sendTrain 4 s.link.agreed s.link.agreed g s) y).core = y.core :=
    State.core_iter _ _ _ (fun z => sendTrain_core _ _ _ _ _)
  simp only [State.bump_core, endAttempt_core, record_core, sendTrain_core, tryAdapt_core, h, State.core_onLink, State.core_ite, ite_self]
@[simp] theorem tryRejoin_core (s : State) : (tryRejoin s).core = s.core := by
  simp only [tryRejoin, sendLinkctl_core, State.core_ite, ite_self]
@[simp] theorem eqDoneEvent_core (lane : Nat) (b : BitVec 64) (s : State) : (eqDoneEvent lane b s).core = s.core := by
  unfold eqDoneEvent
  refine trainRx_core _ _ _ _ _ (fun x => ?_)
  simp only [onLane_core, tryLinkUp_core, tryRejoin_core, State.core_ite, ite_self]
@[simp] theorem abortEvent_core (lane : Nat) (b : BitVec 64) (s : State) : (abortEvent lane b s).core = s.core := by
  unfold abortEvent
  refine trainRx_core _ _ _ _ _ (fun x => ?_)
  (repeat' split) <;> simp only [endAttempt_core]
@[simp] theorem stateTimeout_core (s : State) : (stateTimeout s).core = s.core := by
  unfold stateTimeout; (repeat' split) <;> simp
@[simp] theorem recoveryTimeoutEvent_core (s : State) : (recoveryTimeoutEvent s).core = s.core := by
  simp only [recoveryTimeoutEvent, record_core, startDetect_core, State.core_ite, ite_self]
@[simp] theorem refclkLossEvent_core (s : State) : (refclkLossEvent s).core = s.core := by
  simp only [refclkLossEvent, record_core, startDetect_core, timeBase_core, State.core_onLink, State.core_ite, ite_self]
@[simp] theorem refclkRestoreEvent_core (s : State) : (refclkRestoreEvent s).core = s.core := by
  simp only [refclkRestoreEvent, startDetect_core, timeBase_core, State.core_onLink, State.core_ite, ite_self]
@[simp] theorem countDrop_core (n : Nat) (s : State) : (countDrop n s).core = s.core := by
  simp only [countDrop, onLane_core, recordT_core, State.core_onLink, State.core_ite, ite_self]
@[simp] theorem switchTo_core (m act : BitVec 4) (s : State) : (switchTo m act s).core = s.core := by
  simp only [switchTo, flush_core, resendAll_core, useSet_core, sendRow_core, State.core_onLink]
@[simp] theorem lastLane_core (was : BitVec 4) (s : State) : (lastLane was s).core = s.core := by
  simp only [lastLane, enterRecovery_core, State.core_onLink]
@[simp] theorem dropLane_core (n : Nat) (s : State) : (dropLane n s).core = s.core := by
  simp only [dropLane, countDrop_core, lastLane_core, onLane_core, sendRow_core, State.core_onLink, State.core_ite, ite_self]
@[simp] theorem lockGain_core (n : Nat) (inv : Bool) (s : State) : (lockGain n inv s).core = s.core := by
  simp only [lockGain, tryUp_core, tryAdapt_core, onLane_core, State.core_ite, ite_self]
@[simp] theorem laneDropEvent_core (b : BitVec 64) (s : State) : (laneDropEvent b s).core = s.core := by
  unfold laneDropEvent
  refine ctlRx_core _ _ _ _ (fun x => ?_)
  dsimp only
  simp only [enterRecovery_core, switchTo_core, State.core_foldl _ _ _ (fun x a => countDrop_core a x), State.core_ite, ite_self]
@[simp] theorem laneSwitchEvent_core (b : BitVec 64) (s : State) : (laneSwitchEvent b s).core = s.core := by
  unfold laneSwitchEvent
  refine ctlRx_core _ _ _ _ (fun x => ?_)
  dsimp only
  simp only [enterRecovery_core, switchTo_core, onLanes_core, State.core_ite, ite_self]
@[simp] theorem laneSwitchTimeoutEvent_core (s : State) : (laneSwitchTimeoutEvent s).core = s.core := by
  simp only [laneSwitchTimeoutEvent, enterRecovery_core, record_core, State.core_ite, ite_self]
@[simp] theorem rejoinHoldEvent_core (n : Nat) (s : State) : (rejoinHoldEvent n s).core = s.core := by
  simp only [rejoinHoldEvent, onLane_core, tryRejoin_core, State.core_ite, ite_self]
@[simp] theorem rejoinEvent_core (b : BitVec 64) (s : State) : (rejoinEvent b s).core = s.core := by
  unfold rejoinEvent
  refine ctlRx_core _ _ _ _ (fun x => ?_)
  simp only [sendLinkctl_core, State.core_onLink, State.core_ite, ite_self]
@[simp] theorem rejoinAckEvent_core (b : BitVec 64) (s : State) : (rejoinAckEvent b s).core = s.core := by
  unfold rejoinAckEvent
  refine ctlRx_core _ _ _ _ (fun x => ?_)
  simp only [State.core_onLink, State.core_ite, ite_self]
@[simp] theorem alignEvent_core (n : Nat) (b : BitVec 64) (inTol : Bool) (s : State) : (alignEvent n b inTol s).core = s.core := by
  simp only [alignEvent, crcErr_core, dropLane_core, State.core_onLink, State.core_ite, ite_self]
@[simp] theorem sendAligns_core (s : State) : (sendAligns s).core = s.core := by
  unfold sendAligns; dsimp only
  rw [State.core_foldl _ _ _ (fun _ _ => sendCtrl_core _ _ _)]
  simp only [useSet_core, onLanes_core, State.core_onLink, State.core_ite, ite_self]
@[simp] theorem tickLink_core (s : State) : (tickLink s).core = s.core := by
  simp only [tickLink, sendAligns_core, State.core_onLink, State.core_ite, ite_self]
@[simp] theorem tick_core (s : State) : (tick s).core = s.core := by
  simp only [tick, tickLink_core, tickTime_core]
@[simp] theorem eyeMinimumEvent_core (n : Nat) (s : State) : (eyeMinimumEvent n s).core = s.core := by
  simp only [eyeMinimumEvent, onLane_core, sendTrain_core, tryLinkUp_core, tryUp_core, tryRejoin_core, State.core_onLink, State.core_ite, ite_self]
@[simp] theorem laneErrEvent_core (n gap : Nat) (s : State) : (laneErrEvent n gap s).core = s.core := by
  simp only [laneErrEvent, State.bump_core, onLane_core, dropLane_core, recordT_core, State.core_ite, ite_self]
@[simp] theorem linkViol_core (cls seq : Nat) (s : State) : (linkViol cls seq s).core = s.core := by
  rfl
@[simp] theorem returnCredits_core (pool units : Nat) (s : State) : (returnCredits pool units s).core = s.core := by
  simp only [returnCredits, sendCredit_core, State.core_onLink, State.core_ite, ite_self]
@[simp] theorem acceptSeq_core (s : State) : (acceptSeq s).core = s.core := by
  simp only [acceptSeq, sendAck_core, State.core_onLink, State.core_ite, ite_self]
@[simp] theorem linkRx_core (raw : Bytes) (s : State) : ((linkRx raw s).1).core = s.core := by
  unfold linkRx; dsimp only; (repeat' split) <;> simp only [linkRx, acceptSeq_core, crcErr_core, cvCheck_core, linkViol_core, record_core, returnCredits_core, sendAck_core, sendNak_core, violationLink_core, State.core_onLink, State.core_ite, ite_self]
@[simp] theorem releaseAcked_core (a : BitVec 16) (s : State) : (releaseAcked a s).core = s.core := by
  unfold releaseAcked; (try dsimp only); (repeat' split) <;> (first | (with_reducible rfl; done) | (simp only [releaseAcked, markDelivered_core, State.core_onLink, State.core_ite, ite_self, State.core_foldl]; done) | (refine (State.core_foldl _ _ _ ?_).trans ?_ <;> intros <;> (repeat' split) <;> simp only [releaseAcked, markDelivered_core, State.core_onLink, State.core_ite, ite_self, State.core_foldl]; done))
@[simp] theorem ackEvent_core (b : BitVec 64) (s : State) : (ackEvent b s).core = s.core := by
  unfold ackEvent
  refine ctlRx_core _ _ _ _ (fun x => ?_)
  simp only [releaseAcked_core, flush_core, State.core_ite, ite_self]
@[simp] theorem nakEvent_core (b : BitVec 64) (s : State) : (nakEvent b s).core = s.core := by
  unfold nakEvent
  refine ctlRx_core _ _ _ _ (fun x => ?_)
  simp only [releaseAcked_core, replay_core, flush_core, State.core_ite, ite_self]
@[simp] theorem ackDueEvent_core (s : State) : (ackDueEvent s).core = s.core := by
  simp only [ackDueEvent, sendAck_core, State.core_ite, ite_self]
@[simp] theorem creditRefreshEvent_core (s : State) : (creditRefreshEvent s).core = s.core := by
  simp only [creditRefreshEvent, sendCredits_core, State.core_ite, ite_self]
@[simp] theorem replayTimeoutEvent_core (s : State) : (replayTimeoutEvent s).core = s.core := by
  simp only [replayTimeoutEvent, flush_core, replay_core, State.core_ite, ite_self]
@[simp] theorem partialEvent_core (s : State) : (partialEvent s).core = s.core := by
  simp only [partialEvent, record_core, sendNak_core, State.core_ite, ite_self]
@[simp] theorem adaptWindow_core (n trans one runs : Nat) (s : State) : (adaptWindow n trans one runs s).core = s.core := by
  simp only [adaptWindow, onLane_core, State.core_onFreeIdx, State.core_ite, ite_self]
@[simp] theorem eyeMeasureEvent_core (hs ws : List Nat) (s : State) : (eyeMeasureEvent hs ws s).core = s.core := by
  unfold eyeMeasureEvent; (try dsimp only); (repeat' split) <;> (first | (with_reducible rfl; done) | (simp only [eyeMeasureEvent, onLane_core, record_core, State.core_ite, ite_self, State.core_foldl]; done) | (refine (State.core_foldl _ _ _ ?_).trans ?_ <;> intros <;> (repeat' split) <;> simp only [eyeMeasureEvent, onLane_core, record_core, State.core_ite, ite_self, State.core_foldl]; done))
@[simp] theorem linkEnableChanged_core (was now : Bool) (s : State) : (linkEnableChanged was now s).core = s.core := by
  simp only [linkEnableChanged, record_core, startDetect_core, State.core_ite, ite_self]
@[simp] theorem retrain_core (s : State) : (retrain s).core = s.core := by
  simp only [retrain, startDetect_core, State.core_ite, ite_self]
@[simp] theorem recover_core (s : State) : (recover s).core = s.core := by
  simp only [recover, enterRecovery_core, State.core_ite, ite_self]
@[simp] theorem unfenceLanes_core (m : BitVec 4) (s : State) : (unfenceLanes m s).core = s.core := by
  unfold unfenceLanes; (try dsimp only); (repeat' split) <;> (first | (with_reducible rfl; done) | (simp only [unfenceLanes, onLane_core, State.core_foldl]; done) | (refine (State.core_foldl _ _ _ ?_).trans ?_ <;> intros <;> (repeat' split) <;> simp only [unfenceLanes, onLane_core, State.core_foldl]; done))
@[simp] theorem exchReject_core (n : Nat) (s : State) : (exchReject n s).core = s.core := by
  simp only [exchReject, onTabor_core, record_core]
@[simp] theorem exchSent_core (n : Nat) (s : State) : (exchSent n s).core = s.core := by
  rfl
@[simp] theorem tsySync_core (n port : Nat) (m : Bytes) (replay : Bool) (s : State) : (tsySync n port m replay s).core = s.core := by
  unfold tsySync; dsimp only; (repeat' split) <;> simp only [tsySync, exchReject_core, onTabor_core, record_core, replay_core, State.core_ite, ite_self]
@[simp] theorem tsyFollowUp_core (n port : Nat) (m : Bytes) (replay : Bool) (s : State) : (tsyFollowUp n port m replay s).core = s.core := by
  unfold tsyFollowUp; (repeat' split) <;> simp only [tsyFollowUp, exchReject_core, exchSent_core, onTabor_core, replay_core, sendPkt_core, State.core_onCan, State.core_ite, ite_self]
@[simp] theorem acceptMaster_core (n : Nat) (mid : BitVec 16) (envex : Bool) (h : List (Int × Int × Int)) (s : State) : (acceptMaster n mid envex h s).core = s.core := by
  simp only [acceptMaster, correct_core, onTabor_core, record_core, State.core_ite, ite_self]
@[simp] theorem acceptExch_core (n : Nat) (e : Exch) (th : Int) (s : State) : (acceptExch n e th s).core = s.core := by
  unfold acceptExch; dsimp only; (repeat' split) <;> simp only [acceptExch, acceptMaster_core, correct_core, onTabor_core, updateF_core, State.core_ite, ite_self]
@[simp] theorem tsyDelayResp_core (n port : Nat) (m : Bytes) (replay : Bool) (s : State) : (tsyDelayResp n port m replay s).core = s.core := by
  unfold tsyDelayResp; split <;> simp only [tsyDelayResp, acceptExch_core, exchReject_core, replay_core, State.core_ite, ite_self]
@[simp] theorem exchangeTimeoutEvent_core (n : Nat) (s : State) : (exchangeTimeoutEvent n s).core = s.core := by
  simp only [exchangeTimeoutEvent, exchReject_core, State.core_ite, ite_self]
@[simp] theorem applyVled_core (s : State) : (applyVled s).core = s.core := by
  simp only [applyVled, State.core_onPwr, State.core_ite, ite_self]
@[simp] theorem applyVcore_core (s : State) : (applyVcore s).core = s.core := by
  rfl
@[simp] theorem digitalTakeover_core (s : State) : (digitalTakeover s).core = s.core := by
  simp only [digitalTakeover, State.core_onPwr, State.core_ite, ite_self]
@[simp] theorem phaseEvent_core (ma : Nat) (s : State) : (phaseEvent ma s).core = s.core := by
  simp only [phaseEvent, State.core_onPwr, State.core_ite, ite_self]
@[simp] theorem vledRegEvent_core (s : State) : (vledRegEvent s).core = s.core := by
  simp only [vledRegEvent, record_core, syncOwner_core, State.core_onPwr, State.core_ite, ite_self]
@[simp] theorem limpRegEvent_core (s : State) : (limpRegEvent s).core = s.core := by
  simp only [limpRegEvent, record_core, State.core_ite, ite_self]
@[simp] theorem vcoreRegEvent_core (s : State) : (vcoreRegEvent s).core = s.core := by
  simp only [vcoreRegEvent, record_core, State.core_ite, ite_self]
@[simp] theorem lphLowEvent_core (s : State) : (lphLowEvent s).core = s.core := by
  simp only [lphLowEvent, record_core, syncOwner_core, State.core_onSys, State.core_onPwr, State.core_ite, ite_self]
@[simp] theorem lphHighEvent_core (s : State) : (lphHighEvent s).core = s.core := by
  simp only [lphHighEvent, syncOwner_core, State.core_onSys, State.core_ite, ite_self]
@[simp] theorem litEntered_core (s : State) : (litEntered s).core = s.core := by
  rfl
@[simp] theorem vledBeat_core (heads : List (Option (BitVec 5))) (s : State) : (vledBeat heads s).core = s.core := by
  simp only [vledBeat, record_core, State.core_onPwr, State.core_ite, ite_self, State.core_foldl]
@[simp] theorem headShortEvent_core (segs : BitVec 8) (s : State) : (headShortEvent segs s).core = s.core := by
  unfold headShortEvent; (try dsimp only); (repeat' split) <;> (first | (with_reducible rfl; done) | (simp only [headShortEvent, State.bump_core, record_core, State.core_onPwr, State.core_ite, ite_self, State.core_foldl]; done) | (refine (State.core_foldl _ _ _ ?_).trans ?_ <;> intros <;> (repeat' split) <;> simp only [headShortEvent, State.bump_core, record_core, State.core_onPwr, State.core_ite, ite_self, State.core_foldl]; done))
@[simp] theorem pwrFrame_core (s : State) : (pwrFrame s).core = s.core := by
  rfl
@[simp] theorem pace_core (m : Nat) (overran : Bool) (s : State) : (pace m overran s).core = s.core := by
  simp only [pace, record_core, State.core_onPwr, State.core_ite, ite_self]
@[simp] theorem paceRaise_core (s : State) : (paceRaise s).core = s.core := by
  simp only [paceRaise, State.core_onPwr, State.core_ite, ite_self]
@[simp] theorem paceHoldEndEvent_core (s : State) : (paceHoldEndEvent s).core = s.core := by
  rfl
@[simp] theorem takeTemps_core (s : State) : ((takeTemps s).2).core = s.core := by
  simp only [takeTemps, State.core_onFreeIdx, State.core_ite, ite_self]
@[simp] theorem tjLimits_core (tjs : List Int) (s : State) : (tjLimits tjs s).core = s.core := by
  simp only [tjLimits, record_core, State.core_onPwr, State.core_ite, ite_self, State.core_foldl]
@[simp] theorem tempExclude_core (v : List (Int × Bool)) (s : State) : (tempExclude v s).core = s.core := by
  unfold tempExclude; (try dsimp only); (repeat' split) <;> (first | (with_reducible rfl; done) | (simp only [tempExclude, record_core, State.core_onPwr, State.core_foldl]; done) | (refine (State.core_foldl _ _ _ ?_).trans ?_ <;> intros <;> (repeat' split) <;> simp only [tempExclude, record_core, State.core_onPwr, State.core_foldl]; done))
@[simp] theorem derLatch_core (codes : List Byte) (s : State) : (derLatch codes s).core = s.core := by
  simp only [derLatch, State.core_onPwr, State.core_ite, ite_self, State.core_foldl]
@[simp] theorem derateBoundary_core (s : State) : (derateBoundary s).core = s.core := by
  simp only [derateBoundary, derLatch_core, record_core, takeTemps_core, tempExclude_core, tjLimits_core, State.core_onPwr, State.core_ite, ite_self]
@[simp] theorem disturbScan_core (space a n : Nat) (s : State) : (disturbScan space a n s).core = s.core := by
  unfold disturbScan; split <;> simp only [disturbScan, record_core, State.core_onCv, State.core_ite, ite_self]
@[simp] theorem abortScan_core (r : Res) (s : State) : (abortScan r s).core = s.core := by
  unfold abortScan; split <;> simp only [abortScan, cvEvent_core, finishAll_core, record_core, State.core_onCv]
@[simp] theorem touchDamper_core (old : List (BitVec 64) × List (BitVec 64) × Bool) (s : State) : (touchDamper old s).core = s.core := by
  simp only [touchDamper, startStillExit_core, State.core_ite, ite_self]
@[simp] theorem safeRequest_core (v : Nat) (s : State) : (safeRequest v s).core = s.core := by
  unfold safeRequest; split <;> simp only [safeRequest, addCause_core, record_core]
@[simp] theorem restartRefresh_core (s : State) : (restartRefresh s).core = s.core := by
  rfl
@[simp] theorem armRefresh_core (s : State) : (armRefresh s).core = s.core := by
  rfl
@[simp] theorem closePend_core (e : Pend) (s : State) : (closePend e s).core = s.core := by
  rfl
@[simp] theorem expirePend_core (e : Pend) (s : State) : (expirePend e s).core = s.core := by
  simp only [expirePend, addCause_core, closePend_core, record_core, State.core_onSafe]
@[simp] theorem supersede_core (seq : Word) (s : State) : (supersede seq s).core = s.core := by
  unfold supersede; (try dsimp only); (repeat' split) <;> (first | (with_reducible rfl; done) | (simp only [supersede, closePend_core, recordSafe_core, State.core_onSafe, State.core_foldl]; done) | (refine (State.core_foldl _ _ _ ?_).trans ?_ <;> intros <;> (repeat' split) <;> simp only [supersede, closePend_core, recordSafe_core, State.core_onSafe, State.core_foldl]; done))
@[simp] theorem clearByCount_core (s : State) : (clearByCount s).core = s.core := by
  simp only [clearByCount, clearCause_core, State.core_ite, ite_self]
@[simp] theorem verify_core (m : SmsgCopy) (dual : Bool) (s : State) : (verify m dual s).core = s.core := by
  unfold verify; split <;> simp only [verify, State.bump_core, clearByCount_core, clearCause_core, restartRefresh_core, safeRequest_core, supersede_core, State.core_onSafe, State.core_ite, ite_self]
@[simp] theorem openPend_core (m : SmsgCopy) (envex : Bool) (s : State) : (openPend m envex s).core = s.core := by
  unfold openPend; (repeat' split) <;> simp only [openPend, expirePend_core, safeRequest_core, State.core_onSafe, State.core_ite, ite_self]
@[simp] theorem mismatch_core (e : Pend) (m : SmsgCopy) (s : State) : (mismatch e m s).core = s.core := by
  simp only [mismatch, closePend_core, recordSafe_core, safeRequest_core, State.core_onSafe, State.core_ite, ite_self]
@[simp] theorem compareCopy_core (m : SmsgCopy) (envex : Bool) (s : State) : (compareCopy m envex s).core = s.core := by
  unfold compareCopy; (repeat' split) <;> simp only [compareCopy, closePend_core, mismatch_core, openPend_core, verify_core, State.core_onSafe, State.core_ite, ite_self]
@[simp] theorem skewTimeoutEvent_core (seq : Word) (s : State) : (skewTimeoutEvent seq s).core = s.core := by
  unfold skewTimeoutEvent; split <;> simp only [skewTimeoutEvent, expirePend_core]
@[simp] theorem refreshToEvent_core (s : State) : (refreshToEvent s).core = s.core := by
  simp only [refreshToEvent, addCause_core, record_core, State.core_ite, ite_self]
@[simp] theorem degLimitEvent_core (s : State) : (degLimitEvent s).core = s.core := by
  simp only [degLimitEvent, enterGong_core, record_core, State.core_ite, ite_self]
@[simp] theorem safeLightOn_core (s : State) : (safeLightOn s).core = s.core := by
  rfl
@[simp] theorem degradedAtLatch_core (s : State) : (degradedAtLatch s).core = s.core := by
  simp only [degradedAtLatch, enterState_core, State.core_ite, ite_self]
@[simp] theorem bodySafetyStatus_core (c : Ctx) (s : State) : ((bodySafetyStatus c s).1).core = s.core := by
  unfold bodySafetyStatus; split <;> simp only [bodySafetyStatus, didData_core, no_core, State.core_ite, ite_self]
@[simp] theorem syncStb_core (s : State) : (syncStb s).core = s.core := by
  rfl
@[simp] theorem reasmFail_core (id : Nat) (s : State) : (reasmFail id s).core = s.core := by
  simp only [reasmFail, State.bump_core, record_core, State.core_onCan]
@[simp] theorem fragmentRx_core (id : Nat) (data : Bytes) (s : State) : ((fragmentRx id data s).1).core = s.core := by
  unfold fragmentRx; dsimp only; (repeat' split) <;> simp only [fragmentRx, reasmFail_core, State.core_onCan, State.core_ite, ite_self]
@[simp] theorem reasmTimeoutEvent_core (id : Nat) (s : State) : (reasmTimeoutEvent id s).core = s.core := by
  simp only [reasmTimeoutEvent, reasmFail_core, State.core_ite, ite_self]
@[simp] theorem canTxCompleteEvent_core (s : State) : (canTxCompleteEvent s).core = s.core := by
  unfold canTxCompleteEvent; (repeat' split) <;> simp only [canTxCompleteEvent, exchSent_core, markDelivered_core, State.core_onCan, State.core_ite, ite_self]
@[simp] theorem txTimeoutEvent_core (s : State) : (txTimeoutEvent s).core = s.core := by
  unfold txTimeoutEvent; split <;> simp only [txTimeoutEvent, State.bump_core, record_core, State.core_onCan]
@[simp] theorem busOffEvent_core (s : State) : (busOffEvent s).core = s.core := by
  simp only [busOffEvent, record_core, State.core_onCan, State.core_ite, ite_self]
@[simp] theorem canErrorEvent_core (e : CanErr) (s : State) : (canErrorEvent e s).core = s.core := by
  simp only [canErrorEvent, busOffEvent_core, record_core, State.core_onCan, State.core_ite, ite_self]
@[simp] theorem busOffRecoveredEvent_core (s : State) : (busOffRecoveredEvent s).core = s.core := by
  simp only [busOffRecoveredEvent, flush_core, State.core_onCan, State.core_ite, ite_self]
@[simp] theorem onJob_core (f : Job → Job) (s : State) : (onJob f s).core = s.core := by
  rfl
@[simp] theorem issueBands_core (s : State) : (issueBands s).core = s.core := by
  rfl
@[simp] theorem loseLane_core (lane : Nat) (s : State) : (loseLane lane s).core = s.core := by
  simp only [loseLane, addCause_core, onJob_core, record_core, State.core_onCarl, State.core_ite, ite_self]
@[simp] theorem residueFault_core (lane band : Nat) (inj : Bool) (s : State) : (residueFault lane band inj s).core = s.core := by
  simp only [residueFault, State.bump_core, issueBands_core, loseLane_core, onJob_core, record_core]
@[simp] theorem unfenceLane_core (lane : Nat) (bad : Bool) (s : State) : (unfenceLane lane bad s).core = s.core := by
  simp only [unfenceLane, record_core, State.core_onCarl, State.core_ite, ite_self]
@[simp] theorem wbUpRow_core (s : State) : (wbUpRow s).core = s.core := by
  unfold wbUpRow; (repeat' split) <;> simp only [wbUpRow, State.bump_core, flush_core, onJob_core, queuePkt_core, State.core_onCarl, State.core_ite, ite_self]
@[simp] theorem eccCorrected_core (n b src reg : Nat) (s : State) : (eccCorrected n b src reg s).core = s.core := by
  unfold eccCorrected; rw [State.core_iter _ _ _ (fun x => record_core b src noUnit x), State.bump_core]
@[simp] theorem fcMark_core (s : State) : (fcMark s).core = s.core := by
  unfold fcMark; (repeat' split) <;> simp only [State.core_onCarl]
@[simp] theorem bandCe_core (j : Job) (o : BandObs) (s : State) : (bandCe j o s).core = s.core := by
  simp only [bandCe, eccCorrected_core]
@[simp] theorem composedAll_core (j : Job) (s : State) : (composedAll j s).core = s.core := by
  simp only [composedAll, State.bump_core, State.core_onCarl, State.core_ite, ite_self]
@[simp] theorem fcLatch_core (s : State) : (fcLatch s).core = s.core := by
  rfl
@[simp] theorem auditReject_core (e : Nat × Nat × BitVec 12 × Nat) (inj : Bool) (s : State) : (auditReject e inj s).core = s.core := by
  simp only [auditReject, onJob_core, record_core, State.core_onSafe]
@[simp] theorem writeBank_core (bank : Bool) (band : Nat) (ws : List (BitVec 12)) (s : State) : (writeBank bank band ws s).core = s.core := by
  simp only [writeBank, State.core_onPix, State.core_foldl]
@[simp] theorem demands_core (j : Job) (s : State) : (demands j s).core = s.core := by
  rfl
@[simp] theorem frameConflicts_core (j : Job) (s : State) : (frameConflicts j s).core = s.core := by
  unfold frameConflicts
  cases hc : j.conflict <;> cases hd : j.floorDerate <;> simp only [record_core, State.bump_core, State.core_onPix]
@[simp] theorem framePace_core (us : Nat) (overran : Bool) (s : State) : (framePace us overran s).core = s.core := by
  simp only [framePace, pace_core, State.core_onCarl, State.core_ite, ite_self]
@[simp] theorem gainRebuildDoneEvent_core (s : State) : (gainRebuildDoneEvent s).core = s.core := by
  simp only [gainRebuildDoneEvent, State.core_onPix, State.core_ite, ite_self]
@[simp] theorem gainSwap_core (s : State) : (gainSwap s).core = s.core := by
  simp only [gainSwap, State.core_onPix, State.core_ite, ite_self]
@[simp] theorem bodyFrameRecordGet_core (c : Ctx) (s : State) : ((bodyFrameRecordGet c s).1).core = s.core := by
  unfold bodyFrameRecordGet; dsimp only; (repeat' split) <;> simp only [bodyFrameRecordGet, didData_core, no_core, State.core_ite, ite_self]
@[simp] theorem bodyFloorGet_core (c : Ctx) (s : State) : ((bodyFloorGet c s).1).core = s.core := by
  unfold bodyFloorGet; dsimp only; (repeat' split) <;> simp only [bodyFloorGet, didData_core, no_core, State.core_ite, ite_self]
@[simp] theorem requestCut_core (seg x : Nat) (s : State) : (requestCut seg x s).core = s.core := by
  simp only [requestCut, record_core, State.core_onMal, State.core_ite, ite_self]
@[simp] theorem pixelRecord_core (kind cls px code sample : Nat) (s : State) : (pixelRecord kind cls px code sample s).core = s.core := by
  simp only [pixelRecord, logItem_core, State.core_onClap, State.core_ite, ite_self]
@[simp] theorem touchTile_core (px : Nat) (s : State) : (touchTile px s).core = s.core := by
  rfl
@[simp] theorem confirmPx_core (cls px code sample : Nat) (cut : Bool) (s : State) : (confirmPx cls px code sample cut s).core = s.core := by
  simp only [confirmPx, pixelRecord_core, record_core, requestCut_core, touchTile_core, State.core_onSense, State.core_ite, ite_self]
@[simp] theorem normalPx_core (cls px code sample : Nat) (s : State) : (normalPx cls px code sample s).core = s.core := by
  simp only [normalPx, pixelRecord_core, touchTile_core, State.core_onSense, State.core_ite, ite_self]
@[simp] theorem takeSample_core (m : Meas) (cls : Nat) (s : State) : (takeSample m cls s).core = s.core := by
  simp only [takeSample, State.core_onSense, State.core_ite, ite_self]
@[simp] theorem applyMeas_core (m : Meas) (s : State) : (applyMeas m s).core = s.core := by
  simp only [applyMeas, confirmPx_core, normalPx_core, takeSample_core, State.core_onSense, State.core_ite, ite_self]
@[simp] theorem applyRow_core (seg : Nat) (ms : List Meas) (s : State) : (applyRow seg ms s).core = s.core := by
  unfold applyRow; (try dsimp only); (repeat' split) <;> (first | (with_reducible rfl; done) | (simp only [applyRow, applyMeas_core, record_core, State.core_ite, ite_self, State.core_foldl]; done) | (refine (State.core_foldl _ _ _ ?_).trans ?_ <;> intros <;> (repeat' split) <;> simp only [applyRow, applyMeas_core, record_core, State.core_ite, ite_self, State.core_foldl]; done))
@[simp] theorem onSlice_core (i : Nat) (f : Slice → Slice) (s : State) : (onSlice i f s).core = s.core := by
  rfl
@[simp] theorem fenceSlice_core (i : Nat) (s : State) : (fenceSlice i s).core = s.core := by
  simp only [fenceSlice, record_core, State.core_onSense, State.core_ite, ite_self]
@[simp] theorem sliceResid_core (i : Nat) (s : State) : (sliceResid i s).core = s.core := by
  simp only [sliceResid, fenceSlice_core, recordT_core, State.core_ite, ite_self]
@[simp] theorem fenceSpare_core (s : State) : (fenceSpare s).core = s.core := by
  simp only [fenceSpare, record_core, State.core_onSense]
@[simp] theorem unfenceSlice_core (i : Nat) (bad : Bool) (s : State) : (unfenceSlice i bad s).core = s.core := by
  simp only [unfenceSlice, State.core_onSense, State.core_ite, ite_self]
@[simp] theorem senseCaptureEvent_core (strobe comply : List (BitVec 1536)) (s : State) : (senseCaptureEvent strobe comply s).core = s.core := by
  simp only [senseCaptureEvent, State.core_onSense, State.core_ite, ite_self]
@[simp] theorem rollUe_core (n : Nat) (s : State) : (rollUe n s).core = s.core := by
  simp only [rollUe, record_core, State.core_onSense, State.core_ite, ite_self]
@[simp] theorem rollClassifyEvent_core (codes : List (List Nat)) (refs ue : List Nat) (s : State) :
    (rollClassifyEvent codes refs ue s).core = s.core := by
  simp [rollClassifyEvent]
@[simp] theorem latchFault_core (px : Nat) (above : Bool) (s : State) : (latchFault px above s).core = s.core := by
  simp only [latchFault, confirmPx_core, State.core_onSense, State.core_ite, ite_self]
@[simp] theorem latchRoll_core (s : State) : (latchRoll s).core = s.core := by
  unfold latchRoll
  dsimp only
  rw [State.core_onSense, State.core_foldl _ _ _ (fun x a => by simp only [State.core_onSense])]
  exact State.core_foldl _ _ _ (fun x a => by simp only [normalPx_core])
@[simp] theorem rollEnd_core (n : Nat) (s : State) : (rollEnd n s).core = s.core := by
  simp only [rollEnd, latchRoll_core, State.core_onClap, State.core_onSense, State.core_ite, ite_self, State.core_foldl]
@[simp] theorem senseRoll_core (s : State) : (senseRoll s).core = s.core := by
  simp only [senseRoll, rollEnd_core, State.core_ite, ite_self]
@[simp] theorem senseLatch_core (s : State) : (senseLatch s).core = s.core := by
  rfl
@[simp] theorem senseBeat_core (s : State) : (senseBeat s).core = s.core := by
  unfold senseBeat; dsimp only
  split
  · rfl
  · rw [State.core_onSense]
    split <;> simp only [senseLatch_core, onSlice_core, State.core_onSense]
@[simp] theorem senseTouch_core (seg y n : Nat) (change : BitVec 1536) (s : State) : (senseTouch seg y n change s).core = s.core := by
  simp only [senseTouch, State.core_onSense, State.core_ite, ite_self]
@[simp] theorem discardSlice_core (i : Nat) (s : State) : (discardSlice i s).core = s.core := by
  rfl
@[simp] theorem spareBeat_core (i : Nat) (b : SpareBeat) (a : State × Option (List (Nat × Nat))) : (spareBeat i b a).1.core = a.1.core := by
  obtain ⟨s, _ | ps⟩ := a
  · rfl
  · unfold spareBeat; dsimp only; (repeat' split) <;> simp only [fenceSpare_core, onSlice_core]
@[simp] theorem sliceFit_core (beats : List SpareBeat) (s : State) : ((sliceFit beats s).1).core = s.core := by
  have h : (beats.foldl (fun a b => spareBeat s.sense.spareOn b a) (s, some [])).1.core = s.core :=
    foldl_keeps (fun a : State × Option (List (Nat × Nat)) => a.1.core) _ (fun a b => spareBeat_core _ b a) beats (s, some [])
  unfold sliceFit; dsimp only
  generalize beats.foldl (fun a b => spareBeat s.sense.spareOn b a) (s, some []) = r at h ⊢
  obtain ⟨t, _ | ps⟩ := r
  · exact h
  · dsimp only at h ⊢
    (repeat' split) <;> simp only [discardSlice_core, onSlice_core, sliceResid_core, State.core_onSense, h]
@[simp] theorem bodyRollMapRead_core (c : Ctx) (s : State) : ((bodyRollMapRead c s).1).core = s.core := by
  unfold bodyRollMapRead; dsimp only; (repeat' split) <;> simp only [bodyRollMapRead, didData_core, no_core, State.core_ite, ite_self]
@[simp] theorem hkNext_core (q : List (BitVec 64)) (s : State) : (hkNext q s).core = s.core := by
  rfl
@[simp] theorem bodyHkSeqSet_core (c : Ctx) (s : State) : ((bodyHkSeqSet c s).1).core = s.core := by
  unfold bodyHkSeqSet; dsimp only; (repeat' split) <;> simp only [bodyHkSeqSet, did_core, hkNext_core, no_core, State.core_ite, ite_self]
@[simp] theorem limitResult_core (e : Nat) (ent : BitVec 64) (v : Int) (sat inj : Bool) (s : State) : (limitResult e ent v sat inj s).core = s.core := by
  simp only [limitResult, record_core, State.core_onHk, State.core_ite, ite_self]
@[simp] theorem hkSelfCal_core (s : State) : (hkSelfCal s).core = s.core := by
  simp only [hkSelfCal, record_core, State.core_onHk, State.core_ite, ite_self]
@[simp] theorem hkConvert_core (e : Nat) (ent : BitVec 64) (w : Nat) (s : State) : (hkConvert e ent w s).core = s.core := by
  simp only [hkConvert, hkSelfCal_core, limitResult_core, record_core, State.core_onHk, State.core_ite, ite_self]
@[simp] theorem hkStart_core (s : State) : (hkStart s).core = s.core := by
  unfold hkStart; dsimp only; (repeat' split) <;> simp only [hkStart, onFlts_core, State.core_onHk]
@[simp] theorem hkRepetition_core (codes : List Nat) (s : State) : (hkRepetition codes s).core = s.core := by
  unfold hkRepetition; (try dsimp only); (repeat' split) <;> (first | (with_reducible rfl; done) | (simp only [hkRepetition, hkConvert_core, hkStart_core, State.core_onHk, State.core_ite, ite_self, State.core_foldl]; done) | (refine (State.core_foldl _ _ _ ?_).trans ?_ <;> intros <;> (repeat' split) <;> simp only [hkRepetition, hkConvert_core, hkStart_core, State.core_onHk, State.core_ite, ite_self, State.core_foldl]; done))
@[simp] theorem hkBeat_core (s : State) : (hkBeat s).core = s.core := by
  rfl
@[simp] theorem budgetSeg_core (n : Nat) (x : Nat × Nat × Nat × Bool) (s : State) : (budgetSeg n x s).core = s.core := by
  simp only [budgetSeg, recordSafe_core, State.core_onSafe, State.core_ite, ite_self]
@[simp] theorem lightBudgetEvent_core (s : State) : (lightBudgetEvent s).core = s.core := by
  unfold lightBudgetEvent; (try dsimp only); (repeat' split) <;> (first | (with_reducible rfl; done) | (simp only [lightBudgetEvent, budgetSeg_core, clearCause_core, State.core_onHk, State.core_onSafe, State.core_ite, ite_self, State.core_foldl]; done) | (refine (State.core_foldl _ _ _ ?_).trans ?_ <;> intros <;> (repeat' split) <;> simp only [lightBudgetEvent, budgetSeg_core, clearCause_core, State.core_onHk, State.core_onSafe, State.core_ite, ite_self, State.core_foldl]; done))
@[simp] theorem onMallet_core (m : Nat) (f : MalletSt → MalletSt) (s : State) : (onMallet m f s).core = s.core := by
  rfl
@[simp] theorem showGong_core (segs : BitVec 8) (s : State) : (showGong segs s).core = s.core := by
  simp only [showGong, syncOwner_core, State.core_onMal]
@[simp] theorem connectSpare_core (seg cause : Nat) (hold : Bool) (s : State) : (connectSpare seg cause hold s).core = s.core := by
  unfold connectSpare; split <;> simp only [connectSpare, record_core, State.core_onMal, State.core_ite, ite_self]
@[simp] theorem detect_core (seg src : Nat) (inj hold : Bool) (s : State) : (detect seg src inj hold s).core = s.core := by
  simp only [detect, connectSpare_core, record_core]
@[simp] theorem putLatch_core (seg y n : Nat) (data : List (Nat × BitVec 1536)) (good : Bool) (s : State) : (putLatch seg y n data good s).core = s.core := by
  simp only [putLatch, record_core, senseTouch_core, State.core_onMal, State.core_onFreeIdx, State.core_ite, ite_self, State.core_foldl]
@[simp] theorem parityFault_core (m seg : Nat) (s : State) : (parityFault m seg s).core = s.core := by
  simp only [parityFault, detect_core, onMallet_core, record_core, State.core_ite, ite_self]
@[simp] theorem shadowCheck_core (seg : Nat) (shadowOk : Bool) (s : State) : (shadowCheck seg shadowOk s).core = s.core := by
  simp only [shadowCheck, dropStim_core, record_core, State.core_onMal, State.core_ite, ite_self]
@[simp] theorem deadlineMiss_core (m seg y k : Nat) (s : State) : (deadlineMiss m seg y k s).core = s.core := by
  simp only [deadlineMiss, State.bump_core, paceRaise_core, recordT_core, State.core_onMal, State.core_ite, ite_self]
@[simp] theorem bankUnread_core (s : State) : (bankUnread s).core = s.core := by
  unfold bankUnread; (repeat' split) <;> simp only [startStillExit_core, issueBands_core, State.core_onCarl, State.core_onPix]
@[simp] theorem writeRow_core (m seg n e : Nat) (o : RowObs) (s : State) : (writeRow m seg n e o s).core = s.core := by
  simp only [writeRow, bankUnread_core, eccCorrected_core, State.freeNext_core, deadlineMiss_core, dropStim_core, onMallet_core, parityFault_core, putLatch_core, record_core, shadowCheck_core, startStillExit_core, State.core_onMal, State.core_ite, ite_self]
@[simp] theorem rowWriteEvent_core (m n : Nat) (o : RowObs) (s : State) : (rowWriteEvent m n o s).core = s.core := by
  unfold rowWriteEvent; split <;> simp only [rowWriteEvent, detect_core, writeRow_core, State.core_onMal, State.core_ite, ite_self]
@[simp] theorem strikeEvent_core (s : State) : (strikeEvent s).core = s.core := by
  unfold strikeEvent; (try dsimp only); (repeat' split) <;> (first | (with_reducible rfl; done) | (simp only [strikeEvent, detect_core, dropStim_core, record_core, State.core_onMal, State.core_ite, ite_self, State.core_foldl]; done) | (refine (State.core_foldl _ _ _ ?_).trans ?_ <;> intros <;> (repeat' split) <;> simp only [strikeEvent, detect_core, dropStim_core, record_core, State.core_onMal, State.core_ite, ite_self, State.core_foldl]; done))
@[simp] theorem hangWatchEvent_core (m : Nat) (s : State) : (hangWatchEvent m s).core = s.core := by
  unfold hangWatchEvent; split <;> simp only [hangWatchEvent, detect_core, dropStim_core, State.core_ite, ite_self]
@[simp] theorem timerExpire_core (n : Nat) (s : State) : (timerExpire n s).core = s.core := by
  simp only [timerExpire, dropStim_core, record_core, showGong_core, State.core_onMal]
@[simp] theorem gongTimerEvent_core (segs : BitVec 8) (s : State) : (gongTimerEvent segs s).core = s.core := by
  have h : ∀ l : List Nat, (l.foldl (fun s n => timerExpire n s) s).core = s.core :=
    fun l => State.core_foldl _ _ _ (fun x a => by simp only [timerExpire_core])
  unfold gongTimerEvent
  dsimp only
  split
  · rfl
  · split
    · exact h _
    · split <;> simp only [connectSpare_core, enterGong_core, h]
    · simp only [record_core, enterGong_core, h]
@[simp] theorem rowConfirmed_core (seg m : Nat) (s : State) : (rowConfirmed seg m s).core = s.core := by
  simp only [rowConfirmed, detect_core, record_core, showGong_core, State.core_ite, ite_self]
@[simp] theorem readRow_core (seg y : Nat) (again : Bool) (dev : List (Nat × BitVec 3)) (s : State) : (readRow seg y again dev s).core = s.core := by
  unfold readRow; (try dsimp only); (repeat' split) <;> (first | (with_reducible rfl; done) | (simp only [readRow, State.bump_core, latchFault_core, record_core, rowConfirmed_core, State.core_onMal, State.core_ite, ite_self, State.core_foldl]; done) | (refine (State.core_foldl _ _ _ ?_).trans ?_ <;> intros <;> (repeat' split) <;> simp only [readRow, State.bump_core, latchFault_core, record_core, rowConfirmed_core, State.core_onMal, State.core_ite, ite_self, State.core_foldl]; done))
@[simp] theorem latchReadbackEvent_core (seg j : Nat) (dev0 dev1 : List (Nat × BitVec 3)) (s : State) : (latchReadbackEvent seg j dev0 dev1 s).core = s.core := by
  unfold latchReadbackEvent; (try dsimp only); (repeat' split) <;> (first | (with_reducible rfl; done) | (simp only [latchReadbackEvent, readRow_core, State.core_onMal, State.core_ite, ite_self, State.core_foldl]; done) | (refine (State.core_foldl _ _ _ ?_).trans ?_ <;> intros <;> (repeat' split) <;> simp only [latchReadbackEvent, readRow_core, State.core_onMal, State.core_ite, ite_self, State.core_foldl]; done))
@[simp] theorem unfenceMallet_core (m : Nat) (bad : Bool) (s : State) : (unfenceMallet m bad s).core = s.core := by
  simp only [unfenceMallet, record_core, State.core_onMal, State.core_ite, ite_self]
@[simp] theorem releaseRepair_core (s : State) : (releaseRepair s).core = s.core := by
  rfl
@[simp] theorem beatStart_core (s : State) : (beatStart s).core = s.core := by
  rfl
@[simp] theorem startScan_core (s : State) : (startScan s).core = s.core := by
  rfl
@[simp] theorem enterLit_core (s : State) : (enterLit s).core = s.core := by
  simp only [enterLit, enterState_core, litEntered_core, State.core_ite, ite_self]
@[simp] theorem stillBoundary_core (s : State) : (stillBoundary s).core = s.core := by
  simp only [stillBoundary, record_core, startStillExit_core, State.core_onMal, State.core_ite, ite_self]
@[simp] theorem budgetSnap_core (s : State) : (budgetSnap s).core = s.core := by
  simp only [budgetSnap, State.core_onMal, State.core_onSafe, State.core_ite, ite_self]
@[simp] theorem firstShown_core (s : State) : (firstShown s).core = s.core := by
  simp only [firstShown, armRefresh_core, enterLit_core, finishAll_core, startScan_core, State.core_onMal, State.core_ite, ite_self]
@[simp] theorem enterStill_core (s : State) : (enterStill s).core = s.core := by
  simp only [enterStill, abortScan_core, enterState_core, State.core_onSys, State.core_onCarl, State.core_onPix, State.core_onMal, State.core_ite, ite_self]
@[simp] theorem stillTry_core (s : State) : (stillTry s).core = s.core := by
  unfold stillTry; split <;> simp only [stillTry, enterStill_core, finishLong_core, State.core_onClap, State.core_ite, ite_self]
@[simp] theorem stillDone_core (s : State) : (stillDone s).core = s.core := by
  simp only [stillDone, enterState_core, finishAll_core, litEntered_core, State.core_onMal, State.core_ite, ite_self]
@[simp] theorem setFrameCode_core (code : Nat) (s : State) : (setFrameCode code s).core = s.core := by
  simp only [setFrameCode, State.setReg_core, frameCfgChanged_core, State.core_ite, ite_self]
@[simp] theorem freshLight_core (s : State) : (freshLight s).core = s.core := by
  rfl
@[simp] theorem bodyLightOn_core (c : Ctx) (s : State) : ((bodyLightOn c s).1).core = s.core := by
  unfold bodyLightOn; dsimp only; (repeat' split) <;> simp only [bodyLightOn, enterLit_core, freshLight_core, litEntered_core, no_core, safeLightOn_core, setFrameCode_core, startScan_core, syncOwner_core, State.core_ite, ite_self]
@[simp] theorem bodyLightOff_core (c : Ctx) (s : State) : ((bodyLightOff c s).1).core = s.core := by
  unfold bodyLightOff; dsimp only; (repeat' split) <;> simp only [bodyLightOff, did_core, enterState_core, no_core, State.core_onSys, State.core_onCarl, State.core_onMal, State.core_ite, ite_self]
@[simp] theorem bodyStillEnter_core (c : Ctx) (s : State) : ((bodyStillEnter c s).1).core = s.core := by
  unfold bodyStillEnter; split <;> simp only [bodyStillEnter, no_core, State.core_ite, ite_self]
@[simp] theorem bodyStillExit_core (c : Ctx) (s : State) : ((bodyStillExit c s).1).core = s.core := by
  unfold bodyStillExit; split <;> simp only [bodyStillExit, no_core, startStillExit_core, State.core_ite, ite_self]
@[simp] theorem bodyGongEnter_core (c : Ctx) (s : State) : ((bodyGongEnter c s).1).core = s.core := by
  unfold bodyGongEnter; split <;> simp only [bodyGongEnter, did_core, enterGong_core, no_core, State.core_ite, ite_self]
@[simp] theorem clearStat_core (b : Nat) (mask : Word) (s : State) : (clearStat b mask s).core = s.core := by
  rfl
@[simp] theorem injectRecord_core (b src : Nat) (s : State) : (injectRecord b src s).core = s.core := by
  unfold injectRecord; dsimp only; (repeat' split) <;> simp only [State.core_onSafe, addCause_core, enterGong_core, paceRaise_core, recordSafe_core, recordT_core, record_core, syncOwner_core, State.core_onPwr, State.core_ite, ite_self]
@[simp] theorem injectStimulus_core (b src param : Nat) (s : State) : (injectStimulus b src param s).core = s.core := by
  simp [injectStimulus]
@[simp] theorem fltPut_core (b off : Nat) (v : Word) (s : State) : (fltPut b off v s).core = s.core := by
  unfold fltPut; split <;> simp only [fltPut, clearStat_core, injectRecord_core, injectStimulus_core, onFlts_core, State.core_ite, ite_self]
@[simp] theorem bodyFaultQuery_core (c : Ctx) (s : State) : ((bodyFaultQuery c s).1).core = s.core := by
  unfold bodyFaultQuery; dsimp only; (repeat' split) <;> simp only [bodyFaultQuery, answer_core, no_core, State.core_ite, ite_self]
@[simp] theorem bodyFaultClear_core (c : Ctx) (s : State) : ((bodyFaultClear c s).1).core = s.core := by
  unfold bodyFaultClear; dsimp only; (repeat' split) <;> simp only [bodyFaultClear, clearStat_core, didData_core, no_core, State.core_ite, ite_self]
@[simp] theorem appendLog_core (p : PassItem) (s : State) : (appendLog p s).core = s.core := by
  simp only [appendLog, touchMram_core, State.core_onClap, State.core_ite, ite_self]
@[simp] theorem closeWin_core (w : RateWin) (s : State) : (closeWin w s).core = s.core := by
  simp only [closeWin, appendLog_core, State.core_onClap, State.core_ite, ite_self]
@[simp] theorem putWin_core (old : Option RateWin) (w : RateWin) (s : State) : (putWin old w s).core = s.core := by
  rfl
@[simp] theorem logPass_core (p : PassItem) (s : State) : (logPass p s).core = s.core := by
  unfold logPass; (repeat' split) <;> simp only [logPass, appendLog_core, closeWin_core, putWin_core, State.core_ite, ite_self]
@[simp] theorem evtFault_core (e : FltEvent) (b : Nat) (s : State) : (evtFault e b s).core = s.core := by
  simp only [evtFault, postEvent_core, State.core_ite, ite_self]
@[simp] theorem logPassAll_core (s : State) : (logPassAll s).core = s.core := by
  unfold logPassAll; (try dsimp only); (repeat' split) <;> (first | (with_reducible rfl; done) | (simp only [logPassAll, evtFault_core, logPass_core, State.core_onFlt, State.core_onClap, State.core_ite, ite_self, State.core_foldl]; done) | (refine (State.core_foldl _ _ _ ?_).trans ?_ <;> intros <;> (repeat' split) <;> simp only [logPassAll, evtFault_core, logPass_core, State.core_onFlt, State.core_onClap, State.core_ite, ite_self, State.core_foldl]; done))
@[simp] theorem logCoalesce_core (blk kind src : Nat) (s : State) : (logCoalesce blk kind src s).core = s.core := by
  unfold logCoalesce; (repeat' split) <;> simp only [logCoalesce, closeWin_core, State.core_ite, ite_self]
@[simp] theorem bodyCalQuery_core (c : Ctx) (s : State) : ((bodyCalQuery c s).1).core = s.core := by
  unfold bodyCalQuery; dsimp only; (repeat' split) <;> simp only [bodyCalQuery, answer_core, no_core, State.core_ite, ite_self]
@[simp] theorem calDone_core (l : LongCmd) (result : Nat) (s : State) : (calDone l result s).core = s.core := by
  unfold calDone; split <;> simp only [calDone, finishLong_core]
@[simp] theorem calDoneAll_core (p : LongKind → Bool) (result : Nat) (s : State) : (calDoneAll p result s).core = s.core := by
  unfold calDoneAll; (try dsimp only); (repeat' split) <;> (first | (with_reducible rfl; done) | (simp only [calDoneAll, calDone_core, State.core_foldl]; done) | (refine (State.core_foldl _ _ _ ?_).trans ?_ <;> intros <;> (repeat' split) <;> simp only [calDoneAll, calDone_core, State.core_foldl]; done))
@[simp] theorem factorySlices_core (s : State) : (factorySlices s).core = s.core := by
  rfl
@[simp] theorem calBeat_core (before : State) (s : State) : (calBeat before s).core = s.core := by
  unfold calBeat; (repeat' split) <;> simp only [calBeat, calDoneAll_core, factorySlices_core, State.core_onClap, State.core_onSense, State.core_ite, ite_self]
@[simp] theorem sliceFitEvent_core (beats : List SpareBeat) (s : State) : (sliceFitEvent beats s).core = s.core := by
  simp only [sliceFitEvent, calDoneAll_core, sliceFit_core, State.core_ite, ite_self]
@[simp] theorem xtalEvent_core (ppb : Int) (s : State) : (xtalEvent ppb s).core = s.core := by
  simp only [xtalEvent, calDoneAll_core, xtalWindow_core, State.core_ite, ite_self]
@[simp] theorem calTimeout_core (unit : Nat) (s : State) : (calTimeout unit s).core = s.core := by
  unfold calTimeout
  split
  · rfl
  · rw [calDoneAll_core]
    exact State.core_foldl _ _ _ (fun x a => by
      split
      · split <;> simp only [State.core_onLink]
      · split <;> simp only [onSlice_core]
      · split <;> simp only [State.core_onHk]
      · rfl)
@[simp] theorem bodyCvResult_core (c : Ctx) (s : State) : ((bodyCvResult c s).1).core = s.core := by
  unfold bodyCvResult; dsimp only; (repeat' split) <;> simp only [bodyCvResult, answer_core, no_core, State.core_ite, ite_self]
@[simp] theorem bodyCvScan_core (c : Ctx) (s : State) : ((bodyCvScan c s).1).core = s.core := by
  unfold bodyCvScan; dsimp only; (repeat' split) <;> simp only [bodyCvScan, no_core, State.core_onCv, State.core_ite, ite_self]
@[simp] theorem scanDone_core (c : Scan) (bytes : Nat → Byte) (s : State) : (scanDone c bytes s).core = s.core := by
  simp only [scanDone, State.freeNext_core, cvEvent_core, finishAll_core, State.core_onCv, State.core_ite, ite_self]
@[simp] theorem tellScan_core (s : State) : (tellScan s).core = s.core := by
  unfold tellScan; split <;> simp only [tellScan, record_core, State.core_onCv, State.core_ite, ite_self]
@[simp] theorem rollback_core (r : Nat) (s : State) : (rollback r s).core = s.core := by
  simp only [rollback, record_core, State.core_ite, ite_self]
@[simp] theorem clearRc_core (a : Nat) (s : State) : (clearRc a s).core = s.core := by
  unfold clearRc; split <;> simp only [clearRc, State.setReg_core, State.core_ite, ite_self]
@[simp] theorem latchWord_core (a : Nat) (v : Word) (s : State) : (latchWord a v s).core = s.core := by
  rfl
@[simp] theorem unlatch_core (a : Nat) (s : State) : (unlatch a s).core = s.core := by
  rfl
@[simp] theorem readReg_core (a : Nat) (s : State) : ((readReg a s).1).core = s.core := by
  unfold readReg; dsimp only; (repeat' split) <;> simp only [readReg, clearRc_core, latchWord_core, unlatch_core, State.core_ite, ite_self]
@[simp] theorem bodyRegRead_core (c : Ctx) (s : State) : ((bodyRegRead c s).1).core = s.core := by
  unfold bodyRegRead
  dsimp only
  split
  · simp only [no_core]
  split
  · simp only [no_core]
  split
  · simp only [no_core]
  split
  · simp only [no_core]
  · split
    · simp only [no_core]
    · rw [didData_core, State.freeNext_core]
      exact foldl_keeps (fun x : State × Bytes => x.1.core) _ (fun x a => by simp only [readReg_core]) _ _
@[simp] theorem startBist_core (us : List BistUnit) (s : State) : (startBist us s).core = s.core := by
  rfl
@[simp] theorem carlUnfence_core (v : Word) (s : State) : (carlUnfence v s).core = s.core := by
  rfl
@[simp] theorem malletUnfence_core (v : Word) (s : State) : (malletUnfence v s).core = s.core := by
  rfl
@[simp] theorem sliceUnfence_core (v : Word) (s : State) : (sliceUnfence v s).core = s.core := by
  simp only [sliceUnfence, startBist_core, State.core_ite, ite_self]
@[simp] theorem linkCtrl_core (v : Word) (s : State) : (linkCtrl v s).core = s.core := by
  simp only [linkCtrl, recover_core, retrain_core, unfenceLanes_core, State.core_ite, ite_self]
@[simp] theorem pwrUnfence_core (s : State) : (pwrUnfence s).core = s.core := by
  simp only [pwrUnfence, syncOwner_core, State.core_onPwr]
@[simp] theorem pwrCtrl_core (v : Word) (s : State) : (pwrCtrl v s).core = s.core := by
  simp only [pwrCtrl, applyVcore_core, applyVled_core, pwrUnfence_core, State.core_ite, ite_self]
theorem hkApply_some {v : Word} {s t : State} (h : hkApply v s = some t) : t.core = s.core := by
  unfold hkApply at h
  dsimp only at h
  split at h
  · exact absurd h (by simp)
  · cases h; exact hkNext_core _ _
@[simp] theorem hkCtrl_core (v : Word) (s : State) : (hkCtrl v s).core = s.core := by
  unfold hkCtrl
  split
  · cases h : hkApply v s with
    | none => rfl
    | some t =>
      simp only [Option.getD_some]
      exact hkApply_some h
  · rfl
@[simp] theorem taborWord_core (n : Nat) (changed : Bool) (s : State) : (taborWord n changed s).core = s.core := by
  simp only [taborWord, taborCfgChanged_core, State.core_ite, ite_self]
@[simp] theorem bodyTableRead_core (c : Ctx) (s : State) : ((bodyTableRead c s).1).core = s.core := by
  unfold bodyTableRead; dsimp only; (repeat' split) <;> simp only [bodyTableRead, didData_core, no_core, State.core_onFreeIdx, State.core_ite, ite_self]
@[simp] theorem bodyLogRead_core (c : Ctx) (s : State) : ((bodyLogRead c s).1).core = s.core := by
  unfold bodyLogRead; dsimp only; (repeat' split) <;> simp only [bodyLogRead, answer_core, no_core, State.core_ite, ite_self]
@[simp] theorem bodyDumpRead_core (c : Ctx) (s : State) : ((bodyDumpRead c s).1).core = s.core := by
  unfold bodyDumpRead; dsimp only; (repeat' split) <;> simp only [bodyDumpRead, answer_core, no_core, State.core_ite, ite_self]
@[simp] theorem sampleStraps_core (st : Straps) (s : State) : (sampleStraps st s).core = s.core := by
  rfl
@[simp] theorem loadLimp_core (o : BootObs) (s : State) : (loadLimp o s).core = s.core := by
  simp only [loadLimp, record_core, State.core_onSys, State.core_onMal, State.core_ite, ite_self]
@[simp] theorem gongPoint_core (o : BootObs) (s : State) : (gongPoint o s).core = s.core := by
  simp only [gongPoint, enterState_core, gongLight_core, record_core, State.core_onSys, State.core_onMal, State.core_ite, ite_self]
@[simp] theorem chooseImage_core (s : State) : (chooseImage s).core = s.core := by
  simp only [chooseImage, record_core, rollback_core, State.core_onSys, State.core_ite, ite_self]
@[simp] theorem standbyBegin_core (s : State) : (standbyBegin s).core = s.core := by
  unfold standbyBegin
  split
  · rfl
  · dsimp only
    rw [State.core_onLink, enterState_core, State.core_onSys, State.core_onMal]
    have h1 : (logPassAll { abandonLight s with clap := { (abandonLight s).clap with restarting := false } }).core = s.core := by
      rw [logPassAll_core]; exact abandonLight_core s
    split
    · rw [postEvent_core, h1]
    · exact h1
@[simp] theorem limpLowEvent_core (held : Bool) (s : State) : (limpLowEvent held s).core = s.core := by
  simp only [limpLowEvent, enterGong_core, enterState_core, gongLight_core, State.core_onSys, State.core_ite, ite_self]
@[simp] theorem supplyEvent_core (w : Supply) (s : State) : (supplyEvent w s).core = s.core := by
  simp only [supplyEvent, syncOwner_core, State.core_onSys, State.core_ite, ite_self]
@[simp] theorem powerGoodEvent_core (d : Nat) (s : State) : (powerGoodEvent d s).core = s.core := by
  simp only [powerGoodEvent, stillDone_core, syncStb_core, State.core_onSys, State.core_ite, ite_self]
@[simp] theorem unfenceDone_core (fails : List BistUnit) (u : BistUnit) (s : State) : (unfenceDone fails u s).core = s.core := by
  unfold unfenceDone; split <;> simp only [unfenceDone, unfenceLane_core, unfenceMallet_core, unfenceSlice_core]
@[simp] theorem tapEvent_core (i : TapInstr) (s : State) : (tapEvent i s).core = s.core := by
  simp only [tapEvent, State.core_onSys, State.core_ite, ite_self]
@[simp] theorem spiOut_core (status : Byte) (out : Bytes) (s : State) : (spiOut status out s).core = s.core := by
  rfl
@[simp] theorem spiReadLen_core (s : State) : (spiReadLen s).core = s.core := by
  unfold spiReadLen; split <;> rfl
@[simp] theorem spiReadPkt_core (clocked : Nat) (s : State) : (spiReadPkt clocked s).core = s.core := by
  unfold spiReadPkt; dsimp only; (repeat' split) <;> simp only [spiReadPkt, markDelivered_core, spiOut_core, State.core_onSpi, State.core_ite, ite_self]
@[simp] theorem spiWrite_core (mosi : Bytes) (s : State) : ((spiWrite mosi s).1).core = s.core := by
  unfold spiWrite; dsimp only; (repeat' split) <;> simp only [spiWrite, spiOut_core, State.core_onSpi, State.core_ite, ite_self]
@[simp] theorem bodyNop_core (c : Ctx) (s : State) : ((bodyNop c s).1).core = s.core := by
  unfold bodyNop; split <;> simp only [bodyNop, did_core, no_core, State.core_ite, ite_self]
@[simp] theorem bodyPing_core (c : Ctx) (s : State) : ((bodyPing c s).1).core = s.core := by
  unfold bodyPing; split <;> simp only [bodyPing, didData_core, no_core, State.core_ite, ite_self]
@[simp] theorem bodyGetInfo_core (c : Ctx) (s : State) : ((bodyGetInfo c s).1).core = s.core := by
  unfold bodyGetInfo; split <;> simp only [bodyGetInfo, didData_core, no_core, State.core_ite, ite_self]
@[simp] theorem bodyResetWarm_core (c : Ctx) (s : State) : ((bodyResetWarm c s).1).core = s.core := by
  unfold bodyResetWarm; split <;> simp only [bodyResetWarm, no_core, State.core_ite, ite_self]
@[simp] theorem bodyEnterStandby_core (c : Ctx) (s : State) : ((bodyEnterStandby c s).1).core = s.core := by
  unfold bodyEnterStandby; split <;> simp only [bodyEnterStandby, no_core, State.core_ite, ite_self]
@[simp] theorem bodySetProfile_core (c : Ctx) (s : State) : ((bodySetProfile c s).1).core = s.core := by
  unfold bodySetProfile; (repeat' split) <;> simp only [bodySetProfile, no_core, State.core_ite, ite_self]
@[simp] theorem sendPending_core (c : Ctx) (s : State) : (sendPending c s).core = s.core := by
  exact State.core_eq (by simp) (by simp) (by simp) (by simp)
@[simp] theorem completeSilent_core (c : Ctx) (s : State) : (completeSilent c s).core = s.core := by
  unfold completeSilent; split <;> simp only [completeSilent, modEntry_core]
@[simp] theorem turnAway_core (p : CmdPkt) (status : Nat) (s : State) : (turnAway p status s).core = s.core := by
  simp only [turnAway, sendReply_core]
@[simp] theorem seqRefused_core (p : CmdPkt) (s : State) : (seqRefused p s).core = s.core := by
  unfold seqRefused; split <;> simp only [seqRefused, record_core, sendReply_core, turnAway_core, violation_core, State.core_ite, ite_self]
@[simp] theorem journal_core (p : CmdPkt) (s : State) : ((journal p s).1).core = s.core := by
  simp only [journal, touchLedger_core, State.core_onClap]
@[simp] theorem arrive_core (p : CmdPkt) (units : Nat) (s : State) : (arrive p units s).core = s.core := by
  rfl
@[simp] theorem cvInner_core (path : Path) (good : Bool) (s : State) : (cvInner path good s).core = s.core := by
  simp only [cvInner, State.bump_core, cvCheck_core, cvEvent_core, State.core_ite, ite_self]
@[simp] theorem rxCmd_core (path : Path) (units : Nat) (b : Bytes) (s : State) : (rxCmd path units b s).core = s.core := by
  unfold rxCmd; split <;> simp only [arrive_core, returnCredits_core, cvInner_core, postEvent_core, record_core, State.core_ite, ite_self]
@[simp] theorem rxSpi_core (mosi : Bytes) (s : State) : (rxSpi mosi s).core = s.core := by
  have h : (spiWrite mosi s).1.core = s.core := spiWrite_core mosi s
  unfold rxSpi
  split
  · rename_i s1 b heq; rw [heq] at h; rw [rxCmd_core]; exact h
  · rename_i s1 heq; rw [heq] at h; exact h

end Sys2Proof.Machine
end

