-- ==== Sys2Proof/Laws/Light.lean ====
section
/-!
SUPPORT. What a change of device state does to SYS and SAFE, and that a calm state settles as it is.
-/
namespace Sys2Proof.Machine

@[simp] theorem degTimer_safe (o n : DevState) (s : State) :
    (degTimer o n s).safe.setA = s.safe.setA ∧
    (degTimer o n s).safe.setB = s.safe.setB ∧
    (degTimer o n s).safe.disagree = s.safe.disagree ∧
    (degTimer o n s).safe.beamAdb = s.safe.beamAdb ∧
    (degTimer o n s).safe.pend = s.safe.pend ∧
    (degTimer o n s).safe.causes = s.safe.causes ∧
    (degTimer o n s).safe.seqOpen = s.safe.seqOpen ∧
    (degTimer o n s).safe.seqHigh = s.safe.seqHigh ∧
    (degTimer o n s).safe.dualDone = s.safe.dualDone ∧
    (degTimer o n s).safe.tVerified = s.safe.tVerified ∧
    (degTimer o n s).safe.tEpoch = s.safe.tEpoch ∧
    (degTimer o n s).safe.mmE = s.safe.mmE ∧
    (degTimer o n s).safe.mmC = s.safe.mmC ∧
    (degTimer o n s).safe.mmSeq = s.safe.mmSeq ∧
    (degTimer o n s).safe.cleanSkew = s.safe.cleanSkew ∧
    (degTimer o n s).safe.cleanMis = s.safe.cleanMis ∧
    (degTimer o n s).safe.lbClean = s.safe.lbClean ∧
    (degTimer o n s).safe.refreshAt = s.safe.refreshAt ∧
    (degTimer o n s).safe.auditPix = s.safe.auditPix ∧
    (degTimer o n s).safe.auditWord = s.safe.auditWord ∧
    (degTimer o n s).safe.lb = s.safe.lb ∧
    (degTimer o n s).safe.lbFailed = s.safe.lbFailed ∧
    (degTimer o n s).safe.lbSkipped = s.safe.lbSkipped ∧
    (degTimer o n s).safe.lbResid = s.safe.lbResid ∧
    (degTimer o n s).safe.lbFrame = s.safe.lbFrame ∧
    (degTimer o n s).safe.auditBad = s.safe.auditBad ∧
    (degTimer o n s).safe.refreshArmed = s.safe.refreshArmed := by
  unfold degTimer
  (repeat' split) <;> simp

/-- SYS after a change of device state (R82, R581). -/
@[simp] theorem enterState_sys (n : DevState) (s : State) : (enterState n s).sys =
    { s.sys with st := n, prev := s.sys.st, tap := if n = .gong ∨ n = .standby ∨ n = .service then .reset else s.sys.tap } := by
  unfold enterState
  dsimp only
  split <;> split <;> simp

@[simp] theorem enterState_safe (n : DevState) (s : State) :
    (enterState n s).safe.setA = s.safe.setA ∧
    (enterState n s).safe.setB = s.safe.setB ∧
    (enterState n s).safe.disagree = s.safe.disagree ∧
    (enterState n s).safe.beamAdb = s.safe.beamAdb ∧
    (enterState n s).safe.pend = s.safe.pend ∧
    (enterState n s).safe.causes = s.safe.causes ∧
    (enterState n s).safe.seqOpen = s.safe.seqOpen ∧
    (enterState n s).safe.seqHigh = s.safe.seqHigh ∧
    (enterState n s).safe.dualDone = s.safe.dualDone ∧
    (enterState n s).safe.tVerified = s.safe.tVerified ∧
    (enterState n s).safe.tEpoch = s.safe.tEpoch ∧
    (enterState n s).safe.mmE = s.safe.mmE ∧
    (enterState n s).safe.mmC = s.safe.mmC ∧
    (enterState n s).safe.mmSeq = s.safe.mmSeq ∧
    (enterState n s).safe.cleanSkew = s.safe.cleanSkew ∧
    (enterState n s).safe.cleanMis = s.safe.cleanMis ∧
    (enterState n s).safe.lbClean = s.safe.lbClean ∧
    (enterState n s).safe.refreshAt = s.safe.refreshAt ∧
    (enterState n s).safe.auditPix = s.safe.auditPix ∧
    (enterState n s).safe.auditWord = s.safe.auditWord ∧
    (enterState n s).safe.lb = s.safe.lb ∧
    (enterState n s).safe.lbFailed = s.safe.lbFailed ∧
    (enterState n s).safe.lbSkipped = s.safe.lbSkipped ∧
    (enterState n s).safe.lbResid = s.safe.lbResid ∧
    (enterState n s).safe.lbFrame = s.safe.lbFrame ∧
    (enterState n s).safe.auditBad = s.safe.auditBad := by
  unfold enterState
  dsimp only
  split <;> split <;> simp

/-- Storing the configuration changes MRAM, and a scan that it disturbs. -/
@[simp] theorem saveCfg_frame (f : CfgData → CfgData) (s : State) :
    (saveCfg f s).sys = s.sys ∧
    (saveCfg f s).flt = s.flt ∧
    (saveCfg f s).clap = s.clap ∧
    (saveCfg f s).link = s.link ∧
    (saveCfg f s).can = s.can ∧
    (saveCfg f s).tab = s.tab ∧
    (saveCfg f s).store = s.store ∧
    (saveCfg f s).carl = s.carl ∧
    (saveCfg f s).pix = s.pix ∧
    (saveCfg f s).mal = s.mal ∧
    (saveCfg f s).sense = s.sense ∧
    (saveCfg f s).hk = s.hk ∧
    (saveCfg f s).safe = s.safe ∧
    (saveCfg f s).pwr = s.pwr ∧
    (saveCfg f s).sec = s.sec ∧
    (saveCfg f s).spi = s.spi ∧
    (saveCfg f s).regs = s.regs ∧
    (saveCfg f s).latches = s.latches ∧
    (saveCfg f s).stims = s.stims ∧
    (saveCfg f s).freeIdx = s.freeIdx ∧
    (saveCfg f s).pending = s.pending := by
  unfold saveCfg
  simp

theorem storeTabs_store (lseq : Word) (gens : List OpenGen) (custom : Bool) (s : State) : (storeTabs lseq gens custom s).store = s.store := by
  unfold storeTabs
  dsimp only
  have h : ∀ f : CfgData → CfgData, (saveCfg f s).store = s.store := by intro f; simp [saveCfg]
  repeat' split
  all_goals simp [h]

end Sys2Proof.Machine

namespace Sys2Proof

open Sys2Proof.Machine

theorem forN_same {α : Type} {f : Nat → α → α} {x : α} (hf : ∀ i, f i x = x) : ∀ n i, forN n i f x = x
  | 0, _ => rfl
  | n + 1, i => by rw [forN, hf, forN_same hf n]

theorem sweepBufs_same {s : State} (hn : ∀ b ∈ s.store.bufs, b.pendFree = false) : sweepBufs s = s := by
  have hb : ∀ i, (s.buf i).pendFree = false := by
    intro i
    unfold State.buf
    rcases h : s.store.bufs[i]? with _ | b
    · simp [List.getD, h, bufReset]
    · simp [List.getD, h]
      exact hn b (List.mem_of_getElem? h)
  unfold sweepBufs
  exact forN_same (fun i => by simp [hb]) _ _

/-- In a calm state nothing follows a command's effect. -/
theorem upkeep_calm {s : State} (hC : Calm s) : upkeep s = s := by
  have h1 : sweepBufs s = s := sweepBufs_same hC.noFree
  have h2 : calPoll s = s := by
    unfold calPoll
    rw [hC.noLong]
    split <;> rfl
  have h3 : tellScan s = s := by
    unfold tellScan
    rw [hC.noScan]
  unfold upkeep
  rw [h1, h2, h3]
  dsimp only
  rw [hC.noCold]
  rfl

/-- A calm state settles as it is. -/
theorem settle_calm {s : State} (hC : Calm s) : settle s = s := by
  rw [settle_idle hC.idle, upkeep_calm hC]

theorem follow_calm {s : State} (n : Nat) (hC : Calm s) : follow n s = s := by
  rw [follow_idle n hC.idle, upkeep_calm hC]

theorem touchMram_noScan (a n : Nat) {s : State} (h : s.cv.scan = none) : touchMram a n s = s := by
  unfold touchMram
  rw [h]

theorem modEntry_noScan (l : Word) (f : LedgerEntry → LedgerEntry) {s : State} (h : s.cv.scan = none) : (modEntry l f s).cv.scan = none := by
  unfold modEntry touchLedger
  rw [touchMram_noScan _ _ h]
  simpa using h

theorem sendReply_noScan (p : CmdPkt) (path : Path) (st : Nat) (d : BitVec 16) (data : Bytes) (r : Bool) (tag : TxTag) {s : State}
    (h : s.cv.scan = none) : (sendReply p path st d data r tag s).cv.scan = none := by
  unfold sendReply
  split
  · simpa using h
  · unfold markDelivered
    split
    · exact h
    · exact h
    · exact modEntry_noScan _ _ h

theorem finish0_noScan (c : Ctx) (r : Res) {s : State} (h : s.cv.scan = none) : (finish0 c r s).cv.scan = none := by
  unfold finish0
  refine sendReply_noScan _ _ _ _ _ _ _ ?_
  split
  · exact modEntry_noScan _ _ h
  · exact h

/-- A reply that is no ACCESS_VIOLATION leaves a calm state calm. -/
theorem finish_calm (c : Ctx) {r : Res} {s : State} (hr : r.status ≠ 0x14) (hC : Calm s) : Calm (finish c r s) := by
  have h1 : ∀ t : State, Calm t → Calm (finish0 c r t) := by
    intro t ht
    exact { idle := by simp [ht.idle], running := by simp [ht.running], free := by simp [ht.free], noCold := by simp [ht.noCold],
            noLong := by simp [ht.noLong], noScan := finish0_noScan c r ht.noScan, noFree := by simpa using ht.noFree }
  unfold finish
  dsimp only
  rw [if_neg hr]
  split
  · refine h1 _ ?_
    exact { idle := by simp [hC.idle], running := by simp [hC.running], free := by simp [logRefusal, logItem, hC.free], noCold := by simp [hC.noCold],
            noLong := by simp [hC.noLong], noScan := by simp [hC.noScan], noFree := by simpa using hC.noFree }
  · exact h1 _ hC

/-- Acceptance leaves a calm state calm. -/
theorem taken_calm (op : Nat) (h : CmdHdr) (ps : Bytes) {s : State} (hC : Calm s) : Calm (taken op h ps s) := by
  have hq : (takeSeq (pktOf op h ps s) s).cv.scan = none := by
    unfold takeSeq onSlot
    split <;> simpa using hC.noScan
  have hs : (taken op h ps s).cv.scan = none := by
    unfold taken journal
    split
    · rw [show (touchLedger (takeSeq (pktOf op h ps s) s)) = takeSeq (pktOf op h ps s) s from touchMram_noScan _ _ hq]
      simpa using hq
    · exact hq
  exact { idle := by simp [hC.idle], running := by simp [hC.running], free := by simp [hC.free], noCold := by simp [hC.noCold],
          noLong := by simp [hC.noLong], noScan := hs, noFree := by simpa using hC.noFree }

end Sys2Proof
end

