-- ==== Sys2Proof/Laws/Keeps.lean ====
section
/-!
SUPPORT. What every operation keeps: the queue of waiting commands as it is, the canonical forms and lengths of Sound, and the
anti-rollback state, which only grows (R540).
-/
namespace Sys2Proof.Machine

/-- From b on to s nothing that Sound says is lost, the waiting commands are the same, and anti-rollback has not gone back. -/
structure Keeps (b s : State) : Prop where
  pending : s.pending = b.pending
  store : spWf 0 b.store.mem = true → spWf 0 s.store.mem = true
  images : imgWf b.nvm.mem = true → imgWf s.nvm.mem = true
  commits : b.store.queue.length ≤ 4 → s.store.queue.length ≤ 4
  slots : s.sec.slots.length = b.sec.slots.length
  bufs : b.store.bufs.length = 256 → s.store.bufs.length = 256
  fences : b.store.fences.length = 64 → s.store.fences.length = 64
  svn : b.sec.minSvn.toNat ≤ s.sec.minSvn.toNat
  revoked : b.sec.revoked = true → s.sec.revoked = true

namespace Keeps

theorem rfl' {s : State} : Keeps s s := ⟨rfl, id, id, id, rfl, id, id, Nat.le_refl _, id⟩

theorem trans {a b c : State} (h : Keeps b c) (g : Keeps a b) : Keeps a c :=
  ⟨h.1.trans g.1, fun x => h.2 (g.2 x), fun x => h.3 (g.3 x), fun x => h.4 (g.4 x), h.5.trans g.5, fun x => h.6 (g.6 x), fun x => h.7 (g.7 x),
    Nat.le_trans g.8 h.8, fun x => h.9 (g.9 x)⟩

theorem of_core {b s t : State} (hc : t.core = s.core) (h : Keeps b s) : Keeps b t := by
  simp only [State.core, Prod.mk.injEq] at hc
  obtain ⟨h1, h2, h3, h4⟩ := hc
  exact ⟨h4.trans h.1, by rw [h1]; exact h.2, by rw [h2]; exact h.3, by rw [h1]; exact h.4, by rw [h3]; exact h.5, by rw [h1]; exact h.6,
    by rw [h1]; exact h.7, by rw [h3]; exact h.8, by rw [h3]; exact h.9⟩

theorem onStore {b s : State} (h : Keeps b s) (f : Store → Store) (h1 : (f s.store).mem = s.store.mem)
    (h2 : (f s.store).queue.length ≤ s.store.queue.length) (h3 : (f s.store).bufs.length = s.store.bufs.length)
    (h4 : (f s.store).fences.length = s.store.fences.length) : Keeps b (s.onStore f) :=
  ⟨h.1, fun x => by rw [State.onStore_store, h1]; exact h.2 x, h.3, fun x => by rw [State.onStore_store]; exact Nat.le_trans h2 (h.4 x), h.5,
    fun x => by rw [State.onStore_store, h3]; exact h.6 x, fun x => by rw [State.onStore_store, h4]; exact h.7 x, h.8, h.9⟩

theorem onNvm {b s : State} (h : Keeps b s) (f : Nvm → Nvm) (h1 : (f s.nvm).mem = s.nvm.mem) : Keeps b (s.onNvm f) :=
  ⟨h.1, h.2, fun x => by rw [State.onNvm_nvm, h1]; exact h.3 x, h.4, h.5, h.6, h.7, h.8, h.9⟩

theorem onSec {b s : State} (h : Keeps b s) (f : Sec → Sec) (h1 : (f s.sec).slots.length = s.sec.slots.length)
    (h2 : s.sec.minSvn.toNat ≤ (f s.sec).minSvn.toNat) (h3 : s.sec.revoked = true → (f s.sec).revoked = true) : Keeps b (s.onSec f) :=
  ⟨h.1, h.2, h.3, h.4, h1.trans h.5, h.6, h.7, Nat.le_trans h.8 h2, fun x => h3 (h.9 x)⟩

theorem foldl {α : Type} {b : State} (f : State → α → State) (hf : ∀ x a, Keeps b x → Keeps b (f x a)) (l : List α) {s : State}
    (h : Keeps b s) : Keeps b (l.foldl f s) := by
  induction l generalizing s with
  | nil => exact h
  | cons a l ih => exact ih (hf s a h)

theorem iter {b : State} (f : State → State) (hf : ∀ x, Keeps b x → Keeps b (f x)) (n : Nat) {s : State} (h : Keeps b s) :
    Keeps b (iter n f s) := by
  induction n generalizing s with
  | zero => exact h
  | succ n ih => exact ih (hf s h)

theorem forN {b : State} (f : Nat → State → State) (hf : ∀ i x, Keeps b x → Keeps b (f i x)) (n i : Nat) {s : State} (h : Keeps b s) :
    Keeps b (forN n i f s) := by
  induction n generalizing i s with
  | zero => exact h
  | succ n ih => exact ih (i + 1) (hf i s h)

end Keeps


theorem authFail_keeps {z : State} (path : Path) (kind slot : Nat) (s : State) (hk : Keeps z s) : Keeps z (authFail path kind slot s) := by
  unfold authFail
  (try dsimp only)
  repeat' first
    | with_reducible assumption
    | with_reducible refine Keeps.onSec ?_ _ rfl (Nat.le_refl _) id
    | with_reducible refine Keeps.of_core (State.bump_core _ _ _ _ _) ?_
    | with_reducible refine Keeps.of_core (record_core _ _ _ _) ?_
    | with_reducible refine Keeps.of_core (State.setReg_core _ _ _) ?_
    | split
theorem firstReady_keeps {z : State} (t : Word) (s : State) (hk : Keeps z s) : Keeps z (firstReady t s) := by
  unfold firstReady
  split
  · exact hk
  · dsimp only
    split
    · refine Keeps.onSec (Keeps.of_core (State.core_onSys _ _) hk) _ rfl ?_ ?_
      · dsimp only
        split
        · exact Nat.le_of_lt (by assumption)
        · exact Nat.le_refl _
      · intro hr
        dsimp only
        rw [hr]; rfl
    · exact Keeps.of_core (State.core_onSys _ _) hk
theorem toReady_keeps {z : State} (s : State) (hk : Keeps z s) : Keeps z (toReady s) := by
  unfold toReady
  (try dsimp only)
  repeat' first
    | with_reducible assumption
    | with_reducible refine firstReady_keeps _ _ ?_
    | with_reducible refine Keeps.of_core (enterState_core _ _) ?_
    | with_reducible refine Keeps.of_core (State.freeNext_core _) ?_
    | split
theorem bootReady_keeps {z : State} (s : State) (hk : Keeps z s) : Keeps z (bootReady s) := by
  unfold bootReady
  (try dsimp only)
  repeat' first
    | with_reducible assumption
    | with_reducible refine Keeps.of_core (State.core_onSys _ _) ?_
    | with_reducible refine firstReady_keeps _ _ ?_
    | with_reducible refine Keeps.of_core (enterState_core _ _) ?_
    | split
theorem saveCfg_keeps {z : State} (f : CfgData → CfgData) (s : State) (hk : Keeps z s) : Keeps z (saveCfg f s) := by
  unfold saveCfg
  (try dsimp only)
  repeat' first
    | with_reducible assumption
    | with_reducible refine Keeps.onNvm ?_ _ rfl
    | with_reducible refine Keeps.of_core (touchMram_core _ _ _) ?_
    | split
theorem storeReg_keeps {z : State} (a : Nat) (v : Word) (s : State) (hk : Keeps z s) : Keeps z (storeReg a v s) := by
  unfold storeReg
  (try dsimp only)
  repeat' first
    | with_reducible assumption
    | with_reducible refine saveCfg_keeps _ _ ?_
    | with_reducible refine Keeps.of_core (State.setReg_core _ _ _) ?_
    | split
theorem nextCalGen_keeps {z : State} (s : State) (hk : Keeps z s) : Keeps z (nextCalGen s) := by
  unfold nextCalGen
  (try dsimp only)
  repeat' first
    | with_reducible assumption
    | with_reducible refine saveCfg_keeps _ _ ?_
    | with_reducible refine Keeps.of_core (startRebuild_core _) ?_
    | split
theorem enterActive_keeps {z : State} (s : State) (hk : Keeps z s) : Keeps z (enterActive s) := by
  unfold enterActive
  (try dsimp only)
  repeat' first
    | with_reducible assumption
    | with_reducible refine Keeps.of_core (State.core_onClap _ _) ?_
    | with_reducible refine Keeps.of_core (State.core_onLink _ _) ?_
    | with_reducible refine bootReady_keeps _ ?_
    | with_reducible refine Keeps.of_core (flush_core _) ?_
    | with_reducible refine Keeps.of_core (portChanged_core _) ?_
    | with_reducible refine Keeps.of_core (postEvent_core _ _ _ _ _) ?_
    | with_reducible refine Keeps.of_core (postRec_core _ _ _ _ _ _) ?_
    | split
theorem tryActive_keeps {z : State} (s : State) (hk : Keeps z s) : Keeps z (tryActive s) := by
  unfold tryActive
  (try dsimp only)
  repeat' first
    | with_reducible assumption
    | with_reducible refine enterActive_keeps _ ?_
    | split
theorem trainRx_keeps {z : State} (lane : Nat) (b : BitVec 64) (msg : Nat) (f : State → State) (s : State)
    (hf : ∀ x, Keeps z x → Keeps z (f x)) (h : Keeps z s) : Keeps z (trainRx lane b msg f s) := by
  unfold trainRx
  split
  · exact h
  · split
    · exact Keeps.of_core (crcErr_core _) h
    · split
      · exact hf _ (Keeps.of_core (onLane_core _ _ _) h)
      · exact h
theorem ctlRx_keeps {z : State} (sub : Nat) (b : BitVec 64) (f : State → State) (s : State)
    (hf : ∀ x, Keeps z x → Keeps z (f x)) (h : Keeps z s) : Keeps z (ctlRx sub b f s) := by
  unfold ctlRx
  split
  · exact h
  · split
    · exact Keeps.of_core (crcErr_core _) h
    · split
      · exact hf _ h
      · exact h
theorem linkUpEvent_keeps {z : State} (lane : Nat) (b : BitVec 64) (s : State) (hk : Keeps z s) : Keeps z (linkUpEvent lane b s) := by
  unfold linkUpEvent
  refine trainRx_keeps _ _ _ _ _ (fun _ _ => ?_) hk
  (try dsimp only)
  repeat' first
    | with_reducible assumption
    | with_reducible refine Keeps.of_core (State.core_onLink _ _) ?_
    | with_reducible refine tryActive_keeps _ ?_
    | with_reducible refine Keeps.of_core (enterLinkUp_core _) ?_
    | with_reducible refine Keeps.of_core (flush_core _) ?_
    | with_reducible refine Keeps.of_core (portChanged_core _) ?_
    | with_reducible refine Keeps.of_core (resendAll_core _) ?_
    | with_reducible refine Keeps.of_core (onLanes_core _ _ _) ?_
    | with_reducible refine Keeps.of_core (sendUp_core _ _) ?_
    | with_reducible refine Keeps.of_core (useSet_core _ _) ?_
    | split
theorem attemptTimeoutEvent_keeps {z : State} (s : State) (hk : Keeps z s) : Keeps z (attemptTimeoutEvent s) := by
  unfold attemptTimeoutEvent
  (try dsimp only)
  repeat' first
    | with_reducible assumption
    | with_reducible refine Keeps.of_core (State.core_onLink _ _) ?_
    | with_reducible refine bootReady_keeps _ ?_
    | with_reducible refine Keeps.of_core (endAttempt_core _) ?_
    | split
theorem creditEvent_keeps {z : State} (b : BitVec 64) (s : State) (hk : Keeps z s) : Keeps z (creditEvent b s) := by
  unfold creditEvent
  refine ctlRx_keeps _ _ _ _ (fun _ _ => ?_) hk
  (try dsimp only)
  repeat' first
    | with_reducible assumption
    | with_reducible refine Keeps.of_core (State.core_onLink _ _) ?_
    | with_reducible refine tryActive_keeps _ ?_
    | with_reducible refine Keeps.of_core (crcErr_core _) ?_
    | with_reducible refine Keeps.of_core (flush_core _) ?_
    | split
theorem tsyMsg_keeps {z : State} (port : Nat) (m : Bytes) (replay : Bool) (s : State) (hk : Keeps z s) : Keeps z (tsyMsg port m replay s) := by
  unfold tsyMsg
  (try dsimp only)
  repeat' first
    | with_reducible assumption
    | with_reducible refine authFail_keeps _ _ _ _ ?_
    | with_reducible refine Keeps.of_core (exchReject_core _ _) ?_
    | with_reducible refine Keeps.of_core (onTabor_core _ _ _) ?_
    | with_reducible refine Keeps.of_core (record_core _ _ _ _) ?_
    | with_reducible refine Keeps.of_core (replay_core _) ?_
    | with_reducible refine Keeps.of_core (tsyDelayResp_core _ _ _ _ _) ?_
    | with_reducible refine Keeps.of_core (tsyFollowUp_core _ _ _ _ _) ?_
    | with_reducible refine Keeps.of_core (tsySync_core _ _ _ _ _) ?_
    | split
theorem issueGen_keeps {z : State} (id : Nat) (s : State) (hk : Keeps z s) : Keeps z (issueGen id s).1 := by
  unfold issueGen
  (try dsimp only)
  repeat' first
    | with_reducible assumption
    | with_reducible refine Keeps.onNvm ?_ _ rfl
    | with_reducible refine Keeps.onStore ?_ _ rfl (Nat.le_refl _) rfl rfl
    | split
theorem writeShadow_keeps {z : State} (id first : Nat) (vals : List (BitVec 64)) (s : State) (hk : Keeps z s) : Keeps z (writeShadow id first vals s).1 := by
  unfold writeShadow
  have hi := issueGen_keeps id s hk
  cases ho : s.openGen id with
  | some v =>
    dsimp only
    exact Keeps.onStore hk _ rfl (Nat.le_refl _) rfl rfl
  | none =>
    dsimp only
    exact Keeps.onStore hi _ rfl (Nat.le_refl _) rfl rfl
/-- The entries of a map after a write are the ones before and the one written. -/
theorem spSet_bound {α : Type} [DecidableEq α] (d : α) : ∀ (m : List (Nat × α)) (a : Nat) (v : α), ∀ e ∈ spSet d m a v, e ∈ m ∨ e.1 = a
  | [], a, v, e, he => by
    unfold spSet at he
    split at he
    · cases he
    · rw [List.mem_singleton] at he; exact .inr (by rw [he])
  | (k, w) :: t, a, v, e, he => by
    unfold spSet at he
    split at he
    · split at he
      · exact .inl he
      · rcases List.mem_cons.mp he with rfl | he
        · exact .inr rfl
        · exact .inl he
    · split at he
      · split at he
        · exact .inl (List.mem_cons_of_mem _ he)
        · rcases List.mem_cons.mp he with rfl | he
          · exact .inr rfl
          · exact .inl (List.mem_cons_of_mem _ he)
      · rcases List.mem_cons.mp he with rfl | he
        · exact .inl List.mem_cons_self
        · rcases spSet_bound d t a v e he with h | h
          · exact .inl (List.mem_cons_of_mem _ h)
          · exact .inr h

theorem spSet_wf {α : Type} [DecidableEq α] (d : α) : ∀ (m : List (Nat × α)) (a : Nat) (v : α), spWf d m = true → spWf d (spSet d m a v) = true
  | [], a, v, _ => by
    unfold spSet
    split
    · rfl
    · simp [spWf, *]
  | (k, w) :: t, a, v, h => by
    have hb := spSet_bound d t a v
    simp only [spWf, Bool.and_eq_true, decide_eq_true_eq, List.all_eq_true] at h
    obtain ⟨⟨hw, hk⟩, ht⟩ := h
    unfold spSet
    split
    · split
      · simp only [spWf, Bool.and_eq_true, decide_eq_true_eq, List.all_eq_true]; exact ⟨⟨hw, hk⟩, ht⟩
      · rename_i hak hv
        simp only [spWf, Bool.and_eq_true, decide_eq_true_eq, List.all_eq_true]
        refine ⟨⟨hv, ?_⟩, ⟨hw, hk⟩, ht⟩
        intro e he
        rcases List.mem_cons.mp he with rfl | he
        · exact hak
        · exact Nat.lt_trans hak (hk e he)
    · split
      · rename_i hak hka
        split
        · exact ht
        · simp only [spWf, Bool.and_eq_true, decide_eq_true_eq, List.all_eq_true]
          rename_i hv
          refine ⟨⟨hv, ?_⟩, ht⟩
          intro e he; rw [hka]; exact hk e he
      · rename_i hak hka
        simp only [spWf, Bool.and_eq_true, decide_eq_true_eq, List.all_eq_true]
        refine ⟨⟨hw, ?_⟩, spSet_wf d t a v ht⟩
        intro e he
        rcases hb e he with he | he
        · exact hk e he
        · omega

theorem spSetRun_wf {α : Type} [DecidableEq α] (d : α) (vs : List α) (m : List (Nat × α)) (a : Nat) (h : spWf d m = true) :
    spWf d (spSetRun d m a vs) = true := by
  induction vs generalizing m a with
  | nil => exact h
  | cons v vs ih => exact ih _ _ (spSet_wf d m a v h)

theorem spWf_filter {α : Type} [DecidableEq α] (d : α) (p : Nat × α → Bool) : ∀ m : List (Nat × α), spWf d m = true → spWf d (m.filter p) = true
  | [], _ => rfl
  | e :: t, h => by
    simp only [spWf, Bool.and_eq_true, decide_eq_true_eq, List.all_eq_true] at h
    obtain ⟨⟨hw, hk⟩, ht⟩ := h
    rw [List.filter_cons]
    split
    · simp only [spWf, Bool.and_eq_true, decide_eq_true_eq, List.all_eq_true]
      exact ⟨⟨hw, fun x hx => hk x (List.mem_filter.mp hx).1⟩, spWf_filter d p t ht⟩
    · exact spWf_filter d p t ht

theorem writeStore_keeps {z : State} (a : Nat) (bs : Bytes) (s : State) (hk : Keeps z s) : Keeps z (writeStore a bs s) := by
  exact ⟨hk.1, fun x => spSetRun_wf 0 bs _ a (hk.2 x), hk.3, hk.4, hk.5, hk.6, hk.7, hk.8, hk.9⟩
theorem onBuf_keeps {z : State} (i : Nat) (f : Buf → Buf) (s : State) (hk : Keeps z s) : Keeps z (onBuf i f s) := by
  unfold onBuf
  exact Keeps.onStore hk _ rfl (Nat.le_refl _) (by simp [modAt]) rfl
theorem bodyBufAlloc_keeps {z : State} (c : Ctx) (s : State) (hk : Keeps z s) : Keeps z (bodyBufAlloc c s).1 := by
  unfold bodyBufAlloc
  (try dsimp only)
  repeat' first
    | with_reducible assumption
    | with_reducible refine onBuf_keeps _ _ _ ?_
    | with_reducible refine Keeps.of_core (didData_core _ _) ?_
    | with_reducible refine Keeps.of_core (no_core _ _) ?_
    | split
theorem setFence_keeps {z : State} (n : Nat) (f : Fence) (s : State) (hk : Keeps z s) : Keeps z (setFence n f s) := by
  unfold setFence
  exact Keeps.onStore hk _ rfl (Nat.le_refl _) rfl (by simp)
theorem snoopInvalid_keeps {z : State} (i : Nat) (s : State) (hk : Keeps z s) : Keeps z (snoopInvalid i s) := by
  unfold snoopInvalid
  (try dsimp only)
  repeat' first
    | with_reducible assumption
    | with_reducible refine onBuf_keeps _ _ _ ?_
    | with_reducible refine Keeps.of_core (cvEvent_core _ _ _) ?_
    | split
theorem snoopWrite_keeps {z : State} (i rel : Nat) (bs : Bytes) (s : State) (hk : Keeps z s) : Keeps z (snoopWrite i rel bs s) := by
  unfold snoopWrite
  (try dsimp only)
  repeat' first
    | with_reducible assumption
    | with_reducible refine onBuf_keeps _ _ _ ?_
    | with_reducible refine snoopInvalid_keeps _ _ ?_
    | with_reducible refine Keeps.of_core (cvEvent_core _ _ _) ?_
    | split
theorem releaseBuf_keeps {z : State} (i : Nat) (s : State) (hk : Keeps z s) : Keeps z (releaseBuf i s) := by
  unfold releaseBuf
  dsimp only
  have h1 : ∀ (f : Buf → Buf) (g : List (Nat × Nat) → List (Nat × Nat)) (lo hi : Nat), Keeps z ((onBuf i f s).onStore (fun t =>
      { t with zeroing := g t.zeroing, mem := t.mem.filter (fun e => decide (e.1 < lo) || decide (hi ≤ e.1)) })) := by
    intro f g lo hi
    have k := onBuf_keeps i f s hk
    exact ⟨k.1, fun x => spWf_filter 0 _ _ (k.2 x), k.3, k.4, k.5, k.6, k.7, k.8, k.9⟩
  split
  · split
    · exact Keeps.of_core (abortScan_core _ _) (h1 _ (fun z => z ++ [((s.buf i).start, (s.buf i).grans)]) _ _)
    · exact h1 _ (fun z => z ++ [((s.buf i).start, (s.buf i).grans)]) _ _
  · exact h1 _ (fun z => z ++ [((s.buf i).start, (s.buf i).grans)]) _ _
theorem sweepBufs_keeps {z : State} (s : State) (hk : Keeps z s) : Keeps z (sweepBufs s) := by
  unfold sweepBufs
  (try dsimp only)
  repeat' first
    | with_reducible assumption
    | with_reducible refine releaseBuf_keeps _ _ ?_
    | with_reducible refine Keeps.forN _ (fun _ _ _ => ?_) _ _ ?_
    | split
theorem granuleZeroedEvent_keeps {z : State} (start : Nat) (s : State) (hk : Keeps z s) : Keeps z (granuleZeroedEvent start s) := by
  unfold granuleZeroedEvent
  (try dsimp only)
  repeat' first
    | with_reducible assumption
    | with_reducible refine Keeps.onStore ?_ _ rfl (Nat.le_refl _) rfl rfl
    | split
theorem bodyBufFree_keeps {z : State} (c : Ctx) (s : State) (hk : Keeps z s) : Keeps z (bodyBufFree c s).1 := by
  unfold bodyBufFree
  (try dsimp only)
  repeat' first
    | with_reducible assumption
    | with_reducible refine onBuf_keeps _ _ _ ?_
    | with_reducible refine releaseBuf_keeps _ _ ?_
    | with_reducible refine Keeps.of_core (did_core _) ?_
    | with_reducible refine Keeps.of_core (no_core _ _) ?_
    | split
theorem wrViol_keeps {z : State} (reason addr : Nat) (h linkSeq : BitVec 16) (s : State) (hk : Keeps z s) : Keeps z (wrViol reason addr h linkSeq s) := by
  unfold wrViol
  (try dsimp only)
  repeat' first
    | with_reducible assumption
    | with_reducible refine Keeps.onStore ?_ _ rfl (Nat.le_refl _) rfl rfl
    | with_reducible refine Keeps.of_core (State.bump_core _ _ _ _ _) ?_
    | with_reducible refine Keeps.of_core (violationLink_core _ _ _ _ _ _ _) ?_
    | split
theorem wrEvent_keeps {z : State} (pl : Bytes) (linkSeq : BitVec 16) (s : State) (hk : Keeps z s) : Keeps z (wrEvent pl linkSeq s) := by
  unfold wrEvent
  (try dsimp only)
  repeat' first
    | with_reducible assumption
    | with_reducible refine snoopWrite_keeps _ _ _ _ ?_
    | with_reducible refine wrViol_keeps _ _ _ _ _ ?_
    | with_reducible refine writeStore_keeps _ _ _ ?_
    | with_reducible refine Keeps.of_core (disturbScan_core _ _ _ _) ?_
    | split
theorem signalFence_keeps {z : State} (n : Nat) (s : State) (hk : Keeps z s) : Keeps z (signalFence n s) := setFence_keeps _ _ _ hk
theorem fenEvent_keeps {z : State} (pl : Bytes) (linkSeq : BitVec 16) (s : State) (hk : Keeps z s) : Keeps z (fenEvent pl linkSeq s) := by
  unfold fenEvent
  (try dsimp only)
  repeat' first
    | with_reducible assumption
    | with_reducible refine setFence_keeps _ _ _ ?_
    | with_reducible refine wrViol_keeps _ _ _ _ _ ?_
    | with_reducible refine signalFence_keeps _ _ ?_
    | split
theorem bodyFenceArm_keeps {z : State} (c : Ctx) (s : State) (hk : Keeps z s) : Keeps z (bodyFenceArm c s).1 := by
  unfold bodyFenceArm
  (try dsimp only)
  repeat' first
    | with_reducible assumption
    | with_reducible refine setFence_keeps _ _ _ ?_
    | with_reducible refine Keeps.of_core (did_core _) ?_
    | with_reducible refine Keeps.of_core (no_core _ _) ?_
    | split
theorem bodyFenceSignal_keeps {z : State} (c : Ctx) (s : State) (hk : Keeps z s) : Keeps z (bodyFenceSignal c s).1 := by
  unfold bodyFenceSignal
  (try dsimp only)
  repeat' first
    | with_reducible assumption
    | with_reducible refine setFence_keeps _ _ _ ?_
    | with_reducible refine Keeps.of_core (did_core _) ?_
    | with_reducible refine Keeps.of_core (no_core _ _) ?_
    | with_reducible refine signalFence_keeps _ _ ?_
    | split
theorem refuseCopy_keeps {z : State} (chk : Nat) (raw : Bytes) (envex : Bool) (s : State) (hk : Keeps z s) : Keeps z (refuseCopy chk raw envex s) := by
  unfold refuseCopy
  (try dsimp only)
  repeat' first
    | with_reducible assumption
    | with_reducible refine authFail_keeps _ _ _ _ ?_
    | with_reducible refine Keeps.of_core (State.bump_core _ _ _ _ _) ?_
    | with_reducible refine Keeps.of_core (logItem_core _ _ _ _ _ _) ?_
    | with_reducible refine Keeps.of_core (record_core _ _ _ _) ?_
    | split
theorem smsgEvent_keeps {z : State} (raw : Bytes) (envex : Bool) (s : State) (hk : Keeps z s) : Keeps z (smsgEvent raw envex s) := by
  unfold smsgEvent
  (try dsimp only)
  repeat' first
    | with_reducible assumption
    | with_reducible refine refuseCopy_keeps _ _ _ _ ?_
    | with_reducible refine Keeps.of_core (State.bump_core _ _ _ _ _) ?_
    | with_reducible refine Keeps.of_core (compareCopy_core _ _ _) ?_
    | with_reducible refine Keeps.of_core (cvCheck_core _ _ _) ?_
    | with_reducible refine Keeps.of_core (touchDamper_core _ _) ?_
    | split
theorem setPolicy_keeps {z : State} (ps : Bytes) (s : State) (hk : Keeps z s) : Keeps z (setPolicy ps s) := by
  unfold setPolicy
  (try dsimp only)
  repeat' first
    | with_reducible assumption
    | with_reducible refine saveCfg_keeps _ _ ?_
    | with_reducible refine Keeps.of_core (State.setReg_core _ _ _) ?_
    | with_reducible refine Keeps.foldl _ (fun _ _ _ => ?_) _ ?_
    | split
theorem bodySafetyPolicySet_keeps {z : State} (c : Ctx) (s : State) (hk : Keeps z s) : Keeps z (bodySafetyPolicySet c s).1 := by
  unfold bodySafetyPolicySet
  (try dsimp only)
  repeat' first
    | with_reducible assumption
    | with_reducible refine setPolicy_keeps _ _ ?_
    | with_reducible refine Keeps.of_core (did_core _) ?_
    | with_reducible refine Keeps.of_core (no_core _ _) ?_
    | split
theorem bodyDegradeLimitSet_keeps {z : State} (c : Ctx) (s : State) (hk : Keeps z s) : Keeps z (bodyDegradeLimitSet c s).1 := by
  unfold bodyDegradeLimitSet
  (try dsimp only)
  repeat' first
    | with_reducible assumption
    | with_reducible refine storeReg_keeps _ _ _ ?_
    | with_reducible refine Keeps.of_core (did_core _) ?_
    | with_reducible refine Keeps.of_core (no_core _ _) ?_
    | split
theorem canRxGood_keeps {z : State} (s : State) (hk : Keeps z s) : Keeps z (canRxGood s) := by
  unfold canRxGood
  repeat' first
    | with_reducible assumption
    | with_reducible refine Keeps.of_core (State.core_onCan _ _) ?_
    | with_reducible refine Keeps.of_core (State.freeNext_core _) ?_
    | split
theorem canRx_keeps {z : State} (id : Nat) (data : Bytes) (s : State) (hk : Keeps z s) : Keeps z (canRx id data s).1 := by
  unfold canRx
  split
  · exact hk
  · have hg := canRxGood_keeps s hk
    generalize canRxGood s = t at hg ⊢
    have hf := fragmentRx_core id data t
    dsimp only
    split
    · exact hg
    · split
      · exact Keeps.of_core (record_core _ _ _ _) hg
      · split
        · exact tsyMsg_keeps _ _ _ _ hg
        · split
          · split
            · rename_i heq; rw [heq] at hf; exact Keeps.of_core hf hg
            · rename_i heq; rw [heq] at hf
              split
              · exact smsgEvent_keeps _ _ _ (Keeps.of_core hf hg)
              · exact Keeps.of_core hf hg
          · exact hg
theorem writeCanCfg_keeps {z : State} (v : Word) (s : State) (hk : Keeps z s) : Keeps z (writeCanCfg v s) := by
  unfold writeCanCfg
  (try dsimp only)
  repeat' first
    | with_reducible assumption
    | with_reducible refine Keeps.of_core (State.core_onSys _ _) ?_
    | with_reducible refine Keeps.of_core (State.core_onCan _ _) ?_
    | with_reducible refine saveCfg_keeps _ _ ?_
    | with_reducible refine Keeps.of_core (flush_core _) ?_
    | with_reducible refine Keeps.of_core (State.setReg_core _ _ _) ?_
    | with_reducible refine Keeps.of_core (syncStb_core _) ?_
    | split
theorem onShadow_keeps {z : State} (f : ShMap → ShMap) (s : State) (hk : Keeps z s) : Keeps z (onShadow f s) := by
  unfold onShadow
  (try dsimp only)
  repeat' first
    | with_reducible assumption
    | with_reducible refine Keeps.onStore ?_ _ rfl (Nat.le_refl _) rfl rfl
    | split
theorem bodyLayerSet_keeps {z : State} (c : Ctx) (s : State) (hk : Keeps z s) : Keeps z (bodyLayerSet c s).1 := by
  unfold bodyLayerSet
  (try dsimp only)
  repeat' first
    | with_reducible assumption
    | with_reducible refine onShadow_keeps _ _ ?_
    | with_reducible refine Keeps.of_core (did_core _) ?_
    | with_reducible refine Keeps.of_core (no_core _ _) ?_
    | split
theorem bodyLayerGroup_keeps {z : State} (c : Ctx) (s : State) (hk : Keeps z s) : Keeps z (bodyLayerGroup c s).1 := by
  unfold bodyLayerGroup
  (try dsimp only)
  repeat' first
    | with_reducible assumption
    | with_reducible refine onShadow_keeps _ _ ?_
    | with_reducible refine Keeps.of_core (did_core _) ?_
    | with_reducible refine Keeps.of_core (no_core _ _) ?_
    | split
theorem bodyWritebackSet_keeps {z : State} (c : Ctx) (s : State) (hk : Keeps z s) : Keeps z (bodyWritebackSet c s).1 := by
  unfold bodyWritebackSet
  (try dsimp only)
  repeat' first
    | with_reducible assumption
    | with_reducible refine onShadow_keeps _ _ ?_
    | with_reducible refine Keeps.of_core (did_core _) ?_
    | with_reducible refine Keeps.of_core (no_core _ _) ?_
    | with_reducible refine Keeps.foldl _ (fun _ _ _ => ?_) _ ?_
    | split
theorem storeTabs_keeps {z : State} (lseq : Word) (gens : List OpenGen) (custom : Bool) (s : State) (hk : Keeps z s) : Keeps z (storeTabs lseq gens custom s) := by
  unfold storeTabs
  (try dsimp only)
  repeat' first
    | with_reducible assumption
    | with_reducible refine Keeps.onNvm ?_ _ rfl
    | with_reducible refine saveCfg_keeps _ _ ?_
    | with_reducible refine Keeps.of_core (touchMram_core _ _ _) ?_
    | with_reducible refine Keeps.foldl _ (fun _ _ _ => ?_) _ ?_
    | split
theorem acceptCommit_keeps {z : State} (lseq : Word) (s : State) (hk : Keeps z s) (hq : s.store.queue.length < 4) : Keeps z (acceptCommit lseq s) := by
  unfold acceptCommit
  dsimp only
  have k := storeTabs_keeps lseq s.store.openGens ((shGet s.commitSh 0x90030).getLsbD 0) s hk
  have hs := storeTabs_store lseq s.store.openGens ((shGet s.commitSh 0x90030).getLsbD 0) s
  have h1 : ∀ (e : QEntry) (sh : ShMap), Keeps z ((storeTabs lseq s.store.openGens ((shGet s.commitSh 0x90030).getLsbD 0) s).onStore (fun t =>
      { t with queue := t.queue ++ [e], shadow := sh, openGens := [] })) := by
    intro e sh
    refine ⟨k.1, k.2, k.3, fun _ => ?_, k.5, k.6, k.7, k.8, k.9⟩
    rw [State.onStore_store, hs]
    simp only [List.length_append, List.length_cons, List.length_nil]
    omega
  split
  · exact Keeps.of_core (startStillExit_core _) (h1 _ _)
  · exact h1 _ _
theorem bodyCommit_keeps {z : State} (c : Ctx) (s : State) (hk : Keeps z s) : Keeps z (bodyCommit c s).1 := by
  unfold bodyCommit
  split
  · exact Keeps.of_core (no_core _ _) hk
  · split
    · exact Keeps.of_core (no_core _ _) hk
    · split
      · exact Keeps.of_core (no_core _ _) hk
      · split
        · exact Keeps.of_core (no_core _ _) hk
        · refine Keeps.of_core (didData_core _ _) (acceptCommit_keeps _ _ hk ?_)
          omega
theorem bodyKeepoutSet_keeps {z : State} (c : Ctx) (s : State) (hk : Keeps z s) : Keeps z (bodyKeepoutSet c s).1 := by
  unfold bodyKeepoutSet
  (try dsimp only)
  repeat' first
    | with_reducible assumption
    | with_reducible refine Keeps.onStore ?_ _ rfl (Nat.le_refl _) rfl rfl
    | with_reducible refine issueGen_keeps _ _ ?_
    | with_reducible refine saveCfg_keeps _ _ ?_
    | with_reducible refine Keeps.of_core (didData_core _ _) ?_
    | with_reducible refine Keeps.of_core (no_core _ _) ?_
    | with_reducible refine Keeps.of_core (startStillExit_core _) ?_
    | with_reducible refine Keeps.foldl _ (fun _ _ _ => ?_) _ ?_
    | split
theorem renewFrom_length (c : ShMap) (q : List QEntry) : (renewFrom c q).length = q.length := by
  induction q generalizing c with
  | nil => rfl
  | cons e q ih => simp [renewFrom, ih]
theorem renewQueue_keeps {z : State} (s : State) (hk : Keeps z s) : Keeps z (renewQueue s) :=
  Keeps.onStore hk _ rfl (Nat.le_of_eq (renewFrom_length _ _)) rfl rfl
theorem retire_keeps {z : State} (e : QEntry) (s : State) (hk : Keeps z s) : Keeps z (retire e s) := by
  unfold retire
  (try dsimp only)
  repeat' first
    | with_reducible assumption
    | with_reducible refine Keeps.onStore ?_ _ rfl (by simp) rfl rfl
    | with_reducible refine setFence_keeps _ _ _ ?_
    | with_reducible refine Keeps.of_core (postEvent_core _ _ _ _ _) ?_
    | with_reducible refine Keeps.foldl _ (fun _ _ _ => ?_) _ ?_
    | with_reducible refine renewQueue_keeps _ ?_
    | split
theorem flip_keeps {z : State} (e : QEntry) (m : BitVec 8) (s : State) (hk : Keeps z s) : Keeps z (flip e m s) := by
  unfold flip
  (try dsimp only)
  repeat' first
    | with_reducible assumption
    | with_reducible refine Keeps.onStore ?_ _ rfl (Nat.le_refl _) rfl rfl
    | with_reducible refine Keeps.foldl _ (fun _ _ _ => ?_) _ ?_
    | split
theorem putTabs_keeps {z : State} (e : QEntry) (s : State) (hk : Keeps z s) : Keeps z (putTabs e s) := by
  unfold putTabs
  (try dsimp only)
  repeat' first
    | with_reducible assumption
    | with_reducible refine Keeps.onStore ?_ _ rfl (Nat.le_refl _) rfl rfl
    | with_reducible refine Keeps.foldl _ (fun _ _ _ => ?_) _ ?_
    | split
theorem putKeepNext_keeps {z : State} (s : State) (hk : Keeps z s) : Keeps z (putKeepNext s) := by
  unfold putKeepNext
  (try dsimp only)
  repeat' first
    | with_reducible assumption
    | with_reducible refine Keeps.onStore ?_ _ rfl (Nat.le_refl _) rfl rfl
    | split
theorem latchEntry_keeps {z : State} (e : QEntry) (s : State) (hk : Keeps z s) : Keeps z (latchEntry e s) := by
  unfold latchEntry
  dsimp only
  have h1 : ∀ (c : ShMap) (l : Word) (w : BitVec 8), Keeps z (s.onStore (fun t =>
      { t with committed := c, commitSeq := l, queue := match t.queue with
        | _ :: q => { e with latched := true, waiting := w, age := 0 } :: q
        | [] => [] })) := fun c l w =>
    Keeps.onStore hk _ rfl (by dsimp only; cases s.store.queue <;> simp) rfl rfl
  split
  · exact retire_keeps _ _ (putTabs_keeps _ _ (h1 _ _ _))
  · exact putTabs_keeps _ _ (h1 _ _ _)
theorem lateFault_keeps {z : State} (e : QEntry) (n : Nat) (s : State) (hk : Keeps z s) : Keeps z (lateFault e n s) := by
  unfold lateFault
  (try dsimp only)
  repeat' first
    | with_reducible assumption
    | with_reducible refine setFence_keeps _ _ _ ?_
    | with_reducible refine Keeps.of_core (postEvent_core _ _ _ _ _) ?_
    | with_reducible refine Keeps.of_core (record_core _ _ _ _) ?_
    | split
theorem resolveEntry_keeps {z : State} (e : QEntry) (s : State) (hk : Keeps z s) : Keeps z (resolveEntry e s).1 := by
  unfold resolveEntry
  dsimp only
  have h1 : ∀ (x : State) (e' : QEntry), Keeps z x → Keeps z (x.onStore (fun t =>
      { t with queue := match t.queue with
        | _ :: q => e' :: q
        | [] => [] })) := fun x e' hx =>
    Keeps.onStore hx _ rfl (by dsimp only; cases x.store.queue <;> simp) rfl rfl
  have h2 : ∀ (l : List Nat) (x : State), Keeps z x → Keeps z (l.foldl (fun s n => lateFault e n s) x) :=
    fun l x hx => Keeps.foldl _ (fun y a hy => lateFault_keeps _ _ _ hy) l hx
  split
  · exact retire_keeps _ _ (putKeepNext_keeps _ (h1 _ _ (h2 _ _ (flip_keeps _ _ _ hk))))
  · exact putKeepNext_keeps _ (h1 _ _ (h2 _ _ (flip_keeps _ _ _ hk)))
theorem latchStep_keeps {z : State} (s : State) (hk : Keeps z s) : Keeps z (latchStep s).1 := by
  unfold latchStep
  (try dsimp only)
  repeat' first
    | with_reducible assumption
    | with_reducible refine latchEntry_keeps _ _ ?_
    | with_reducible refine putKeepNext_keeps _ ?_
    | with_reducible refine resolveEntry_keeps _ _ ?_
    | split
theorem ageEntry_keeps {z : State} (s : State) (hk : Keeps z s) : Keeps z (ageEntry s) := by
  unfold ageEntry
  exact Keeps.onStore hk _ rfl (by dsimp only; cases s.store.queue <;> simp) rfl rfl
theorem bankError_keeps {z : State} (bank : Nat) (inj : Bool) (s : State) (hk : Keeps z s) : Keeps z (bankError bank inj s) := by
  unfold bankError
  have h2 : ∀ (l : List Nat) (x : State), Keeps z x → Keeps z (l.foldl (fun s i => releaseBuf i s) x) :=
    fun l x hx => Keeps.foldl _ (fun y a hy => releaseBuf_keeps _ _ hy) l hx
  have hr : Keeps z (record bSTORE 1 ((atUnit bank).inj inj) s) := Keeps.of_core (record_core _ _ _ _) hk
  extract_lets t hit hs wb s1 s2 again s3 s4 s5
  have k1 : Keeps z s1 := renewQueue_keeps _ (Keeps.onStore hr _ rfl (Nat.le_of_eq (List.length_map ..)) rfl rfl)
  have k2 : Keeps z s2 := by
    show Keeps z (if wb = true then record bCARL 7 noUnit s1 else s1)
    split
    · exact Keeps.of_core (record_core _ _ _ _) k1
    · exact k1
  have k3 : Keeps z s3 := Keeps.of_core (fcMark_core _) (Keeps.of_core (State.core_onCarl _ _) (Keeps.of_core (onJob_core _ _) k2))
  have k4 : Keeps z s4 := by
    show Keeps z (match s3.carl.job with
      | some j => s3.onStore (fun t => { t with recs := t.recs.map (fun r => if r.index = j.index then dropLayers j.sh r else r) })
      | none => s3)
    split
    · exact Keeps.onStore k3 _ rfl (Nat.le_refl _) rfl rfl
    · exact k3
  have k5 : Keeps z s5 := h2 _ _ k4
  split
  · exact Keeps.of_core (record_core _ _ _ _) (Keeps.onStore k5 _ rfl (Nat.le_refl _) rfl rfl)
  · exact Keeps.onStore k5 _ rfl (Nat.le_refl _) rfl rfl
theorem wbMemRow_keeps {z : State} (s : State) (hk : Keeps z s) : Keeps z (wbMemRow s) := by
  unfold wbMemRow
  (try dsimp only)
  repeat' first
    | with_reducible assumption
    | with_reducible refine Keeps.of_core (State.core_onCarl _ _) ?_
    | with_reducible refine snoopWrite_keeps _ _ _ _ ?_
    | with_reducible refine writeStore_keeps _ _ _ ?_
    | with_reducible refine Keeps.of_core (disturbScan_core _ _ _ _) ?_
    | with_reducible refine Keeps.of_core (onJob_core _ _) ?_
    | split
theorem writeBack_keeps {z : State} (s : State) (hk : Keeps z s) : Keeps z (writeBack s) := by
  unfold writeBack
  (try dsimp only)
  repeat' first
    | with_reducible assumption
    | with_reducible refine wbMemRow_keeps _ ?_
    | with_reducible refine Keeps.of_core (wbUpRow_core _) ?_
    | with_reducible refine Keeps.iter _ (fun _ _ => ?_) _ ?_
    | split
theorem passBand_keeps {z : State} (lane band : Nat) (s : State) (hk : Keeps z s) : Keeps z (passBand lane band s) := by
  unfold passBand
  (try dsimp only)
  repeat' first
    | with_reducible assumption
    | with_reducible refine Keeps.of_core (State.core_onCarl _ _) ?_
    | with_reducible refine writeBack_keeps _ ?_
    | with_reducible refine Keeps.of_core (composedAll_core _ _) ?_
    | with_reducible refine Keeps.of_core (issueBands_core _) ?_
    | with_reducible refine Keeps.of_core (onJob_core _ _) ?_
    | split
theorem bandComposedEvent_keeps {z : State} (lane : Nat) (o : BandObs) (s : State) (hk : Keeps z s) : Keeps z (bandComposedEvent lane o s) := by
  unfold bandComposedEvent
  (try dsimp only)
  repeat' first
    | with_reducible assumption
    | with_reducible refine Keeps.of_core (State.core_onCarl _ _) ?_
    | with_reducible refine bankError_keeps _ _ _ ?_
    | with_reducible refine passBand_keeps _ _ _ ?_
    | with_reducible refine Keeps.of_core (dropStim_core _ _ _ _) ?_
    | with_reducible refine Keeps.of_core (issueBands_core _) ?_
    | with_reducible refine Keeps.of_core (record_core _ _ _ _) ?_
    | with_reducible refine Keeps.of_core (residueFault_core _ _ _ _) ?_
    | with_reducible refine Keeps.foldl _ (fun _ _ _ => ?_) _ ?_
    | with_reducible refine Keeps.of_core (bandCe_core _ _ _) ?_
    | split
theorem startFrame_keeps {z : State} (quiet caps : Bool) (late : BitVec 8) (s : State) (hk : Keeps z s) : Keeps z (startFrame quiet caps late s) := by
  unfold startFrame
  (try dsimp only)
  repeat' first
    | with_reducible assumption
    | with_reducible refine Keeps.onStore ?_ _ rfl (Nat.le_refl _) rfl rfl
    | with_reducible refine Keeps.of_core (State.core_onCarl _ _) ?_
    | with_reducible refine Keeps.of_core (State.core_onPix _ _) ?_
    | with_reducible refine Keeps.of_core (State.core_onFreeIdx _ _) ?_
    | with_reducible refine Keeps.of_core (issueBands_core _) ?_
    | split
theorem frameDone_keeps {z : State} (j : Job) (us : Nat) (s : State) (hk : Keeps z s) : Keeps z (frameDone j us s) := by
  unfold frameDone
  (try dsimp only)
  repeat' first
    | with_reducible assumption
    | with_reducible refine Keeps.onStore ?_ _ rfl (Nat.le_refl _) rfl rfl
    | with_reducible refine Keeps.of_core (State.core_onPix _ _) ?_
    | with_reducible refine Keeps.of_core (demands_core _ _) ?_
    | with_reducible refine Keeps.of_core (frameConflicts_core _ _) ?_
    | with_reducible refine Keeps.of_core (framePace_core _ _ _) ?_
    | with_reducible refine Keeps.of_core (onJob_core _ _) ?_
    | split
theorem frameEnd_keeps {z : State} (us : Nat) (s : State) (hk : Keeps z s) : Keeps z (frameEnd us s) := by
  unfold frameEnd
  (try dsimp only)
  repeat' first
    | with_reducible assumption
    | with_reducible refine Keeps.of_core (State.core_onPix _ _) ?_
    | with_reducible refine frameDone_keeps _ _ _ ?_
    | with_reducible refine Keeps.of_core (dropStim_core _ _ _ _) ?_
    | with_reducible refine Keeps.of_core (State.freeNext_core _) ?_
    | with_reducible refine Keeps.of_core (issueBands_core _) ?_
    | with_reducible refine Keeps.of_core (onJob_core _ _) ?_
    | with_reducible refine Keeps.of_core (record_core _ _ _ _) ?_
    | split
theorem bandDone_keeps {z : State} (j : Job) (band : Nat) (o : ProcObs) (s : State) (hk : Keeps z s) : Keeps z (bandDone j band o s) := by
  unfold bandDone
  (try dsimp only)
  repeat' first
    | with_reducible assumption
    | with_reducible refine Keeps.of_core (State.core_onPix _ _) ?_
    | with_reducible refine frameEnd_keeps _ _ ?_
    | with_reducible refine Keeps.of_core (auditReject_core _ _ _) ?_
    | with_reducible refine Keeps.of_core (dropStim_core _ _ _ _) ?_
    | with_reducible refine Keeps.of_core (onJob_core _ _) ?_
    | with_reducible refine Keeps.of_core (record_core _ _ _ _) ?_
    | with_reducible refine Keeps.of_core (writeBank_core _ _ _ _) ?_
    | split
theorem bandProcessedEvent_keeps {z : State} (band : Nat) (o : ProcObs) (s : State) (hk : Keeps z s) : Keeps z (bandProcessedEvent band o s) := by
  unfold bandProcessedEvent
  (try dsimp only)
  repeat' first
    | with_reducible assumption
    | with_reducible refine bandDone_keeps _ _ _ _ ?_
    | with_reducible refine Keeps.of_core (record_core _ _ _ _) ?_
    | with_reducible refine Keeps.of_core (eccCorrected_core _ _ _ _ _) ?_
    | split
theorem swapIn_keeps {z : State} (j : Job) (s : State) (hk : Keeps z s) : Keeps z (swapIn j s) := by
  unfold swapIn
  (try dsimp only)
  repeat' first
    | with_reducible assumption
    | with_reducible refine Keeps.onStore ?_ _ rfl (Nat.le_refl _) rfl rfl
    | with_reducible refine Keeps.of_core (State.core_onCarl _ _) ?_
    | with_reducible refine Keeps.of_core (State.core_onPix _ _) ?_
    | with_reducible refine Keeps.of_core (record_core _ _ _ _) ?_
    | split
theorem showAgain_keeps {z : State} (s : State) (hk : Keeps z s) : Keeps z (showAgain s) := by
  unfold showAgain
  (try dsimp only)
  repeat' first
    | with_reducible assumption
    | with_reducible refine Keeps.onStore ?_ _ rfl (Nat.le_refl _) rfl rfl
    | split
theorem saveCuts_keeps {z : State} (s : State) (hk : Keeps z s) : Keeps z (saveCuts s) := by
  unfold saveCuts
  (try dsimp only)
  repeat' first
    | with_reducible assumption
    | with_reducible refine saveCfg_keeps _ _ ?_
    | split
theorem openCuts_keeps {z : State} (s : State) (hk : Keeps z s) : Keeps z (openCuts s) := by
  unfold openCuts
  (try dsimp only)
  repeat' first
    | with_reducible assumption
    | with_reducible refine Keeps.of_core (State.core_onMal _ _) ?_
    | with_reducible refine saveCuts_keeps _ ?_
    | with_reducible refine Keeps.of_core (record_core _ _ _ _) ?_
    | with_reducible refine Keeps.foldl _ (fun _ _ _ => ?_) _ ?_
    | split
theorem removeCuts_keeps {z : State} (seg w : Nat) (v : Word) (s : State) (hk : Keeps z s) : Keeps z (removeCuts seg w v s) := by
  unfold removeCuts
  (try dsimp only)
  repeat' first
    | with_reducible assumption
    | with_reducible refine Keeps.of_core (State.core_onMal _ _) ?_
    | with_reducible refine saveCuts_keeps _ ?_
    | split
theorem goDark_keeps {z : State} (s : State) (hk : Keeps z s) : Keeps z (goDark s) := by
  unfold goDark
  (try dsimp only)
  repeat' first
    | with_reducible assumption
    | with_reducible refine Keeps.of_core (State.core_onClap _ _) ?_
    | with_reducible refine Keeps.onStore ?_ _ rfl (Nat.le_refl _) rfl rfl
    | with_reducible refine Keeps.of_core (State.core_onCarl _ _) ?_
    | with_reducible refine Keeps.of_core (State.core_onPix _ _) ?_
    | with_reducible refine Keeps.of_core (State.core_onMal _ _) ?_
    | with_reducible refine Keeps.of_core (finish_core _ _ _) ?_
    | split
theorem jobBoundary_keeps {z : State} (s : State) (hk : Keeps z s) : Keeps z (jobBoundary s).1 := by
  unfold jobBoundary
  (try dsimp only)
  repeat' first
    | with_reducible assumption
    | with_reducible refine Keeps.of_core (State.core_onCarl _ _) ?_
    | with_reducible refine Keeps.of_core (State.core_onMal _ _) ?_
    | with_reducible refine swapIn_keeps _ _ ?_
    | with_reducible refine Keeps.of_core (firstShown_core _) ?_
    | with_reducible refine Keeps.of_core (onJob_core _ _) ?_
    | with_reducible refine Keeps.of_core (record_core _ _ _ _) ?_
    | split
theorem latchBoundary_keeps {z : State} (s : State) (hk : Keeps z s) : Keeps z (latchBoundary s) := by
  unfold latchBoundary
  (try dsimp only)
  repeat' first
    | with_reducible assumption
    | with_reducible refine Keeps.of_core (State.core_onCarl _ _) ?_
    | with_reducible refine Keeps.of_core (State.core_onPix _ _) ?_
    | with_reducible refine Keeps.of_core (State.core_onSense _ _) ?_
    | with_reducible refine latchStep_keeps _ ?_
    | with_reducible refine startFrame_keeps _ _ _ _ ?_
    | with_reducible refine Keeps.of_core (clearCause_core _ _) ?_
    | with_reducible refine Keeps.of_core (degradedAtLatch_core _) ?_
    | with_reducible refine Keeps.of_core (fcLatch_core _) ?_
    | with_reducible refine Keeps.of_core (gainSwap_core _) ?_
    | split
theorem frameBoundary_keeps {z : State} (s : State) (hk : Keeps z s) : Keeps z (frameBoundary s) := by
  unfold frameBoundary
  (try dsimp only)
  repeat' first
    | with_reducible assumption
    | with_reducible refine ageEntry_keeps _ ?_
    | with_reducible refine jobBoundary_keeps _ ?_
    | with_reducible refine latchBoundary_keeps _ ?_
    | with_reducible refine showAgain_keeps _ ?_
    | with_reducible refine Keeps.of_core (budgetSnap_core _) ?_
    | with_reducible refine Keeps.of_core (derateBoundary_core _) ?_
    | with_reducible refine Keeps.of_core (pwrFrame_core _) ?_
    | with_reducible refine Keeps.of_core (stillBoundary_core _) ?_
    | with_reducible refine Keeps.of_core (stillTry_core _) ?_
    | split
theorem beatBoundaryEvent_keeps {z : State} (heads : List (Option (BitVec 5))) (s : State) (hk : Keeps z s) : Keeps z (beatBoundaryEvent heads s) := by
  unfold beatBoundaryEvent
  (try dsimp only)
  repeat' first
    | with_reducible assumption
    | with_reducible refine Keeps.of_core (State.core_onMal _ _) ?_
    | with_reducible refine frameBoundary_keeps _ ?_
    | with_reducible refine goDark_keeps _ ?_
    | with_reducible refine openCuts_keeps _ ?_
    | with_reducible refine Keeps.of_core (syncOwner_core _) ?_
    | with_reducible refine Keeps.of_core (beatStart_core _) ?_
    | with_reducible refine Keeps.of_core (digitalTakeover_core _) ?_
    | with_reducible refine Keeps.of_core (hkBeat_core _) ?_
    | with_reducible refine Keeps.of_core (releaseRepair_core _) ?_
    | with_reducible refine Keeps.of_core (senseBeat_core _) ?_
    | with_reducible refine Keeps.of_core (senseRoll_core _) ?_
    | with_reducible refine Keeps.of_core (vledBeat_core _ _) ?_
    | split
theorem gongExitGo_keeps {z : State} (toLit : Bool) (s : State) (hk : Keeps z s) : Keeps z (gongExitGo toLit s).1 := by
  unfold gongExitGo
  (try dsimp only)
  repeat' first
    | with_reducible assumption
    | with_reducible refine Keeps.of_core (State.core_onMal _ _) ?_
    | with_reducible refine startFrame_keeps _ _ _ _ ?_
    | with_reducible refine toReady_keeps _ ?_
    | with_reducible refine Keeps.of_core (freshLight_core _) ?_
    | split
theorem bodyGongExit_keeps {z : State} (c : Ctx) (s : State) (hk : Keeps z s) : Keeps z (bodyGongExit c s).1 := by
  have hg := fun b => gongExitGo_keeps b s hk
  unfold bodyGongExit
  dsimp only
  repeat' first
    | exact Keeps.of_core (no_core _ _) hk
    | exact hk
    | (split <;> rename_i heq <;> have h := hg (decide (numAt c.pkt.params 0 1 = 1)) <;> rw [heq] at h <;> exact h)
    | exact Keeps.of_core (State.core_onSys _ _) hk
    | split
theorem writeGainU_keeps {z : State} (vals : List (Nat × Int)) (s : State) (hk : Keeps z s) : Keeps z (writeGainU vals s) := by
  unfold writeGainU
  (try dsimp only)
  repeat' first
    | with_reducible assumption
    | with_reducible refine Keeps.onNvm ?_ _ rfl
    | with_reducible refine nextCalGen_keeps _ ?_
    | with_reducible refine saveCfg_keeps _ _ ?_
    | with_reducible refine Keeps.of_core (touchMram_core _ _ _) ?_
    | with_reducible refine Keeps.foldl _ (fun _ _ _ => ?_) _ ?_
    | split
theorem writeGainF_keeps {z : State} (first : Nat) (vals : List (BitVec 10)) (s : State) (hk : Keeps z s) : Keeps z (writeGainF first vals s) := by
  unfold writeGainF
  (try dsimp only)
  repeat' first
    | with_reducible assumption
    | with_reducible refine Keeps.onNvm ?_ _ rfl
    | with_reducible refine nextCalGen_keeps _ ?_
    | with_reducible refine saveCfg_keeps _ _ ?_
    | with_reducible refine Keeps.of_core (touchMram_core _ _ _) ?_
    | with_reducible refine Keeps.foldl _ (fun _ _ _ => ?_) _ ?_
    | split
theorem writeColDelta_keeps {z : State} (first : Nat) (vals : List Int) (s : State) (hk : Keeps z s) : Keeps z (writeColDelta first vals s) := by
  unfold writeColDelta
  (try dsimp only)
  repeat' first
    | with_reducible assumption
    | with_reducible refine saveCfg_keeps _ _ ?_
    | with_reducible refine Keeps.foldl _ (fun _ _ _ => ?_) _ ?_
    | split
theorem restoreDone_keeps {z : State} (l : LongCmd) (s : State) (hk : Keeps z s) : Keeps z (restoreDone l s) := by
  unfold restoreDone
  (try dsimp only)
  repeat' first
    | with_reducible assumption
    | with_reducible refine Keeps.of_core (State.core_onSense _ _) ?_
    | with_reducible refine Keeps.of_core (State.core_onHk _ _) ?_
    | with_reducible refine saveCfg_keeps _ _ ?_
    | with_reducible refine Keeps.of_core (finishLong_core _ _ _) ?_
    | split
theorem calPoll_keeps {z : State} (s : State) (hk : Keeps z s) : Keeps z (calPoll s) := by
  unfold calPoll
  (try dsimp only)
  repeat' first
    | with_reducible assumption
    | with_reducible refine Keeps.of_core (State.core_onClap _ _) ?_
    | with_reducible refine restoreDone_keeps _ _ ?_
    | with_reducible refine Keeps.of_core (calDone_core _ _ _) ?_
    | with_reducible refine Keeps.foldl _ (fun _ _ _ => ?_) _ ?_
    | split
theorem baseline_keeps {z : State} (s : State) (hk : Keeps z s) : Keeps z (baseline s) := by
  unfold baseline
  (try dsimp only)
  repeat' first
    | with_reducible assumption
    | with_reducible refine saveCfg_keeps _ _ ?_
    | split
theorem agingUpdate_keeps {z : State} (coef step : Nat) (tc : Int) (win : Nat) (s : State) (hk : Keeps z s) : Keeps z (agingUpdate coef step tc win s) := by
  unfold agingUpdate
  (try dsimp only)
  repeat' first
    | with_reducible assumption
    | with_reducible refine baseline_keeps _ ?_
    | with_reducible refine saveCfg_keeps _ _ ?_
    | with_reducible refine writeGainU_keeps _ _ ?_
    | with_reducible refine Keeps.foldl _ (fun _ _ _ => ?_) _ ?_
    | split
theorem Keeps.ite1 {α : Type} {z : State} {c : Prop} [Decidable c] {x y : State × α} (hx : Keeps z x.1) (hy : Keeps z y.1) :
    Keeps z (if c then x else y).1 := by
  split
  · exact hx
  · exact hy

theorem bodyCalRun_keeps {z : State} (c : Ctx) (s : State) (hk : Keeps z s) : Keeps z (bodyCalRun c s).1 := by
  have hn : ∀ r : Res, Keeps z (no r s).1 := fun r => Keeps.of_core (no_core r s) hk
  unfold bodyCalRun
  dsimp only
  refine Keeps.ite1 (hn _) ?_
  cases calIndexMax (numAt c.pkt.params 0 1) with
  | none => exact hn _
  | some top =>
    refine Keeps.ite1 (hn _) (Keeps.ite1 (hn _) (Keeps.ite1 (hn _) ?_))
    have hf : Keeps z s.freeNext := Keeps.of_core (State.freeNext_core _) hk
    cases calState (numAt c.pkt.params 0 1) (numAt c.pkt.params 1 1) (Config.calIndex s.freeIdx c.pkt.params % (top + 1)) s with
    | some st => exact hn _
    | none =>
      refine Keeps.ite1 (hn _) (Keeps.ite1 (hn _) (Keeps.ite1 (hn _) ?_))
      cases updateParams c.pkt.params with
      | error off => exact hn _
      | ok v =>
        refine Keeps.ite1 ?_ (Keeps.ite1 hf (Keeps.ite1 hk (Keeps.ite1 hk (Keeps.ite1 ?_ (agingUpdate_keeps _ _ _ _ _ hk)))))
        · dsimp only
          split
          · exact Keeps.of_core (dropLane_core _ _) hf
          · exact hf
        · exact Keeps.of_core (didData_core _ _) (baseline_keeps _ hk)
theorem bodyTrimDeltaWrite_keeps {z : State} (c : Ctx) (s : State) (hk : Keeps z s) : Keeps z (bodyTrimDeltaWrite c s).1 := by
  unfold bodyTrimDeltaWrite
  (try dsimp only)
  repeat' first
    | with_reducible assumption
    | with_reducible refine writeGainU_keeps _ _ ?_
    | with_reducible refine Keeps.of_core (didData_core _ _) ?_
    | with_reducible refine Keeps.of_core (no_core _ _) ?_
    | split
theorem restoreStart_keeps {z : State} (m : BitVec 8) (s : State) (hk : Keeps z s) : Keeps z (restoreStart m s) := by
  unfold restoreStart
  (try dsimp only)
  repeat' first
    | with_reducible assumption
    | with_reducible refine Keeps.onNvm ?_ _ rfl
    | with_reducible refine Keeps.of_core (State.core_onHk _ _) ?_
    | with_reducible refine baseline_keeps _ ?_
    | with_reducible refine nextCalGen_keeps _ ?_
    | with_reducible refine saveCfg_keeps _ _ ?_
    | with_reducible refine Keeps.of_core (touchMram_core _ _ _) ?_
    | split
theorem bodyRestoreFactory_keeps {z : State} (c : Ctx) (s : State) (hk : Keeps z s) : Keeps z (bodyRestoreFactory c s).1 := by
  unfold bodyRestoreFactory
  (try dsimp only)
  repeat' first
    | with_reducible assumption
    | with_reducible refine restoreStart_keeps _ _ ?_
    | with_reducible refine Keeps.of_core (no_core _ _) ?_
    | split
theorem bodyCvConfig_keeps {z : State} (c : Ctx) (s : State) (hk : Keeps z s) : Keeps z (bodyCvConfig c s).1 := by
  unfold bodyCvConfig
  (try dsimp only)
  repeat' first
    | with_reducible assumption
    | with_reducible refine snoopInvalid_keeps _ _ ?_
    | with_reducible refine Keeps.of_core (did_core _) ?_
    | with_reducible refine Keeps.of_core (no_core _ _) ?_
    | with_reducible refine Keeps.of_core (State.setFld_core _ _ _ _ _) ?_
    | with_reducible refine Keeps.forN _ (fun _ _ _ => ?_) _ _ ?_
    | split
theorem scanError_keeps {z : State} (c : Scan) (a : Nat) (s : State) (hk : Keeps z s) : Keeps z (scanError c a s) := by
  unfold scanError
  (try dsimp only)
  repeat' first
    | with_reducible assumption
    | with_reducible refine bankError_keeps _ _ _ ?_
    | with_reducible refine Keeps.of_core (abortScan_core _ _) ?_
    | with_reducible refine Keeps.of_core (record_core _ _ _ _) ?_
    | split
theorem scanCe_keeps {z : State} (c : Scan) (ceAt : List Nat) (s : State) (hk : Keeps z s) : Keeps z (scanCe c ceAt s) := by
  unfold scanCe
  split
  · exact Keeps.of_core (eccCorrected_core _ _ _ _ _) hk
  · exact Keeps.foldl _ (fun _ _ hx => Keeps.of_core (record_core _ _ _ _) hx) _ hk
theorem cvScanEvent_keeps {z : State} (ueAt : Option Nat) (ceAt : List Nat) (mram : Nat → Byte) (s : State) (hk : Keeps z s) :
    Keeps z (cvScanEvent ueAt ceAt mram s) := by
  unfold cvScanEvent
  (try dsimp only)
  repeat' first
    | with_reducible refine scanCe_keeps _ _ _ ?_
    | with_reducible assumption
    | with_reducible refine scanError_keeps _ _ _ ?_
    | with_reducible refine Keeps.of_core (scanDone_core _ _ _) ?_
    | split
theorem onSlot_keeps {z : State} (n : Nat) (f : KeySlot → KeySlot) (s : State) (hk : Keeps z s) : Keeps z (onSlot n f s) := by
  unfold onSlot
  exact Keeps.onSec hk _ (by simp [modAt]) (Nat.le_refl _) id
theorem changeKey_keeps {z : State} (n : Nat) (f : KeySlot → KeySlot) (s : State) (hk : Keeps z s) : Keeps z (changeKey n f s) := by
  unfold changeKey
  refine onSlot_keeps _ _ _ ?_
  refine Keeps.of_core ?_ hk
  simp only [State.core_ite, breakExch_core, ite_self]
theorem bodyKeyInstall_keeps {z : State} (c : Ctx) (s : State) (hk : Keeps z s) : Keeps z (bodyKeyInstall c s).1 := by
  unfold bodyKeyInstall
  (try dsimp only)
  repeat' first
    | with_reducible assumption
    | with_reducible refine changeKey_keeps _ _ _ ?_
    | with_reducible refine Keeps.of_core (did_core _) ?_
    | with_reducible refine Keeps.of_core (no_core _ _) ?_
    | with_reducible refine Keeps.of_core (record_core _ _ _ _) ?_
    | split
theorem bodyKeyRetire_keeps {z : State} (c : Ctx) (s : State) (hk : Keeps z s) : Keeps z (bodyKeyRetire c s).1 := by
  unfold bodyKeyRetire
  (try dsimp only)
  repeat' first
    | with_reducible assumption
    | with_reducible refine changeKey_keeps _ _ _ ?_
    | with_reducible refine Keeps.of_core (did_core _) ?_
    | with_reducible refine Keeps.of_core (no_core _ _) ?_
    | with_reducible refine Keeps.of_core (record_core _ _ _ _) ?_
    | split
theorem imgSet_bound (m : List Host.Cell) (a : Nat) (v : Byte) (h : imgWf m = true) :
    imgWf (spSet (imgDefault a) m a v) = true := by
  induction m with
  | nil =>
    unfold spSet
    split
    · rfl
    · simp [imgWf, *]
  | cons e t ih =>
    obtain ⟨k, w⟩ := e
    simp only [imgWf, Bool.and_eq_true, decide_eq_true_eq, List.all_eq_true] at h
    obtain ⟨⟨hw, hk⟩, ht⟩ := h
    unfold spSet
    split
    · split
      · simp only [imgWf, Bool.and_eq_true, decide_eq_true_eq, List.all_eq_true]; exact ⟨⟨hw, hk⟩, ht⟩
      · rename_i hak hv
        simp only [imgWf, Bool.and_eq_true, decide_eq_true_eq, List.all_eq_true]
        refine ⟨⟨hv, ?_⟩, ⟨hw, hk⟩, ht⟩
        intro e he
        rcases List.mem_cons.mp he with rfl | he
        · exact hak
        · exact Nat.lt_trans hak (hk e he)
    · split
      · rename_i hak hka
        split
        · exact ht
        · rename_i hv
          simp only [imgWf, Bool.and_eq_true, decide_eq_true_eq, List.all_eq_true]
          refine ⟨⟨hv, ?_⟩, ht⟩
          intro e he; rw [hka]; exact hk e he
      · rename_i hak hka
        simp only [imgWf, Bool.and_eq_true, decide_eq_true_eq, List.all_eq_true]
        refine ⟨⟨hw, ?_⟩, ih ht⟩
        intro e he
        rcases spSet_bound _ t a v e he with he | he
        · exact hk e he
        · omega

theorem bodyFwStage_keeps {z : State} (c : Ctx) (s : State) (hk : Keeps z s) : Keeps z (bodyFwStage c s).1 := by
  unfold bodyFwStage
  dsimp only
  have hp : ∀ (l : List (Byte × Nat)) (a : Nat) (m : List Host.Cell), imgWf m = true →
      imgWf (l.foldl (fun m e => spSet (if a + e.2 < 0x100000 then Config.imageByte (a + e.2) else 0) m (a + e.2) e.1) m) = true := by
    intro l a
    induction l with
    | nil => intro m h; exact h
    | cons e l ih => intro m h; exact ih _ (imgSet_bound m (a + e.2) e.1 h)
  repeat' split
  all_goals first
    | exact Keeps.of_core (no_core _ _) hk
    | (refine Keeps.of_core (did_core _) (Keeps.onSec (Keeps.of_core (touchMram_core _ _ _) ?_) _ rfl (Nat.le_refl _) id)
       exact ⟨hk.1, hk.2, fun x => hp _ _ _ (hk.3 x), hk.4, hk.5, hk.6, hk.7, hk.8, hk.9⟩)
theorem stageVerify_keeps {z : State} (s : State) (hk : Keeps z s) : Keeps z (stageVerify s) := by
  unfold stageVerify
  (try dsimp only)
  repeat' first
    | with_reducible assumption
    | with_reducible refine Keeps.onSec ?_ _ rfl (Nat.le_refl _) id
    | with_reducible refine Keeps.of_core (record_core _ _ _ _) ?_
    | with_reducible refine Keeps.of_core (rollback_core _ _) ?_
    | split
theorem activateImage_keeps {z : State} (n : Nat) (s : State) (hk : Keeps z s) : Keeps z (activateImage n s) := by
  unfold activateImage
  exact ⟨hk.1, hk.2, hk.3, hk.4, hk.5, hk.6, hk.7, hk.8, hk.9⟩
theorem bodyFwActivate_keeps {z : State} (c : Ctx) (s : State) (hk : Keeps z s) : Keeps z (bodyFwActivate c s).1 := by
  unfold bodyFwActivate
  (try dsimp only)
  repeat' first
    | with_reducible assumption
    | with_reducible refine activateImage_keeps _ _ ?_
    | with_reducible refine Keeps.of_core (no_core _ _) ?_
    | split
theorem bodyServiceUnlock_keeps {z : State} (c : Ctx) (s : State) (hk : Keeps z s) : Keeps z (bodyServiceUnlock c s).1 := by
  unfold bodyServiceUnlock
  (try dsimp only)
  repeat' first
    | with_reducible assumption
    | with_reducible refine authFail_keeps _ _ _ _ ?_
    | with_reducible refine Keeps.of_core (did_core _) ?_
    | with_reducible refine Keeps.of_core (enterState_core _ _) ?_
    | with_reducible refine Keeps.of_core (no_core _ _) ?_
    | with_reducible refine Keeps.of_core (record_core _ _ _ _) ?_
    | split
theorem lockoutEnd_keeps {z : State} (s : State) (hk : Keeps z s) : Keeps z (lockoutEnd s) := by
  unfold lockoutEnd
  (try dsimp only)
  repeat' first
    | with_reducible assumption
    | with_reducible refine Keeps.onSec ?_ _ rfl (Nat.le_refl _) id
    | split
theorem placeWord_keeps {z : State} (a : Nat) (v : Word) (s : State) (hk : Keeps z s) : Keeps z (placeWord a v s) := by
  unfold placeWord
  (try dsimp only)
  repeat' first
    | with_reducible assumption
    | with_reducible refine Keeps.onStore ?_ _ rfl (Nat.le_refl _) rfl rfl
    | with_reducible refine Keeps.of_core (State.setReg_core _ _ _) ?_
    | split
theorem writeWord_keeps {z : State} (a : Nat) (v : Word) (s0 : State) (hk : Keeps z s0) : Keeps z (writeWord a v s0) := by
  unfold writeWord
  (try dsimp only)
  repeat' first
    | with_reducible assumption
    | with_reducible refine Keeps.of_core (State.core_onMal _ _) ?_
    | with_reducible refine Keeps.of_core (State.core_onCv _ _) ?_
    | with_reducible refine placeWord_keeps _ _ _ ?_
    | with_reducible refine removeCuts_keeps _ _ _ _ ?_
    | with_reducible refine snoopInvalid_keeps _ _ ?_
    | with_reducible refine storeReg_keeps _ _ _ ?_
    | with_reducible refine writeCanCfg_keeps _ _ ?_
    | with_reducible refine Keeps.of_core (carlUnfence_core _ _) ?_
    | with_reducible refine Keeps.of_core (fltPut_core _ _ _ _) ?_
    | with_reducible refine Keeps.of_core (frameCfgChanged_core _) ?_
    | with_reducible refine Keeps.of_core (hkCtrl_core _ _) ?_
    | with_reducible refine Keeps.of_core (linkCtrl_core _ _) ?_
    | with_reducible refine Keeps.of_core (linkEnableChanged_core _ _ _) ?_
    | with_reducible refine Keeps.of_core (malletUnfence_core _ _) ?_
    | with_reducible refine Keeps.of_core (pwrCtrl_core _ _) ?_
    | with_reducible refine Keeps.of_core (sliceUnfence_core _ _) ?_
    | with_reducible refine Keeps.of_core (taborApply_core _ _) ?_
    | with_reducible refine Keeps.of_core (taborWord_core _ _ _) ?_
    | with_reducible refine Keeps.forN _ (fun _ _ _ => ?_) _ _ ?_
    | split
theorem bodyRegWrite_keeps {z : State} (c : Ctx) (s : State) (hk : Keeps z s) : Keeps z (bodyRegWrite c s).1 := by
  unfold bodyRegWrite
  (try dsimp only)
  repeat' first
    | with_reducible assumption
    | with_reducible refine writeWord_keeps _ _ _ ?_
    | with_reducible refine Keeps.of_core (did_core _) ?_
    | with_reducible refine Keeps.of_core (no_core _ _) ?_
    | with_reducible refine Keeps.foldl _ (fun _ _ _ => ?_) _ ?_
    | split
theorem writeLimp_keeps {z : State} (first : Nat) (vals : List Nat) (s : State) (hk : Keeps z s) : Keeps z (writeLimp first vals s) := by
  unfold writeLimp
  (try dsimp only)
  repeat' first
    | with_reducible assumption
    | with_reducible refine Keeps.onNvm ?_ _ rfl
    | with_reducible refine saveCfg_keeps _ _ ?_
    | with_reducible refine Keeps.of_core (touchMram_core _ _ _) ?_
    | with_reducible refine Keeps.foldl _ (fun _ _ _ => ?_) _ ?_
    | split
theorem tabWrite_keeps {z : State} (id first : Nat) (vals : List Nat) (s : State) (hk : Keeps z s) : Keeps z (tabWrite id first vals s).1 := by
  unfold tabWrite
  (try dsimp only)
  repeat' first
    | with_reducible assumption
    | with_reducible refine Keeps.of_core (State.core_onHk _ _) ?_
    | with_reducible refine writeColDelta_keeps _ _ _ ?_
    | with_reducible refine writeGainF_keeps _ _ _ ?_
    | with_reducible refine writeGainU_keeps _ _ ?_
    | with_reducible refine writeLimp_keeps _ _ _ ?_
    | with_reducible refine writeShadow_keeps _ _ _ _ ?_
    | with_reducible refine Keeps.of_core (State.freeNext_core _) ?_
    | with_reducible refine Keeps.foldl _ (fun _ _ _ => ?_) _ ?_
    | split
theorem bodyTableWrite_keeps {z : State} (c : Ctx) (s : State) (hk : Keeps z s) : Keeps z (bodyTableWrite c s).1 := by
  unfold bodyTableWrite
  (try dsimp only)
  repeat' first
    | with_reducible assumption
    | with_reducible refine tabWrite_keeps _ _ _ _ ?_
    | with_reducible refine Keeps.of_core (didData_core _ _) ?_
    | with_reducible refine Keeps.of_core (no_core _ _) ?_
    | split
theorem writeDump_keeps {z : State} (slot cause : Nat) (s : State) (hk : Keeps z s) : Keeps z (writeDump slot cause s) := by
  unfold writeDump
  (try dsimp only)
  repeat' first
    | with_reducible assumption
    | with_reducible refine Keeps.onNvm ?_ _ rfl
    | with_reducible refine Keeps.of_core (State.core_onFreeIdx _ _) ?_
    | with_reducible refine Keeps.of_core (appendLog_core _ _) ?_
    | with_reducible refine Keeps.of_core (touchMram_core _ _ _) ?_
    | split
theorem bodyDumpClear_keeps {z : State} (c : Ctx) (s : State) (hk : Keeps z s) : Keeps z (bodyDumpClear c s).1 := by
  unfold bodyDumpClear
  (try dsimp only)
  repeat' first
    | with_reducible assumption
    | with_reducible refine Keeps.onNvm ?_ _ rfl
    | with_reducible refine Keeps.of_core (did_core _) ?_
    | with_reducible refine Keeps.of_core (no_core _ _) ?_
    | with_reducible refine Keeps.of_core (touchMram_core _ _ _) ?_
    | split
theorem coldReset_keeps {z : State} (s : State) (hk : Keeps z s) : Keeps z (coldReset s) := by
  unfold coldReset
  exact ⟨hk.1, fun _ => rfl, hk.3, fun _ => Nat.zero_le _, hk.5, fun _ => List.length_replicate, fun _ => List.length_replicate, hk.8, hk.9⟩
theorem bistFailed_keeps {z : State} (u : BistUnit) (s : State) (hk : Keeps z s) : Keeps z (bistFailed u s) := by
  unfold bistFailed
  (try dsimp only)
  repeat' first
    | with_reducible assumption
    | with_reducible refine Keeps.onStore ?_ _ rfl (Nat.le_refl _) rfl rfl
    | with_reducible refine Keeps.of_core (State.core_onPix _ _) ?_
    | with_reducible refine Keeps.of_core (State.core_onMal _ _) ?_
    | with_reducible refine Keeps.of_core (State.core_onSafe _ _) ?_
    | with_reducible refine Keeps.of_core (fenceSlice_core _ _) ?_
    | with_reducible refine Keeps.of_core (fenceSpare_core _) ?_
    | with_reducible refine Keeps.of_core (loseLane_core _ _) ?_
    | with_reducible refine Keeps.of_core (record_core _ _ _ _) ?_
    | split
theorem bistAll_keeps {z : State} (us : List BistUnit) (s : State) (hk : Keeps z s) : Keeps z (bistAll us s) := by
  unfold bistAll
  (try dsimp only)
  repeat' first
    | with_reducible assumption
    | with_reducible refine Keeps.of_core (State.core_onSys _ _) ?_
    | with_reducible refine bistFailed_keeps _ _ ?_
    | with_reducible refine Keeps.foldl _ (fun _ _ _ => ?_) _ ?_
    | split
theorem takeBootCfg_keeps {z : State} (s : State) (hk : Keeps z s) : Keeps z (takeBootCfg s) :=
  Keeps.of_core (State.core_onSys _ _) (Keeps.of_core (State.setReg_core _ _ _) hk)
theorem chooseCfg_keeps {z : State} (o : BootObs) (s : State) (hk : Keeps z s) : Keeps z (chooseCfg o s) := by
  unfold chooseCfg
  (try dsimp only)
  repeat' first
    | with_reducible assumption
    | with_reducible refine takeBootCfg_keeps _ ?_
    | with_reducible refine Keeps.of_core (State.core_onSys _ _) ?_
    | with_reducible refine Keeps.onNvm ?_ _ rfl
    | with_reducible refine Keeps.of_core (State.freeNext_core _) ?_
    | with_reducible refine Keeps.of_core (record_core _ _ _ _) ?_
    | split
theorem mendFloor_keeps {z : State} (s : State) (hk : Keeps z s) : Keeps z (mendFloor s) := by
  unfold mendFloor
  (try dsimp only)
  repeat' first
    | with_reducible assumption
    | with_reducible refine Keeps.onNvm ?_ _ rfl
    | with_reducible refine Keeps.of_core (touchMram_core _ _ _) ?_
    | split
theorem startFirmware_keeps {z : State} (s : State) (hk : Keeps z s) : Keeps z (startFirmware s) := by
  unfold startFirmware
  (try dsimp only)
  repeat' first
    | with_reducible assumption
    | with_reducible refine Keeps.of_core (State.core_onSys _ _) ?_
    | with_reducible refine Keeps.of_core (State.core_onClap _ _) ?_
    | with_reducible refine Keeps.onNvm ?_ _ rfl
    | with_reducible refine Keeps.of_core (State.core_onTab _ _) ?_
    | with_reducible refine Keeps.of_core (State.core_onMal _ _) ?_
    | with_reducible refine Keeps.of_core (State.core_onRegs _ _) ?_
    | with_reducible refine mendFloor_keeps _ ?_
    | with_reducible refine Keeps.of_core (newAcquisition_core _ _) ?_
    | with_reducible refine Keeps.of_core (syncStb_core _) ?_
    | with_reducible refine Keeps.forN _ (fun _ _ _ => ?_) _ _ ?_
    | split
theorem startBlocks_keeps {z : State} (o : BootObs) (s : State) (hk : Keeps z s) : Keeps z (startBlocks o s) := by
  unfold startBlocks
  (try dsimp only)
  repeat' first
    | with_reducible assumption
    | with_reducible refine Keeps.of_core (State.core_onSys _ _) ?_
    | with_reducible refine Keeps.onStore ?_ _ rfl (Nat.le_refl _) rfl rfl
    | with_reducible refine Keeps.of_core (State.core_onPix _ _) ?_
    | with_reducible refine Keeps.of_core (State.core_onMal _ _) ?_
    | with_reducible refine Keeps.of_core (State.core_onHk _ _) ?_
    | with_reducible refine bistAll_keeps _ _ ?_
    | with_reducible refine Keeps.of_core (factorySlices_core _) ?_
    | with_reducible refine Keeps.foldl _ (fun _ _ _ => ?_) _ ?_
    | split
theorem readMram_keeps {z : State} (o : BootObs) (s : State) (hk : Keeps z s) : Keeps z (readMram o s) := by
  unfold readMram
  have hr : ∀ (b src : Nat) {α : Type} (g : α → FltArg) (l : List α) (x : State), Keeps z x → Keeps z (l.foldl (fun s a => record b src (g a) s) x) :=
    fun b src _ g l x hx => Keeps.foldl _ (fun y a hy => Keeps.of_core (record_core b src (g a) y) hy) l hx
  have h2 := hr bSEC 4 (fun k : Fin 16 => atUnit k.val) (o.keyUe ++ o.keyGone) _ (hr bNVM 0 (fun a : BitVec 23 => withVal a.toNat) o.mramCe s hk)
  exact Keeps.onSec h2 _ (foldl_keeps List.length _ (fun _ _ => List.length_set) _ _) (Nat.le_refl _) id
theorem coldBoot_keeps {z : State} (cause : BitVec 4) (o : BootObs) (s : State) (hk : Keeps z s) : Keeps z (coldBoot cause o s) := by
  unfold coldBoot
  (try dsimp only)
  repeat' first
    | with_reducible assumption
    | with_reducible refine readMram_keeps _ _ ?_
    | with_reducible refine Keeps.of_core (State.core_onSys _ _) ?_
    | with_reducible refine Keeps.of_core (State.core_onTab _ _) ?_
    | with_reducible refine chooseCfg_keeps _ _ ?_
    | with_reducible refine startBlocks_keeps _ _ ?_
    | with_reducible refine startFirmware_keeps _ ?_
    | with_reducible refine Keeps.of_core (chooseImage_core _) ?_
    | with_reducible refine Keeps.of_core (gongPoint_core _ _) ?_
    | with_reducible refine Keeps.of_core (loadLimp_core _ _) ?_
    | with_reducible refine Keeps.of_core (startDetect_core _) ?_
    | with_reducible refine Keeps.of_core (syncOwner_core _) ?_
    | split
theorem activateReset_keeps {z : State} (o : BootObs) (s : State) (hk : Keeps z s) : Keeps z (activateReset o s) := by
  unfold activateReset
  (try dsimp only)
  repeat' first
    | with_reducible assumption
    | with_reducible refine coldBoot_keeps _ _ _ ?_
    | with_reducible refine coldReset_keeps _ ?_
    | split
@[simp] theorem suppliesBack_core (s : State) : (suppliesBack s).core = s.core := rfl
theorem standbyState_keeps {z : State} (s : State) (hk : Keeps z s) : Keeps z (standbyState s) := by
  unfold standbyState
  (try dsimp only)
  repeat' first
    | with_reducible assumption
    | with_reducible refine Keeps.of_core (suppliesBack_core _) ?_
    | with_reducible refine Keeps.of_core (State.core_onSys _ _) ?_
    | with_reducible refine coldReset_keeps _ ?_
    | split
theorem standbyDone_keeps {z : State} (o : BootObs) (s : State) (hk : Keeps z s) : Keeps z (standbyDone o s) := by
  unfold standbyDone
  (try dsimp only)
  repeat' first
    | with_reducible assumption
    | with_reducible refine coldBoot_keeps _ _ _ ?_
    | with_reducible refine coldReset_keeps _ ?_
    | with_reducible refine standbyState_keeps _ ?_
    | split
theorem wakeLowEvent_keeps {z : State} (s : State) (hk : Keeps z s) : Keeps z (wakeLowEvent s) := by
  unfold wakeLowEvent
  (try dsimp only)
  repeat' first
    | with_reducible assumption
    | with_reducible refine Keeps.of_core (State.core_onSys _ _) ?_
    | with_reducible refine standbyState_keeps _ ?_
    | with_reducible refine Keeps.of_core (standbyBegin_core _) ?_
    | split
theorem wakeRiseEvent_keeps {z : State} (st : Straps) (o : BootObs) (s : State) (hk : Keeps z s) : Keeps z (wakeRiseEvent st o s) := by
  unfold wakeRiseEvent
  (try dsimp only)
  repeat' first
    | with_reducible assumption
    | with_reducible refine Keeps.of_core (State.core_onSys _ _) ?_
    | with_reducible refine coldBoot_keeps _ _ _ ?_
    | with_reducible refine coldReset_keeps _ ?_
    | with_reducible refine Keeps.of_core (sampleStraps_core _ _) ?_
    | split
theorem vaonApplyEvent_keeps {z : State} (st : Straps) (o : BootObs) (s : State) (hk : Keeps z s) : Keeps z (vaonApplyEvent st o s) := by
  unfold vaonApplyEvent
  (try dsimp only)
  repeat' first
    | with_reducible assumption
    | with_reducible refine Keeps.of_core (State.core_onSys _ _) ?_
    | with_reducible refine coldBoot_keeps _ _ _ ?_
    | with_reducible refine coldReset_keeps _ ?_
    | with_reducible refine standbyState_keeps _ ?_
    | with_reducible refine Keeps.of_core (sampleStraps_core _ _) ?_
    | split
theorem vaonLossEvent_keeps {z : State} (s : State) (hk : Keeps z s) : Keeps z (vaonLossEvent s) := by
  unfold vaonLossEvent
  (try dsimp only)
  repeat' first
    | with_reducible assumption
    | with_reducible refine Keeps.of_core (suppliesBack_core _) ?_
    | with_reducible refine Keeps.of_core (State.core_onSys _ _) ?_
    | with_reducible refine coldReset_keeps _ ?_
    | split
theorem rstLowEvent_keeps {z : State} (s : State) (hk : Keeps z s) : Keeps z (rstLowEvent s) := by
  unfold rstLowEvent
  (try dsimp only)
  repeat' first
    | with_reducible assumption
    | with_reducible refine Keeps.of_core (State.core_onSys _ _) ?_
    | with_reducible refine coldReset_keeps _ ?_
    | with_reducible refine standbyState_keeps _ ?_
    | split
theorem rstReleaseEvent_keeps {z : State} (st : Straps) (o : BootObs) (s : State) (hk : Keeps z s) : Keeps z (rstReleaseEvent st o s) := by
  unfold rstReleaseEvent
  (try dsimp only)
  repeat' first
    | with_reducible assumption
    | with_reducible refine Keeps.of_core (suppliesBack_core _) ?_
    | with_reducible refine Keeps.of_core (State.core_onSys _ _) ?_
    | with_reducible refine coldBoot_keeps _ _ _ ?_
    | with_reducible refine coldReset_keeps _ ?_
    | with_reducible refine standbyState_keeps _ ?_
    | with_reducible refine Keeps.of_core (sampleStraps_core _ _) ?_
    | split
theorem domainSwEvent_keeps {z : State} (d : Nat) (s : State) (hk : Keeps z s) : Keeps z (domainSwEvent d s) := by
  unfold domainSwEvent
  (try dsimp only)
  repeat' first
    | with_reducible assumption
    | with_reducible refine Keeps.of_core (State.core_onSys _ _) ?_
    | with_reducible refine bistFailed_keeps _ _ ?_
    | with_reducible refine Keeps.of_core (record_core _ _ _ _) ?_
    | with_reducible refine Keeps.foldl _ (fun _ _ _ => ?_) _ ?_
    | split
theorem gongBist_keeps {z : State} (fails : List BistUnit) (s : State) (hk : Keeps z s) : Keeps z (gongBist fails s) := by
  unfold gongBist
  (try dsimp only)
  repeat' first
    | with_reducible assumption
    | with_reducible refine bistAll_keeps _ _ ?_
    | with_reducible refine gongExitGo_keeps _ _ ?_
    | with_reducible refine Keeps.of_core (finishLong_core _ _ _) ?_
    | split
theorem bistDoneEvent_keeps {z : State} (fails : List BistUnit) (s : State) (hk : Keeps z s) : Keeps z (bistDoneEvent fails s) := by
  unfold bistDoneEvent
  (try dsimp only)
  repeat' first
    | with_reducible assumption
    | with_reducible refine Keeps.of_core (State.core_onSys _ _) ?_
    | with_reducible refine gongBist_keeps _ _ ?_
    | with_reducible refine Keeps.of_core (unfenceDone_core _ _ _) ?_
    | with_reducible refine Keeps.foldl _ (fun _ _ _ => ?_) _ ?_
    | split
theorem endService_keeps {z : State} (s : State) (hk : Keeps z s) : Keeps z (endService s) := by
  unfold endService
  (try dsimp only)
  repeat' first
    | with_reducible assumption
    | with_reducible refine Keeps.of_core (State.core_onCarl _ _) ?_
    | with_reducible refine Keeps.of_core (State.core_onMal _ _) ?_
    | with_reducible refine toReady_keeps _ ?_
    | with_reducible refine Keeps.of_core (abandonLight_core _) ?_
    | split
theorem recordLost_keeps {z : State} (q : List EvtRec) (s : State) (hk : Keeps z s) : Keeps z (recordLost q s) :=
  Keeps.foldl _ (fun _ _ hx => Keeps.of_core (record_core _ _ _ _) hx) _ hk
theorem warmBegin_keeps {z : State} (cause : Nat) (s : State) (hk : Keeps z s) : Keeps z (warmBegin cause s) := by
  unfold warmBegin
  (try dsimp only)
  repeat' first
    | with_reducible assumption
    | with_reducible refine recordLost_keeps _ _ ?_
    | with_reducible refine Keeps.of_core (State.core_onSys _ _) ?_
    | with_reducible refine Keeps.of_core (State.core_onClap _ _) ?_
    | with_reducible refine Keeps.of_core (State.core_onSpi _ _) ?_
    | with_reducible refine endService_keeps _ ?_
    | with_reducible refine writeDump_keeps _ _ _ ?_
    | with_reducible refine Keeps.of_core (record_core _ _ _ _) ?_
    | split
theorem afterReply_keeps {z : State} (p : Post) (s : State) (hk : Keeps z s) : Keeps z (afterReply p s) := by
  unfold afterReply
  (try dsimp only)
  repeat' first
    | with_reducible assumption
    | with_reducible refine Keeps.of_core (State.core_onSys _ _) ?_
    | with_reducible refine warmBegin_keeps _ _ ?_
    | with_reducible refine Keeps.of_core (standbyBegin_core _) ?_
    | split
theorem conclude_keeps {z : State} (c : Ctx) (a : Ans) (s : State) (hk : Keeps z s) : Keeps z (conclude c a s) := by
  unfold conclude
  (try dsimp only)
  repeat' first
    | with_reducible assumption
    | with_reducible refine Keeps.of_core (State.core_onClap _ _) ?_
    | with_reducible refine afterReply_keeps _ _ ?_
    | with_reducible refine Keeps.of_core (completeSilent_core _ _) ?_
    | with_reducible refine Keeps.of_core (enqueueDue_core _ _ _) ?_
    | with_reducible refine Keeps.of_core (finish_core _ _ _) ?_
    | with_reducible refine Keeps.of_core (sendPending_core _ _) ?_
    | split
theorem opBody_keeps {z : State} (op : Nat) (c : Ctx) (s : State) (hk : Keeps z s) : Keeps z (opBody op c s).1 := by
  unfold opBody
  split
  · exact Keeps.of_core (bodyNop_core _ _) hk
  · exact Keeps.of_core (bodyPing_core _ _) hk
  · exact Keeps.of_core (bodyGetInfo_core _ _) hk
  · exact Keeps.of_core (bodyResetWarm_core _ _) hk
  · exact Keeps.of_core (bodyEnterStandby_core _ _) hk
  · exact Keeps.of_core (bodySetProfile_core _ _) hk
  · exact Keeps.of_core (bodyLightOn_core _ _) hk
  · exact Keeps.of_core (bodyLightOff_core _ _) hk
  · exact Keeps.of_core (bodyStillEnter_core _ _) hk
  · exact Keeps.of_core (bodyStillExit_core _ _) hk
  · exact Keeps.of_core (bodyGongEnter_core _ _) hk
  · exact bodyGongExit_keeps _ _ hk
  · exact bodyBufAlloc_keeps _ _ hk
  · exact bodyBufFree_keeps _ _ hk
  · exact bodyLayerSet_keeps _ _ hk
  · exact bodyLayerGroup_keeps _ _ hk
  · exact bodyFenceArm_keeps _ _ hk
  · exact bodyFenceSignal_keeps _ _ hk
  · exact bodyCommit_keeps _ _ hk
  · exact bodyWritebackSet_keeps _ _ hk
  · exact Keeps.of_core (bodyFrameRecordGet_core _ _) hk
  · exact Keeps.of_core (bodyFloorGet_core _ _) hk
  · exact bodyKeepoutSet_keeps _ _ hk
  · exact bodySafetyPolicySet_keeps _ _ hk
  · exact bodyDegradeLimitSet_keeps _ _ hk
  · exact Keeps.of_core (bodySafetyStatus_core _ _) hk
  · exact bodyCalRun_keeps _ _ hk
  · exact Keeps.of_core (bodyCalQuery_core _ _) hk
  · exact bodyTrimDeltaWrite_keeps _ _ hk
  · exact bodyRestoreFactory_keeps _ _ hk
  · exact Keeps.of_core (bodyTimeConfig_core _ _) hk
  · exact Keeps.of_core (bodyTimeQuery_core _ _) hk
  · exact Keeps.of_core (bodyScheduleAt_core _ _) hk
  · exact Keeps.of_core (bodyFaultQuery_core _ _) hk
  · exact Keeps.of_core (bodyFaultClear_core _ _) hk
  · exact Keeps.of_core (bodyLogRead_core _ _) hk
  · exact Keeps.of_core (bodyDumpRead_core _ _) hk
  · exact bodyDumpClear_keeps _ _ hk
  · exact Keeps.of_core (bodyRollMapRead_core _ _) hk
  · exact Keeps.of_core (bodyHkSeqSet_core _ _) hk
  · exact bodyCvConfig_keeps _ _ hk
  · exact Keeps.of_core (bodyCvScan_core _ _) hk
  · exact Keeps.of_core (bodyCvResult_core _ _) hk
  · exact Keeps.of_core (bodyRegRead_core _ _) hk
  · exact bodyRegWrite_keeps _ _ hk
  · exact Keeps.of_core (bodyTableRead_core _ _) hk
  · exact bodyTableWrite_keeps _ _ hk
  · exact bodyKeyInstall_keeps _ _ hk
  · exact bodyKeyRetire_keeps _ _ hk
  · exact bodyFwStage_keeps _ _ hk
  · exact bodyFwActivate_keeps _ _ hk
  · exact bodyServiceUnlock_keeps _ _ hk
  · exact Keeps.of_core (no_core _ _) hk

theorem run7_keeps {z : State} (c : Ctx) (s : State) (hk : Keeps z s) : Keeps z (run7 c s) := by
  unfold run7
  split
  · exact Keeps.of_core (finish_core _ _ _) hk
  · exact conclude_keeps _ _ _ (opBody_keeps _ _ _ hk)
theorem takeSeq_keeps {z : State} (p : CmdPkt) (s : State) (hk : Keeps z s) : Keeps z (takeSeq p s) := by
  unfold takeSeq
  (try dsimp only)
  repeat' first
    | with_reducible assumption
    | with_reducible refine Keeps.of_core (State.core_onClap _ _) ?_
    | with_reducible refine onSlot_keeps _ _ _ ?_
    | split
theorem accept_keeps {z : State} (p : CmdPkt) (s : State) (hk : Keeps z s) : Keeps z (accept p s) := by
  unfold accept
  (try dsimp only)
  repeat' first
    | with_reducible assumption
    | with_reducible refine run7_keeps _ _ ?_
    | with_reducible refine takeSeq_keeps _ _ ?_
    | with_reducible refine Keeps.of_core (journal_core _ _) ?_
    | split
theorem process_keeps {z : State} (p : CmdPkt) (s : State) (hk : Keeps z s) : Keeps z (process p s) := by
  unfold process
  (try dsimp only)
  repeat' first
    | with_reducible assumption
    | with_reducible refine accept_keeps _ _ ?_
    | with_reducible refine authFail_keeps _ _ _ _ ?_
    | with_reducible refine Keeps.of_core (record_core _ _ _ _) ?_
    | with_reducible refine Keeps.of_core (seqRefused_core _ _) ?_
    | with_reducible refine Keeps.of_core (turnAway_core _ _ _) ?_
    | split
theorem runDue_keeps {z : State} (arrived : Nat) (lseq : Word) (s : State) (hk : Keeps z s) : Keeps z (runDue arrived lseq s) := by
  unfold runDue
  (try dsimp only)
  repeat' first
    | with_reducible assumption
    | with_reducible refine run7_keeps _ _ ?_
    | with_reducible refine Keeps.of_core (dropLong_core _ _) ?_
    | split
theorem drainOne_keeps {z : State} (s : State) (hk : Keeps z s) : Keeps z (drainOne s) := by
  unfold drainOne
  (try dsimp only)
  repeat' first
    | with_reducible assumption
    | with_reducible refine Keeps.of_core (returnCredits_core _ _ _) ?_
    | with_reducible refine Keeps.of_core (State.core_onClap _ _) ?_
    | with_reducible refine process_keeps _ _ ?_
    | with_reducible refine runDue_keeps _ _ _ ?_
    | split
theorem drain_keeps {z : State} (s : State) (hk : Keeps z s) : Keeps z (drain s) := by
  unfold drain
  (try dsimp only)
  repeat' first
    | with_reducible assumption
    | with_reducible refine drainOne_keeps _ ?_
    | with_reducible refine Keeps.iter _ (fun _ _ => ?_) _ ?_
    | split
theorem rxAny_keeps {z : State} (raw : Bytes) (s : State) (hk : Keeps z s) : Keeps z (rxAny raw s) := by
  have hl := linkRx_core raw s
  unfold rxAny
  split
  all_goals
    rename_i heq
    rw [heq] at hl
    first
    | exact wrEvent_keeps _ _ _ (Keeps.of_core hl hk)
    | exact fenEvent_keeps _ _ _ (Keeps.of_core hl hk)
    | exact smsgEvent_keeps _ _ _ (Keeps.of_core hl hk)
    | exact tsyMsg_keeps _ _ _ _ (Keeps.of_core hl hk)
    | exact Keeps.of_core (rxCmd_core _ _ _ _) (Keeps.of_core hl hk)
    | exact Keeps.of_core hl hk
theorem rxCan_keeps {z : State} (id : Nat) (data : Bytes) (s : State) (hk : Keeps z s) : Keeps z (rxCan id data s) := by
  have hl := canRx_keeps id data s hk
  unfold rxCan
  split
  all_goals
    rename_i heq
    rw [heq] at hl
    first
    | exact Keeps.of_core (rxCmd_core _ _ _ _) hl
    | exact hl
theorem ledgerErr_keeps {z : State} (e : LedgerEntry) (s : State) (hk : Keeps z s) : Keeps z (ledgerErr e s) :=
  Keeps.of_core (finish_core _ _ _) (Keeps.of_core (record_core _ _ _ _) (Keeps.of_core (modEntry_core _ _ _) hk))
theorem replayEntry_keeps {z : State} (ue : List Word) (s : State) (e : LedgerEntry) (hk : Keeps z s) : Keeps z (replayEntry ue s e) := by
  unfold replayEntry
  (try dsimp only)
  repeat' first
    | with_reducible assumption
    | with_reducible refine run7_keeps _ _ ?_
    | with_reducible refine ledgerErr_keeps _ _ ?_
    | with_reducible refine Keeps.of_core (modEntry_core _ _ _) ?_
    | with_reducible refine Keeps.of_core (record_core _ _ _ _) ?_
    | with_reducible refine Keeps.of_core (sendReply_core _ _ _ _ _ _ _ _) ?_
    | split
theorem warmEnd_keeps {z : State} (ue : List Word) (s : State) (hk : Keeps z s) : Keeps z (warmEnd ue s) := by
  unfold warmEnd
  (try dsimp only)
  repeat' first
    | with_reducible assumption
    | with_reducible refine Keeps.of_core (State.freeNext_core _) ?_
    | with_reducible refine Keeps.of_core (State.core_onClap _ _) ?_
    | with_reducible refine Keeps.of_core (State.core_onLink _ _) ?_
    | with_reducible refine mendFloor_keeps _ ?_
    | with_reducible refine replayEntry_keeps _ _ _ ?_
    | with_reducible refine run7_keeps _ _ ?_
    | with_reducible refine Keeps.of_core (postEvent_core _ _ _ _ _) ?_
    | with_reducible refine Keeps.of_core (sendCredit_core _ _) ?_
    | with_reducible refine Keeps.foldl _ (fun _ _ _ => ?_) _ ?_
    | split
theorem settleNow_keeps {z : State} (s : State) (hk : Keeps z s) : Keeps z (settleNow s) := by
  unfold settleNow
  (try dsimp only)
  repeat' first
    | with_reducible assumption
    | with_reducible refine calPoll_keeps _ ?_
    | with_reducible refine drain_keeps _ ?_
    | with_reducible refine sweepBufs_keeps _ ?_
    | with_reducible refine Keeps.of_core (tellScan_core _) ?_
    | split
theorem settleWith_keeps {z : State} (o : State → BootObs) (s : State) (hk : Keeps z s) : Keeps z (settleWith o s) := by
  unfold settleWith
  (try dsimp only)
  repeat' first
    | with_reducible assumption
    | with_reducible refine activateReset_keeps _ _ ?_
    | with_reducible refine settleNow_keeps _ ?_
    | split
theorem settle_keeps {z : State} (s : State) (hk : Keeps z s) : Keeps z (settle s) := by
  unfold settle
  (try dsimp only)
  repeat' first
    | with_reducible assumption
    | with_reducible refine settleWith_keeps _ _ ?_
    | split
theorem hostCmd_keeps {z : State} (op : Nat) (h : CmdHdr) (ps : Bytes) (s : State) (hk : Keeps z s) : Keeps z (hostCmd op h ps s) := by
  unfold hostCmd
  (try dsimp only)
  repeat' first
    | with_reducible assumption
    | with_reducible refine settle_keeps _ ?_
    | with_reducible refine Keeps.of_core (arrive_core _ _ _) ?_
    | split
theorem hostReg_keeps {z : State} (a : Nat) (v : Word) (h : CmdHdr) (s : State) (hk : Keeps z s) : Keeps z (hostReg a v h s) := by
  unfold hostReg
  (try dsimp only)
  repeat' first
    | with_reducible assumption
    | with_reducible refine hostCmd_keeps _ _ _ _ ?_
    | split
theorem hostActivate_keeps {z : State} (h : CmdHdr) (ps : Bytes) (o : BootObs) (s : State) (hk : Keeps z s) : Keeps z (hostActivate h ps o s) := by
  unfold hostActivate
  (try dsimp only)
  repeat' first
    | with_reducible assumption
    | with_reducible refine settleWith_keeps _ _ ?_
    | with_reducible refine Keeps.of_core (arrive_core _ _ _) ?_
    | split
theorem rxSmsg_keeps {z : State} (src : SmsgSrc) (s : State) (hk : Keeps z s) : Keeps z (rxSmsg src s) := by
  unfold rxSmsg
  (try dsimp only)
  repeat' first
    | with_reducible assumption
    | with_reducible refine rxAny_keeps _ _ ?_
    | with_reducible refine smsgEvent_keeps _ _ _ ?_
    | split
theorem rxTsy_keeps {z : State} (src : TsySrc) (s : State) (hk : Keeps z s) : Keeps z (rxTsy src s) := by
  unfold rxTsy
  (try dsimp only)
  repeat' first
    | with_reducible assumption
    | with_reducible refine rxAny_keeps _ _ ?_
    | with_reducible refine tsyMsg_keeps _ _ _ _ ?_
    | split

end Sys2Proof.Machine
end

