-- ==== Sys2Proof/Laws/Exec.lean ====
section
/-!
SUPPORT. What every command keeps, whatever its operands (see Keeps).
-/
namespace Sys2Proof.Machine

/-- A command leaves the queue of waiting commands alone and keeps what Keeps says. -/
theorem exec_keeps (c : Instr) (s t : State) (h : exec c s = .next t) : Keeps s t := by
  have r : Keeps s s := Keeps.rfl'
  cases c with
  | nop _ _ => exact (Host.Outcome.next.inj h) ▸ (hostCmd_keeps _ _ _ _ r)
  | ping _ _ => exact (Host.Outcome.next.inj h) ▸ (hostCmd_keeps _ _ _ _ r)
  | getInfo _ _ => exact (Host.Outcome.next.inj h) ▸ (hostCmd_keeps _ _ _ _ r)
  | resetWarm _ _ => exact (Host.Outcome.next.inj h) ▸ (hostCmd_keeps _ _ _ _ r)
  | enterStandby _ _ => exact (Host.Outcome.next.inj h) ▸ (hostCmd_keeps _ _ _ _ r)
  | setProfile _ _ => exact (Host.Outcome.next.inj h) ▸ (hostCmd_keeps _ _ _ _ r)
  | lightOn _ _ => exact (Host.Outcome.next.inj h) ▸ (hostCmd_keeps _ _ _ _ r)
  | lightOff _ _ => exact (Host.Outcome.next.inj h) ▸ (hostCmd_keeps _ _ _ _ r)
  | stillEnter _ _ => exact (Host.Outcome.next.inj h) ▸ (hostCmd_keeps _ _ _ _ r)
  | stillExit _ _ => exact (Host.Outcome.next.inj h) ▸ (hostCmd_keeps _ _ _ _ r)
  | gongEnter _ _ => exact (Host.Outcome.next.inj h) ▸ (hostCmd_keeps _ _ _ _ r)
  | gongExit _ _ => exact (Host.Outcome.next.inj h) ▸ (hostCmd_keeps _ _ _ _ r)
  | bufAlloc _ _ => exact (Host.Outcome.next.inj h) ▸ (hostCmd_keeps _ _ _ _ r)
  | bufFree _ _ => exact (Host.Outcome.next.inj h) ▸ (hostCmd_keeps _ _ _ _ r)
  | layerSet _ _ => exact (Host.Outcome.next.inj h) ▸ (hostCmd_keeps _ _ _ _ r)
  | layerGroup _ _ => exact (Host.Outcome.next.inj h) ▸ (hostCmd_keeps _ _ _ _ r)
  | fenceArm _ _ => exact (Host.Outcome.next.inj h) ▸ (hostCmd_keeps _ _ _ _ r)
  | fenceSignal _ _ => exact (Host.Outcome.next.inj h) ▸ (hostCmd_keeps _ _ _ _ r)
  | commit _ _ => exact (Host.Outcome.next.inj h) ▸ (hostCmd_keeps _ _ _ _ r)
  | writebackSet _ _ => exact (Host.Outcome.next.inj h) ▸ (hostCmd_keeps _ _ _ _ r)
  | frameRecordGet _ _ => exact (Host.Outcome.next.inj h) ▸ (hostCmd_keeps _ _ _ _ r)
  | floorGet _ _ => exact (Host.Outcome.next.inj h) ▸ (hostCmd_keeps _ _ _ _ r)
  | keepoutSet _ _ => exact (Host.Outcome.next.inj h) ▸ (hostCmd_keeps _ _ _ _ r)
  | safetyPolicySet _ _ => exact (Host.Outcome.next.inj h) ▸ (hostCmd_keeps _ _ _ _ r)
  | degradeLimitSet _ _ => exact (Host.Outcome.next.inj h) ▸ (hostCmd_keeps _ _ _ _ r)
  | safetyStatus _ _ => exact (Host.Outcome.next.inj h) ▸ (hostCmd_keeps _ _ _ _ r)
  | calRun _ _ => exact (Host.Outcome.next.inj h) ▸ (hostCmd_keeps _ _ _ _ r)
  | calQuery _ _ => exact (Host.Outcome.next.inj h) ▸ (hostCmd_keeps _ _ _ _ r)
  | trimDeltaWrite _ _ => exact (Host.Outcome.next.inj h) ▸ (hostCmd_keeps _ _ _ _ r)
  | restoreFactory _ _ => exact (Host.Outcome.next.inj h) ▸ (hostCmd_keeps _ _ _ _ r)
  | timeConfig _ _ => exact (Host.Outcome.next.inj h) ▸ (hostCmd_keeps _ _ _ _ r)
  | timeQuery _ _ => exact (Host.Outcome.next.inj h) ▸ (hostCmd_keeps _ _ _ _ r)
  | scheduleAt _ _ => exact (Host.Outcome.next.inj h) ▸ (hostCmd_keeps _ _ _ _ r)
  | faultQuery _ _ => exact (Host.Outcome.next.inj h) ▸ (hostCmd_keeps _ _ _ _ r)
  | faultClear _ _ => exact (Host.Outcome.next.inj h) ▸ (hostCmd_keeps _ _ _ _ r)
  | logRead _ _ => exact (Host.Outcome.next.inj h) ▸ (hostCmd_keeps _ _ _ _ r)
  | dumpRead _ _ => exact (Host.Outcome.next.inj h) ▸ (hostCmd_keeps _ _ _ _ r)
  | dumpClear _ _ => exact (Host.Outcome.next.inj h) ▸ (hostCmd_keeps _ _ _ _ r)
  | rollMapRead _ _ => exact (Host.Outcome.next.inj h) ▸ (hostCmd_keeps _ _ _ _ r)
  | hkSeqSet _ _ => exact (Host.Outcome.next.inj h) ▸ (hostCmd_keeps _ _ _ _ r)
  | cvConfig _ _ => exact (Host.Outcome.next.inj h) ▸ (hostCmd_keeps _ _ _ _ r)
  | cvScan _ _ => exact (Host.Outcome.next.inj h) ▸ (hostCmd_keeps _ _ _ _ r)
  | cvResult _ _ => exact (Host.Outcome.next.inj h) ▸ (hostCmd_keeps _ _ _ _ r)
  | regRead _ _ => exact (Host.Outcome.next.inj h) ▸ (hostCmd_keeps _ _ _ _ r)
  | regWrite _ _ => exact (Host.Outcome.next.inj h) ▸ (hostCmd_keeps _ _ _ _ r)
  | tableRead _ _ => exact (Host.Outcome.next.inj h) ▸ (hostCmd_keeps _ _ _ _ r)
  | tableWrite _ _ => exact (Host.Outcome.next.inj h) ▸ (hostCmd_keeps _ _ _ _ r)
  | keyInstall _ _ => exact (Host.Outcome.next.inj h) ▸ (hostCmd_keeps _ _ _ _ r)
  | keyRetire _ _ => exact (Host.Outcome.next.inj h) ▸ (hostCmd_keeps _ _ _ _ r)
  | fwStage _ _ => exact (Host.Outcome.next.inj h) ▸ (hostCmd_keeps _ _ _ _ r)
  | fwActivate _ _ _ => exact (Host.Outcome.next.inj h) ▸ (hostActivate_keeps _ _ _ _ r)
  | serviceUnlock _ _ => exact (Host.Outcome.next.inj h) ▸ (hostCmd_keeps _ _ _ _ r)
  | linkCfgEnable _ _ => exact (Host.Outcome.next.inj h) ▸ (hostReg_keeps _ _ _ _ r)
  | linkCtrlRetrain _ => exact (Host.Outcome.next.inj h) ▸ (hostReg_keeps _ _ _ _ r)
  | linkCtrlRecover _ => exact (Host.Outcome.next.inj h) ▸ (hostReg_keeps _ _ _ _ r)
  | linkCtrlUnfence _ _ => exact (Host.Outcome.next.inj h) ▸ (hostReg_keeps _ _ _ _ r)
  | carlCtrlUnfence _ _ => exact (Host.Outcome.next.inj h) ▸ (hostReg_keeps _ _ _ _ r)
  | malletCtrlUnfence _ _ => exact (Host.Outcome.next.inj h) ▸ (hostReg_keeps _ _ _ _ r)
  | malletCutRemove _ _ _ _ => exact (Host.Outcome.next.inj h) ▸ (hostReg_keeps _ _ _ _ r)
  | senseSlcUnfence _ _ => exact (Host.Outcome.next.inj h) ▸ (hostReg_keeps _ _ _ _ r)
  | hkCtrlApply _ _ => exact (Host.Outcome.next.inj h) ▸ (hostReg_keeps _ _ _ _ r)
  | taborCtrlApply _ _ => exact (Host.Outcome.next.inj h) ▸ (hostReg_keeps _ _ _ _ r)
  | pwrApplyVled _ => exact (Host.Outcome.next.inj h) ▸ (hostReg_keeps _ _ _ _ r)
  | pwrApplyVcore _ => exact (Host.Outcome.next.inj h) ▸ (hostReg_keeps _ _ _ _ r)
  | pwrUnfenceVled _ => exact (Host.Outcome.next.inj h) ▸ (hostReg_keeps _ _ _ _ r)
  | fltStatClear _ _ _ => exact (Host.Outcome.next.inj h) ▸ (hostReg_keeps _ _ _ _ r)
  | fltInjectRecord _ _ _ => exact (Host.Outcome.next.inj h) ▸ (hostReg_keeps _ _ _ _ r)
  | fltInjectStimulus _ _ _ _ => exact (Host.Outcome.next.inj h) ▸ (hostReg_keeps _ _ _ _ r)
  | fltTallyCfgWrite _ _ _ _ => exact (Host.Outcome.next.inj h) ▸ (hostReg_keeps _ _ _ _ r)
  | canCfgEnable _ _ => exact (Host.Outcome.next.inj h) ▸ (hostReg_keeps _ _ _ _ r)
  | canAutoRecover _ _ => exact (Host.Outcome.next.inj h) ▸ (hostReg_keeps _ _ _ _ r)
  | sysBootCfgWrite _ _ => exact (Host.Outcome.next.inj h) ▸ (hostReg_keeps _ _ _ _ r)
  | vaonApply _ _ => exact (Host.Outcome.next.inj h) ▸ (settle_keeps _ (vaonApplyEvent_keeps _ _ _ r))
  | vaonLoss  => exact (Host.Outcome.next.inj h) ▸ (settle_keeps _ (vaonLossEvent_keeps _ r))
  | wakeRise _ _ => exact (Host.Outcome.next.inj h) ▸ (settle_keeps _ (wakeRiseEvent_keeps _ _ _ r))
  | wakeLow  => exact (Host.Outcome.next.inj h) ▸ (settle_keeps _ (wakeLowEvent_keeps _ r))
  | standbyEntryDone _ => exact (Host.Outcome.next.inj h) ▸ (settle_keeps _ (standbyDone_keeps _ _ r))
  | rstNLow  => exact (Host.Outcome.next.inj h) ▸ (settle_keeps _ (rstLowEvent_keeps _ r))
  | rstNRelease _ _ => exact (Host.Outcome.next.inj h) ▸ (settle_keeps _ (rstReleaseEvent_keeps _ _ _ r))
  | limpNLow _ => exact (Host.Outcome.next.inj h) ▸ (settle_keeps _ (Keeps.of_core (limpLowEvent_core _ _) r))
  | lphFltNLow  => exact (Host.Outcome.next.inj h) ▸ (settle_keeps _ (Keeps.of_core (lphLowEvent_core _) r))
  | lphFltNHigh  => exact (Host.Outcome.next.inj h) ▸ (settle_keeps _ (Keeps.of_core (lphHighEvent_core _) r))
  | refclkLoss  => exact (Host.Outcome.next.inj h) ▸ (settle_keeps _ (Keeps.of_core (refclkLossEvent_core _) r))
  | refclkRestore  => exact (Host.Outcome.next.inj h) ▸ (settle_keeps _ (Keeps.of_core (refclkRestoreEvent_core _) r))
  | blockLockGain _ _ => exact (Host.Outcome.next.inj h) ▸ (settle_keeps _ (Keeps.of_core (lockGain_core _ _ _) r))
  | blockLockLoss _ => exact (Host.Outcome.next.inj h) ▸ (settle_keeps _ (Keeps.of_core (dropLane_core _ _) r))
  | tsAdv _ _ => exact (Host.Outcome.next.inj h) ▸ (settle_keeps _ (Keeps.of_core (tsAdvEvent_core _ _ _) r))
  | tsAck _ _ => exact (Host.Outcome.next.inj h) ▸ (settle_keeps _ (Keeps.of_core (tsAckEvent_core _ _ _) r))
  | speedReq _ _ => exact (Host.Outcome.next.inj h) ▸ (settle_keeps _ (Keeps.of_core (speedReqEvent_core _ _ _) r))
  | eqDone _ _ => exact (Host.Outcome.next.inj h) ▸ (settle_keeps _ (Keeps.of_core (eqDoneEvent_core _ _ _) r))
  | linkUp _ _ => exact (Host.Outcome.next.inj h) ▸ (settle_keeps _ (linkUpEvent_keeps _ _ _ r))
  | abort _ _ => exact (Host.Outcome.next.inj h) ▸ (settle_keeps _ (Keeps.of_core (abortEvent_core _ _ _) r))
  | bringupStateTimeout  => exact (Host.Outcome.next.inj h) ▸ (settle_keeps _ (Keeps.of_core (stateTimeout_core _) r))
  | attemptTimeout  => exact (Host.Outcome.next.inj h) ▸ (settle_keeps _ (attemptTimeoutEvent_keeps _ r))
  | recoveryTimeout  => exact (Host.Outcome.next.inj h) ▸ (settle_keeps _ (Keeps.of_core (recoveryTimeoutEvent_core _) r))
  | align _ _ _ => exact (Host.Outcome.next.inj h) ▸ (settle_keeps _ (Keeps.of_core (alignEvent_core _ _ _ _) r))
  | ack _ => exact (Host.Outcome.next.inj h) ▸ (settle_keeps _ (Keeps.of_core (ackEvent_core _ _) r))
  | nak _ => exact (Host.Outcome.next.inj h) ▸ (settle_keeps _ (Keeps.of_core (nakEvent_core _ _) r))
  | credit _ => exact (Host.Outcome.next.inj h) ▸ (settle_keeps _ (creditEvent_keeps _ _ r))
  | laneDrop _ => exact (Host.Outcome.next.inj h) ▸ (settle_keeps _ (Keeps.of_core (laneDropEvent_core _ _) r))
  | laneSwitch _ => exact (Host.Outcome.next.inj h) ▸ (settle_keeps _ (Keeps.of_core (laneSwitchEvent_core _ _) r))
  | laneSwitchTimeout  => exact (Host.Outcome.next.inj h) ▸ (settle_keeps _ (Keeps.of_core (laneSwitchTimeoutEvent_core _) r))
  | rejoin _ => exact (Host.Outcome.next.inj h) ▸ (settle_keeps _ (Keeps.of_core (rejoinEvent_core _ _) r))
  | rejoinAck _ => exact (Host.Outcome.next.inj h) ▸ (settle_keeps _ (Keeps.of_core (rejoinAckEvent_core _ _) r))
  | rejoinHoldExpiry _ => exact (Host.Outcome.next.inj h) ▸ (settle_keeps _ (Keeps.of_core (rejoinHoldEvent_core _ _) r))
  | ackDue  => exact (Host.Outcome.next.inj h) ▸ (settle_keeps _ (Keeps.of_core (ackDueEvent_core _) r))
  | creditRefresh  => exact (Host.Outcome.next.inj h) ▸ (settle_keeps _ (Keeps.of_core (creditRefreshEvent_core _) r))
  | replayTimeout  => exact (Host.Outcome.next.inj h) ▸ (settle_keeps _ (Keeps.of_core (replayTimeoutEvent_core _) r))
  | partialTo  => exact (Host.Outcome.next.inj h) ▸ (settle_keeps _ (Keeps.of_core (partialEvent_core _) r))
  | adaptWindowEnd _ _ _ _ => exact (Host.Outcome.next.inj h) ▸ (settle_keeps _ (Keeps.of_core (adaptWindow_core _ _ _ _ _) r))
  | eyeMeasure _ _ => exact (Host.Outcome.next.inj h) ▸ (settle_keeps _ (Keeps.of_core (eyeMeasureEvent_core _ _ _) r))
  | cmdPacket _ => exact (Host.Outcome.next.inj h) ▸ (settle_keeps _ (rxAny_keeps _ _ r))
  | wr _ => exact (Host.Outcome.next.inj h) ▸ (settle_keeps _ (rxAny_keeps _ _ r))
  | fen _ => exact (Host.Outcome.next.inj h) ▸ (settle_keeps _ (rxAny_keeps _ _ r))
  | damperSet _ => exact (Host.Outcome.next.inj h) ▸ (settle_keeps _ (rxSmsg_keeps _ _ r))
  | beamState _ => exact (Host.Outcome.next.inj h) ▸ (settle_keeps _ (rxSmsg_keeps _ _ r))
  | safeReq _ => exact (Host.Outcome.next.inj h) ▸ (settle_keeps _ (rxSmsg_keeps _ _ r))
  | skewTimeout _ => exact (Host.Outcome.next.inj h) ▸ (settle_keeps _ (Keeps.of_core (skewTimeoutEvent_core _ _) r))
  | refreshTo  => exact (Host.Outcome.next.inj h) ▸ (settle_keeps _ (Keeps.of_core (refreshToEvent_core _) r))
  | degLimit  => exact (Host.Outcome.next.inj h) ▸ (settle_keeps _ (Keeps.of_core (degLimitEvent_core _) r))
  | sync _ => exact (Host.Outcome.next.inj h) ▸ (settle_keeps _ (rxTsy_keeps _ _ r))
  | followUp _ => exact (Host.Outcome.next.inj h) ▸ (settle_keeps _ (rxTsy_keeps _ _ r))
  | delayResp _ => exact (Host.Outcome.next.inj h) ▸ (settle_keeps _ (rxTsy_keeps _ _ r))
  | exchangeTimeout _ => exact (Host.Outcome.next.inj h) ▸ (settle_keeps _ (Keeps.of_core (exchangeTimeoutEvent_core _ _) r))
  | holdover _ => exact (Host.Outcome.next.inj h) ▸ (settle_keeps _ (Keeps.of_core (netHoldover_core _ _) r))
  | camsyncEdge _ => exact (Host.Outcome.next.inj h) ▸ (settle_keeps _ (Keeps.of_core (camsync_core _ _) r))
  | camLoss  => exact (Host.Outcome.next.inj h) ▸ (settle_keeps _ (Keeps.of_core (camLoss_core _) r))
  | xtalWindow _ => exact (Host.Outcome.next.inj h) ▸ (settle_keeps _ (Keeps.of_core (xtalEvent_core _ _) r))
  | scheduleAtDue _ => exact (Host.Outcome.next.inj h) ▸ (settle_keeps _ (Keeps.of_core (scheduleDue_core _ _) r))
  | canFragment _ _ => exact (Host.Outcome.next.inj h) ▸ (settle_keeps _ (rxCan_keeps _ _ _ r))
  | reasmTimeout _ => exact (Host.Outcome.next.inj h) ▸ (settle_keeps _ (Keeps.of_core (reasmTimeoutEvent_core _ _) r))
  | canTsyFrame _ _ => exact (Host.Outcome.next.inj h) ▸ (settle_keeps _ (rxCan_keeps _ _ _ r))
  | busOff  => exact (Host.Outcome.next.inj h) ▸ (settle_keeps _ (Keeps.of_core (busOffEvent_core _) r))
  | busOffRecovered  => exact (Host.Outcome.next.inj h) ▸ (settle_keeps _ (Keeps.of_core (busOffRecoveredEvent_core _) r))
  | txTimeout  => exact (Host.Outcome.next.inj h) ▸ (settle_keeps _ (Keeps.of_core (txTimeoutEvent_core _) r))
  | writePkt _ => exact (Host.Outcome.next.inj h) ▸ (settle_keeps _ (Keeps.of_core (rxSpi_core _ _) r))
  | readLen  => exact (Host.Outcome.next.inj h) ▸ (settle_keeps _ (Keeps.of_core (spiReadLen_core _) r))
  | readPkt _ => exact (Host.Outcome.next.inj h) ▸ (settle_keeps _ (Keeps.of_core (spiReadPkt_core _ _) r))
  | beatBoundary _ => exact (Host.Outcome.next.inj h) ▸ (settle_keeps _ (Keeps.of_core (calBeat_core _ _) (beatBoundaryEvent_keeps _ _ r)))
  | rowWrite _ _ _ => exact (Host.Outcome.next.inj h) ▸ (settle_keeps _ (Keeps.of_core (rowWriteEvent_core _ _ _ _) r))
  | latchReadback _ _ _ => exact (Host.Outcome.next.inj h) ▸ (settle_keeps _ (Keeps.of_core (latchReadbackEvent_core _ _ _ _ _) r))
  | strike  => exact (Host.Outcome.next.inj h) ▸ (settle_keeps _ (Keeps.of_core (strikeEvent_core _) r))
  | hangWatch _ => exact (Host.Outcome.next.inj h) ▸ (settle_keeps _ (Keeps.of_core (hangWatchEvent_core _ _) r))
  | gongTimerExpiry _ => exact (Host.Outcome.next.inj h) ▸ (settle_keeps _ (Keeps.of_core (gongTimerEvent_core _ _) r))
  | senseCapture _ _ => exact (Host.Outcome.next.inj h) ▸ (settle_keeps _ (Keeps.of_core (senseCaptureEvent_core _ _ _) r))
  | rollClassify _ _ => exact (Host.Outcome.next.inj h) ▸ (settle_keeps _ (Keeps.of_core (rollClassifyEvent_core _ _ _ _) r))
  | sliceFit _ _ _ => exact (Host.Outcome.next.inj h) ▸ (settle_keeps _ (Keeps.of_core (sliceFitEvent_core _ _) r))
  | bandComposed _ _ => exact (Host.Outcome.next.inj h) ▸ (settle_keeps _ (bandComposedEvent_keeps _ _ _ r))
  | bandProcessed _ _ => exact (Host.Outcome.next.inj h) ▸ (settle_keeps _ (bandProcessedEvent_keeps _ _ _ r))
  | gainRebuildDone  => exact (Host.Outcome.next.inj h) ▸ (settle_keeps _ (Keeps.of_core (gainRebuildDoneEvent_core _) r))
  | granuleZeroed _ => exact (Host.Outcome.next.inj h) ▸ (settle_keeps _ (granuleZeroedEvent_keeps _ _ r))
  | lightBudgetCheck  => exact (Host.Outcome.next.inj h) ▸ (settle_keeps _ (Keeps.of_core (lightBudgetEvent_core _) r))
  | hkRepetition _ => exact (Host.Outcome.next.inj h) ▸ (settle_keeps _ (Keeps.of_core (hkRepetition_core _ _) r))
  | headShort _ => exact (Host.Outcome.next.inj h) ▸ (settle_keeps _ (Keeps.of_core (headShortEvent_core _ _) r))
  | fastRaiseRepeat _ => exact (Host.Outcome.next.inj h) ▸ (settle_keeps _ (Keeps.of_core (headShortEvent_core _ _) r))
  | vledReg  => exact (Host.Outcome.next.inj h) ▸ (settle_keeps _ (Keeps.of_core (vledRegEvent_core _) r))
  | limpReg  => exact (Host.Outcome.next.inj h) ▸ (settle_keeps _ (Keeps.of_core (limpRegEvent_core _) r))
  | vcoreReg  => exact (Host.Outcome.next.inj h) ▸ (settle_keeps _ (Keeps.of_core (vcoreRegEvent_core _) r))
  | paceHoldEnd  => exact (Host.Outcome.next.inj h) ▸ (settle_keeps _ (Keeps.of_core (paceHoldEndEvent_core _) r))
  | domainSw _ => exact (Host.Outcome.next.inj h) ▸ (settle_keeps _ (domainSwEvent_keeps _ _ r))
  | clapperWatchdog  => exact (Host.Outcome.next.inj h) ▸ (settle_keeps _ (warmBegin_keeps _ _ r))
  | fatalError  => exact (Host.Outcome.next.inj h) ▸ (settle_keeps _ (warmBegin_keeps _ _ r))
  | warmRestart => exact (Host.Outcome.next.inj h) ▸ (settle_keeps _ (warmEnd_keeps _ _ r))
  | faultLogPass  => exact (Host.Outcome.next.inj h) ▸ (settle_keeps _ (Keeps.of_core (logPassAll_core _) r))
  | logCoalesce _ _ _ => exact (Host.Outcome.next.inj h) ▸ (settle_keeps _ (Keeps.of_core (logCoalesce_core _ _ _ _) r))
  | lockoutEnd  => exact (Host.Outcome.next.inj h) ▸ (settle_keeps _ (lockoutEnd_keeps _ r))
  | stageVerifyDone  => exact (Host.Outcome.next.inj h) ▸ (settle_keeps _ (stageVerify_keeps _ r))
  | cvScanDone _ => exact (Host.Outcome.next.inj h) ▸ (settle_keeps _ (cvScanEvent_keeps _ _ _ _ r))
  | calRunTimeout _ => exact (Host.Outcome.next.inj h) ▸ (settle_keeps _ (Keeps.of_core (calTimeout_core _ _) r))
  | eyeMinimumMet _ => exact (Host.Outcome.next.inj h) ▸ (settle_keeps _ (Keeps.of_core (eyeMinimumEvent_core _ _) r))
  | powerGood _ => exact (Host.Outcome.next.inj h) ▸ (settle_keeps _ (Keeps.of_core (powerGoodEvent_core _ _) r))
  | bistDone _ => exact (Host.Outcome.next.inj h) ▸ (settle_keeps _ (bistDoneEvent_keeps _ _ r))
  | canBusError _ _ => exact (Host.Outcome.next.inj h) ▸ (settle_keeps _ (Keeps.of_core (canErrorEvent_core _ _) r))
  | canTxComplete  => exact (Host.Outcome.next.inj h) ▸ (settle_keeps _ (Keeps.of_core (canTxCompleteEvent_core _) r))
  | tapInstruction _ => exact (Host.Outcome.next.inj h) ▸ (settle_keeps _ (Keeps.of_core (tapEvent_core _ _) r))
  | supplyRemoved _ => exact (Host.Outcome.next.inj h) ▸ (settle_keeps _ (Keeps.of_core (supplyEvent_core _ _) r))
  | laneErr _ => exact (Host.Outcome.next.inj h) ▸ (settle_keeps _ (Keeps.of_core (laneErrEvent_core _ _ _) r))
  | phaseShedding _ => exact (Host.Outcome.next.inj h) ▸ (settle_keeps _ (Keeps.of_core (phaseEvent_core _ _) r))
end Sys2Proof.Machine
end

