-- ==== Sys2Proof/Laws/Memory.lean ====
section
/-!
SUPPORT. The Layer Store's memory: reading after writing, and that its canonical form is kept.
-/
namespace Sys2Proof.Machine

/-- An address below every listed one reads as the default. -/
theorem spGet_below {d : Byte} {x : Nat} : ∀ {m : List (Nat × Byte)}, (∀ e ∈ m, x < e.1) → spGet d m x = d
  | [], _ => rfl
  | (k, v) :: t, h => by
    have h1 : x < k := h (k, v) List.mem_cons_self
    unfold spGet
    rw [if_neg (by omega)]
    exact spGet_below (fun e he => h e (List.mem_cons_of_mem _ he))
/-- A read after a write. -/
theorem spGet_spSet (d : Byte) (a : Nat) (v : Byte) (x : Nat) : ∀ m : List (Nat × Byte), spWf d m = true → spGet d (spSet d m a v) x = if x = a then v else spGet d m x
  | [], _ => by
    unfold spSet
    by_cases hv : v = d
    · rw [if_pos hv]; subst hv; simp [spGet]
    · rw [if_neg hv]; simp [spGet]
  | (k, w) :: t, h => by
    simp only [spWf, Bool.and_eq_true, decide_eq_true_eq, List.all_eq_true] at h
    obtain ⟨⟨hw, hk⟩, ht⟩ := h
    unfold spSet
    by_cases h1 : a < k
    · rw [if_pos h1]
      by_cases hv : v = d
      · rw [if_pos hv]
        by_cases hx : x = a
        · rw [if_pos hx, hx, hv]
          refine spGet_below (fun e he => ?_)
          rcases List.mem_cons.mp he with rfl | he
          · exact h1
          · exact Nat.lt_trans h1 (hk e he)
        · rw [if_neg hx]
      · rw [if_neg hv]; rfl
    · rw [if_neg h1]
      by_cases h2 : a = k
      · rw [if_pos h2]
        subst h2
        by_cases hv : v = d
        · rw [if_pos hv]
          by_cases hx : x = a
          · rw [if_pos hx, hx, hv]; exact spGet_below hk
          · rw [if_neg hx]; simp [spGet, hx]
        · rw [if_neg hv]
          by_cases hx : x = a <;> simp [spGet, hx]
      · rw [if_neg h2]
        simp only [spGet, spGet_spSet d a v x t ht]
        by_cases hx : x = k
        · rw [if_pos hx, if_pos hx, if_neg (by omega)]
        · rw [if_neg hx, if_neg hx]
/-- A read after a run of bytes is written. -/
theorem spGet_spSetRun (d : Byte) (x : Nat) : ∀ (bs : Bytes) (m : List (Nat × Byte)) (a : Nat), spWf d m = true →
    spGet d (spSetRun d m a bs) x = if a ≤ x ∧ x < a + bs.length then bs.getD (x - a) 0 else spGet d m x
  | [], m, a, _ => by
    rw [if_neg (by simp)]; rfl
  | v :: t, m, a, h => by
    show spGet d (spSetRun d (spSet d m a v) (a + 1) t) x = _
    rw [spGet_spSetRun d x t _ _ (spSet_wf d m a v h), spGet_spSet d a v x m h, List.length_cons]
    by_cases hx : x = a
    · subst hx
      rw [if_neg (by omega), if_pos rfl, if_pos (by omega), Nat.sub_self]; rfl
    · by_cases hr : a + 1 ≤ x ∧ x < a + 1 + t.length
      · rw [if_pos hr, if_pos (by omega), show x - a = (x - (a + 1)) + 1 by omega]; rfl
      · rw [if_neg hr, if_neg hx, if_neg (by omega)]

/-- State.reset's memory is in canonical form: nothing is listed. -/
theorem reset_memory_wf : Memory.wf State.reset.store.mem = true := rfl

/-- Writing keeps the canonical form. -/
theorem writeStore_wf (a : Nat) (bs : Bytes) (s : State) (h : Memory.wf s.store.mem = true) : Memory.wf (writeStore a bs s).store.mem = true :=
  spSetRun_wf 0 bs _ a h

end Sys2Proof.Machine
end

