-- ==== Sys2Proof/Machine/Wire.lean ====
section
/-!
DEFINITION. What the lanes of the Envex link carry on the lands (R88, R93 to R95, R109, R130): the blocks of a packet, their places on the
active lanes, the 66-bit block with its scrambler, and the use of each lane.
-/
namespace Sys2Proof.Machine

/-- The content of a block before scrambling: a control block, or a data block of eight payload bytes (R93). -/
structure Blk where
  ctl : Bool
  bits : BitVec 64
  deriving DecidableEq, Repr, Inhabited

/-! Packets as blocks (R109). -/

/-- The START block of a packet; CV1 appends its CRC-8. -/
def startBlk (replay : Bool) (p : TxPkt) : BitVec 64 :=
  mkBlk ([0x78, BitVec.ofNat 8 (p.cls.toNat + bit01 replay * 16)] ++ leOf 2 p.seq ++ natLe 2 p.payload.length ++ [0])

/-- The payload with the CRC-32C that CV1 appends, over START bytes 1 to 5 and the payload. -/
def packetBody (replay : Bool) (p : TxPkt) : Bytes :=
  p.payload ++ leOf 4 (crcP1 (sliceB (blkBytes (startBlk replay p)) 1 5 ++ p.payload))

/-- Data blocks of some bytes, padded with zeros to a multiple of eight. -/
def dataBlks (bs : Bytes) : List Blk :=
  (List.range ((bs.length + 7) / 8)).map (fun i => ⟨false, BitVec.ofNat 64 (leNat (padTo 8 (sliceB bs (8 * i) 8)))⟩)

/-- The blocks of a packet. -/
def packetBlks (replay : Bool) (p : TxPkt) : List Blk := ⟨true, startBlk replay p⟩ :: dataBlks (packetBody replay p)

/-! Striping (R95). -/

/-- The blocks that lane n gets of some blocks of the stream, the first of which is block i: block i goes to the active lane at position
i mod width. -/
def stripe (active : BitVec 4) (n i : Nat) (bs : List Blk) : List Blk :=
  (bs.zipIdx i).filterMap (fun e => if (lanesOf active)[e.2 % (lanesOf active).length]? = some n then some e.1 else none)

/-- The blocks of lane n in order: those given to it outside the stream, and its part of the stream, which counts its blocks from a change
of the active lanes on (log entry 94). The stream so far ran over the lanes `a` and has had i blocks since. IDLE fillers are left out (log
entry 3). -/
def laneBlks (n : Nat) : BitVec 4 → Nat → List TxOut → List Blk
  | _, _, [] => []
  | a, i, .ctrl lanes b :: rest => (if lanes.getLsbD n then [⟨true, b⟩] else []) ++ laneBlks n a i rest
  | a, i, .link a' b :: rest =>
    let i := if a' = a then i else 0
    stripe a' n i [⟨true, b⟩] ++ laneBlks n a' (i + 1) rest
  | a, i, .pkt a' replay p :: rest =>
    let i := if a' = a then i else 0
    let bs := packetBlks replay p
    stripe a' n i bs ++ laneBlks n a' (i + bs.length) rest

/-! Scrambling (R93). -/

/-- One bit through the scrambler x^58 + x^39 + 1: the bit sent, and the 58 bits sent last, newest in bit 0. -/
def scramBit (s : BitVec 58) (b : Bool) : Bool × BitVec 58 :=
  let o := xor b (xor (s.getLsbD 38) (s.getLsbD 57))
  (o, (s <<< 1) ||| BitVec.ofNat 58 (bit01 o))

/-- The receiver's bit: it needs only the bits received, so it finds its state by itself. -/
def descramBit (s : BitVec 58) (o : Bool) : Bool × BitVec 58 :=
  (xor o (xor (s.getLsbD 38) (s.getLsbD 57)), (s <<< 1) ||| BitVec.ofNat 58 (bit01 o))

def scramble : BitVec 58 → List Bool → List Bool × BitVec 58
  | s, [] => ([], s)
  | s, b :: rest =>
    let r := scramBit s b
    let t := scramble r.2 rest
    (r.1 :: t.1, t.2)

def descramble : BitVec 58 → List Bool → List Bool × BitVec 58
  | s, [] => ([], s)
  | s, o :: rest =>
    let r := descramBit s o
    let t := descramble r.2 rest
    (r.1 :: t.1, t.2)

/-- The 66 bits of a block in the order sent: the sync header, 0b01 for data and 0b10 for control, which is not scrambled, and the
scrambled 64 bits. PRESUMED, log entry 102: bit 0 of each is sent first, as in Ethernet physical layers. -/
def wireBlk (s : BitVec 58) (b : Blk) : List Bool × BitVec 58 :=
  let r := scramble s ((List.range 64).map b.bits.getLsbD)
  ([!b.ctl, b.ctl] ++ r.1, r.2)

/-- The bits of blocks in a row on one lane. -/
def wireBits : BitVec 58 → List Blk → List Bool
  | _, [] => []
  | s, b :: rest =>
    let r := wireBlk s b
    r.1 ++ wireBits r.2 rest

/-- The bits that some output puts on lane n, from the state that the lane's scrambler started in. -/
def laneBits (n : Nat) (out : List TxOut) : List Bool := wireBits (Config.scramblerSeed n) (laneBlks n 0 0 out)

/-! The use of a lane (R88, R91, R97, R130, R135). -/

/-- What a lane carries: nothing (electrical idle), TRAIN and ALIGN blocks, IDLE and ALIGN blocks, or its part of the packet stream. -/
inductive LaneUse where
  | electricalIdle | train | standby | stream
  deriving DecidableEq, Repr

def State.laneUse (s : State) (n : Nat) : LaneUse :=
  if !s.listens n then .electricalIdle
  else if (s.lane n).training || decide (s.link.ls ≠ .active) then .train
  else if s.link.active.getLsbD n then .stream
  else .standby

end Sys2Proof.Machine
end

