-- ==== Sys2Proof/Tests/Slice0.lean ====
section
/-!
SUPPORT. Tests: well-formedness refuses what it should, and for every statement a state and operands that meet the hypotheses of
each of its clauses.
-/
namespace Sys2Proof.Tests

open Sys2Proof.Machine

-- One theorem at a time: checked side by side, these take a thread each.
set_option Elab.async false

/-! States and packets. -/

/-- A key slot with every right, its key 16 zero bytes. -/
def testSlot : KeySlot := { st := .active, key := zeros 16, rights := 0xFF, keyId := 7, last := 0 }

/-- READY, the link in use on lane 0, every domain on, slot 2 keyed. -/
def live : State :=
  { State.reset with
    sys := { sysReset with
      rstN := true, st := .ready, prev := .boot, gongCapable := true, fwImage := 0, pd := List.replicate 12 .on, pdWant := List.replicate 12 .on }
    link := { linkReset with ls := .active, refclkOk := true, cfg := regReset 0x30000, cap := 4, grade := 1, rxActive := 1, agreed := 1, active := 1, width := 1,
                             lanes := [{ (default : Lane) with locked := true, ready := true, partnerReady := true }] ++ List.replicate 3 default }
    tab := { taborBlkReset with t := (List.range 4).map (fun n => { taborReset n with running := true }), onCrystal := false }
    sec := { secDelivered false with slots := (secDelivered false).slots.set 2 testSlot } }

def inSt (st : DevState) (s : State) : State := s.onSys (fun y => { y with st := st })

/-- A packet without MAC, sequence number 1. -/
def plain : CmdHdr := { path := .envex, auth := false, ackReq := true, expert := true, tag := 7, seq := 1, slot := 2, mac := [] }

/-- The same with the MAC of slot 2. -/
def sealed (op : Nat) (ps : Bytes) (s : State) : CmdHdr :=
  { plain with auth := true, mac := macOf (zeros 16) 1 s.sys.profileL serialBytes (pktOf op { plain with auth := true } ps s).covered }

/-- What of Admits can be evaluated on any packet. -/
def admits0 (op : Nat) (h : CmdHdr) (ps : Bytes) (s : State) : Bool :=
  s.clap.queue.isEmpty && !s.clap.restarting && s.clap.held.isNone && !s.sys.coldDue && s.hears h.path && decide (ps.length ≤ 4132) &&
  decide ((s.lastSeq (pktOf op h ps s)).toNat < h.seq.toNat) && !s.unitBusy (pktOf op h ps s) && (check79 (ctxOf op h ps s) (taken op h ps s)).isNone

theorem admits_of {op : Nat} {h : CmdHdr} {ps : Bytes} {s : State} (h0 : admits0 op h ps s = true)
    (ha : s.authRefused (pktOf op h ps s) = none) (hr : s.ledgerRoom (pktOf op h ps s) = true) : Admits op h ps s := by
  simp only [admits0, Bool.and_eq_true, Bool.not_eq_true', decide_eq_true_eq, List.isEmpty_iff, Option.isNone_iff_eq_none] at h0
  obtain ⟨⟨⟨⟨⟨⟨⟨⟨a, b⟩, c⟩, d⟩, e⟩, f⟩, g⟩, i⟩, j⟩ := h0
  exact { idle := a, running := b, free := c, noCold := d, hears := e, size := f, auth := ha, fresh := g, unit := i, room := fun _ => hr, step79 := j }

theorem macOf_length (k : Bytes) (d : Byte) (l : Bool) (sn cov : Bytes) : (macOf k d l sn cov).length ≤ 8 := by
  unfold macOf; rw [List.length_take]; exact Nat.min_le_left _ _

theorem natLe_length : ∀ n v, (natLe n v).length = n
  | 0, _ => rfl
  | n + 1, v => by simp [natLe, natLe_length n]

theorem room_of {op : Nat} {h : CmdHdr} {ps : Bytes} {s : State} (hl : s.clap.ledger = []) (hn : (pktOf op h ps s).covered.length ≤ 4152)
    (hm : (pktOf op h ps s).mac.length ≤ 8) : s.ledgerRoom (pktOf op h ps s) = true := by
  have hc : ∀ p : CmdPkt, (pktBytes p).length ≤ p.covered.length + p.mac.length + 4 := by
    intro p
    unfold pktBytes
    dsimp only
    split <;> simp [leOf, natLe_length] <;> omega
  have h1 := hc (pktOf op h ps s)
  unfold State.ledgerRoom
  rw [hl]
  have h2 : entrySize (pktOf op h ps s) ≤ 4300 := by
    have : pad32 (pktBytes (pktOf op h ps s)).length ≤ (pktBytes (pktOf op h ps s)).length + 32 := by unfold pad32; omega
    unfold entrySize; omega
  dsimp only
  refine decide_eq_true ?_
  have h3 : sumL (List.map (fun e => entrySize e.pkt) (List.dropWhile (fun e => decide (e.state ≠ 0)) ([] : List LedgerEntry))) = 0 := rfl
  rw [h3]
  split <;> omega

/-- The packet sealed with the key of slot 2 verifies. -/
theorem sealed_auth {op : Nat} {ps : Bytes} {s : State} (hk : s.sec.slots[2]? = some testSlot) (hl : s.lockout = false)
    (hn : needOf op = none ∨ ∃ r, needOf op = some r ∧ r < 8) (ho : op < 65536) : s.authRefused (pktOf op (sealed op ps s) ps s) = none := by
  have hop : (pktOf op (sealed op ps s) ps s).opcode.toNat = op := by
    show (BitVec.ofNat 16 op).toNat = op
    rw [BitVec.toNat_ofNat]; exact Nat.mod_eq_of_lt ho
  have hs : (pktOf op (sealed op ps s) ps s).slot.toNat = 2 := rfl
  have hau : (pktOf op (sealed op ps s) ps s).auth = true := rfl
  have hr : ∀ r, r < 8 → s.hasRight 2 r = true := by
    intro r hr
    unfold State.hasRight
    rw [hk]
    have : ∀ r, r < 8 → (decide (testSlot.st = .active) && testSlot.rights.getLsbD r) = true := by decide
    exact this r hr
  have hok : s.authOk (pktOf op (sealed op ps s) ps s) = true := by
    unfold State.authOk State.keyOf
    rw [hs, hk]
    have e : (pktOf op (sealed op ps s) ps s).mac = macOf testSlot.key 1 s.sys.profileL serialBytes (pktOf op (sealed op ps s) ps s).covered := rfl
    dsimp only [if_true]
    rw [hop, if_pos (show testSlot.st = .active from rfl)]
    dsimp only
    rw [e, beq_self_eq_true, Bool.true_and]
    rcases hn with hn | ⟨r, hn, h8⟩
    · rw [hn]; dsimp only; rw [hr 0 (by decide)]; simp
    · rw [hn]; exact hr r h8
  unfold State.authRefused
  rw [hl, hau, hok]
  rfl

/-- An admitted packet without MAC, on a state whose Ledger is empty. -/
theorem plain_ok {op : Nat} {ps : Bytes} {s : State} (h0 : admits0 op plain ps s = true) (ha : s.authRefused (pktOf op plain ps s) = none)
    (hl : s.clap.ledger = []) (hn : decide ((pktOf op plain ps s).covered.length ≤ 4152) = true) (hm : (pktOf op plain ps s).mac = []) :
    Admits op plain ps s :=
  admits_of h0 ha (room_of hl (of_decide_eq_true hn) (by rw [hm]; decide))

/-- An admitted packet with MAC. -/
theorem sealed_ok {op : Nat} {ps : Bytes} {s : State} (h0 : admits0 op (sealed op ps s) ps s = true) (hk : s.sec.slots[2]? = some testSlot)
    (hlo : s.lockout = false) (hn : (match needOf op with | some r => decide (r < 8) | none => true) = true) (ho : decide (op < 65536) = true)
    (hl : s.clap.ledger = []) (hc : decide ((pktOf op (sealed op ps s) ps s).covered.length ≤ 4152) = true) : Admits op (sealed op ps s) ps s := by
  have hm : (pktOf op (sealed op ps s) ps s).mac.length ≤ 8 := macOf_length (zeros 16) 1 s.sys.profileL serialBytes _
  have hn' : needOf op = none ∨ ∃ r, needOf op = some r ∧ r < 8 := by
    cases h : needOf op with
    | none => exact .inl rfl
    | some r => rw [h] at hn; exact .inr ⟨r, rfl, of_decide_eq_true hn⟩
  exact admits_of h0 (sealed_auth hk hlo hn' (of_decide_eq_true ho)) (room_of hl (of_decide_eq_true hc) hm)

/-- All that shows the packet without MAC admitted, evaluated. -/
def okP (op : Nat) (ps : Bytes) (s : State) : Bool :=
  admits0 op plain ps s && (s.authRefused (pktOf op plain ps s)).isNone && s.clap.ledger.isEmpty && (pktOf op plain ps s).mac.isEmpty &&
  decide ((pktOf op plain ps s).covered.length ≤ 4152)

theorem pl {op : Nat} {ps : Bytes} {s : State} (h : okP op ps s = true) : Admits op plain ps s := by
  simp only [okP, Bool.and_eq_true, Option.isNone_iff_eq_none, List.isEmpty_iff] at h
  obtain ⟨⟨⟨⟨a, b⟩, c⟩, d⟩, e⟩ := h
  exact plain_ok a b c e d

/-- All that shows the packet sealed with slot 2 admitted, evaluated. -/
def okS (op : Nat) (ps : Bytes) (s : State) : Bool :=
  admits0 op (sealed op ps s) ps s && decide (s.sec.slots[2]? = some testSlot) && !s.lockout &&
  (match needOf op with | some r => decide (r < 8) | none => true) && decide (op < 65536) && s.clap.ledger.isEmpty &&
  decide ((pktOf op (sealed op ps s) ps s).covered.length ≤ 4152)

theorem se {op : Nat} {ps : Bytes} {s : State} (h : okS op ps s = true) : Admits op (sealed op ps s) ps s := by
  unfold okS at h
  rw [Bool.and_eq_true, Bool.and_eq_true, Bool.and_eq_true, Bool.and_eq_true, Bool.and_eq_true, Bool.and_eq_true] at h
  obtain ⟨⟨⟨⟨⟨⟨a, b⟩, c⟩, d⟩, e⟩, f⟩, g⟩ := h
  exact sealed_ok a (of_decide_eq_true b) (by simpa using c) d e (List.isEmpty_iff.mp f) g

/-- The header of a register-write row. -/
def sealW (a : Nat) (v : Word) (s : State) : CmdHdr := sealed 0x801 (regParams a v) s

theorem wr {a : Nat} {v : Word} {s : State} (h : okS 0x801 (regParams a v) s = true)
    (h2 : regWriteBad [(a, v)] (slotOf 0x801 (sealW a v s) (regParams a v) s) (writing a (sealW a v s) v s) = none) : Writes a (sealW a v s) v s :=
  ⟨se h, h2⟩

/-- Nothing is pending. -/
theorem calm_live {s : State} (h : (s.clap.queue.isEmpty && !s.clap.restarting && s.clap.held.isNone && !s.sys.coldDue && s.clap.long.isEmpty &&
    s.cv.scan.isNone && s.store.bufs.all (fun b => !b.pendFree)) = true) : Calm s := by
  simp only [Bool.and_eq_true, Bool.not_eq_true', List.isEmpty_iff, Option.isNone_iff_eq_none, List.all_eq_true] at h
  obtain ⟨⟨⟨⟨⟨⟨a, b⟩, c⟩, d⟩, e⟩, f⟩, g⟩ := h
  exact { idle := a, running := b, free := c, noCold := d, noLong := e, noScan := f, noFree := g }

/-! The statements about every command (O1 to O13). -/

theorem test_hyp_IdleStepIsATick :
    live.pending = [] ∧ (live.tabor 3).running = true ∧ live.sys.vaon = true ∧ live.onAir = true ∧ State.reset.onAir = false ∧
    live.link.blkPhase + 100 * 2 ^ (live.link.grade.toNat - 1) < 16384 * 128 ∧
    (let s := live.onLink (fun l => { l with blkPhase := 16384 * 128 - 100 })
     s.onAir = true ∧ 16384 * 128 ≤ s.link.blkPhase + 100 * 2 ^ (s.link.grade.toNat - 1)) := by decide +kernel

theorem test_hyp_StepsKeepSound : Sound State.reset ∧ Sound live ∧ step live = .next (tick live) :=
  ⟨⟨by decide +kernel, by decide +kernel, by decide +kernel, by decide +kernel, by decide +kernel, by decide +kernel⟩,
   ⟨by decide +kernel, by decide +kernel, by decide +kernel, by decide +kernel, by decide +kernel, by decide +kernel⟩, rfl⟩

theorem test_hyp_AntiRollback : live.sys.readySeen = false ∧ live.sys.fwImage.toNat < 2 ∧ step live = .next (tick live) :=
  ⟨by decide +kernel, by decide +kernel, rfl⟩

def liveL : State := live.onSys (fun y => { y with profileL := true })

theorem test_hyp_PacketsReadBack :
    ((zeros 4132).length ≤ 4132 ∧ live.dialectL .envex = false ∧ plain.mac.length = (if plain.auth then 8 else 0)) ∧
    (liveL.dialectL .can = true ∧ 0xF0F / 256 < 16 ∧ 0xF0F % 256 < 16 ∧ ({ plain with mac := zeros 8 } : CmdHdr).mac.length = 8) := by decide +kernel

def entry (op : Nat) (ps : Bytes) (st status : Nat) : LedgerEntry :=
  { lseq := 5, pkt := pktOf op plain ps live, state := st, status := status, detail := 0xFFFF, data := [], tAccept := 0, epoch := 0, restarts := 0, firstDue := false }
def used (l : List LedgerEntry) : State := live.onClap (fun c => { c with seqU := 1, ledger := l })
def long (k : LongKind) : LongCmd := ⟨⟨pktOf 0x100 plain [] live, some 9, false, none⟩, k⟩
def qent : QEntry := { lseq := 1, sh := [], tabs := [], changed := 0, latched := false, waiting := 0, age := 0, lateAny := false, since := 0 }

theorem takes_of {s : State} (h : (s.clap.queue.isEmpty && !s.clap.restarting && s.clap.held.isNone && !s.sys.coldDue) = true) : Takes s := by
  simp only [Bool.and_eq_true, Bool.not_eq_true', List.isEmpty_iff, Option.isNone_iff_eq_none] at h
  obtain ⟨⟨⟨a, b⟩, c⟩, d⟩ := h
  exact { idle := a, running := b, free := c, noCold := d }
theorem test_hyp_RefusedCommands :
    (exec (.nop plain []) live = .next (hostCmd 0 plain [] live) ∧ State.reset.hears .envex = false ∧ live.hears .envex = true ∧ Takes live) ∧
    4132 < (zeros 4133).length ∧
    (let s := live.onSec (fun k => { k with lockAt := some 0 }); s.authRefused (pktOf 0x005 plain [1] s) = some 0x1A ∧ s.hears .envex = true) ∧
    live.authRefused (pktOf 0x005 plain [1] live) = some 0x15 ∧
    ((used []).authRefused (pktOf 0 plain [] (used [])) = none ∧ (1 : BitVec 32).toNat ≤ ((used []).lastSeq (pktOf 0 plain [] (used []))).toNat ∧
      (used []).clap.ledger.reverse.find? (fun e => sameSpace e.pkt (pktOf 0x201 plain [0, 1] live) && e.pkt.seq == 1) = none) ∧
    (∀ e ∈ [entry 0x201 [1, 1] 2 0, entry 0x201 [0, 1] 0 1, entry 0x201 [0, 1] 2 0],
      (used [e]).clap.ledger.reverse.find? (fun e => sameSpace e.pkt (pktOf 0x201 plain [0, 1] live) && e.pkt.seq == 1) = some e) ∧
    cmdCrc (entry 0x201 [1, 1] 2 0).pkt ≠ cmdCrc (pktOf 0x201 plain [0, 1] live) ∧
    (cmdCrc (entry 0x201 [0, 1] 0 1).pkt = cmdCrc (pktOf 0x201 plain [0, 1] live) ∧ (entry 0x201 [0, 1] 0 1).state = 0 ∧ (entry 0x201 [0, 1] 2 0).state ≠ 0) ∧
    (let s := live.onClap (fun c => { c with long := [long .lightOn] })
     s.authRefused (pktOf 0x101 plain [] s) = none ∧ (s.lastSeq (pktOf 0x101 plain [] s)).toNat < (1 : BitVec 32).toNat ∧
     s.unitBusy (pktOf 0x101 plain [] s) = true) ∧
    (let s := live.onClap (fun c => { c with ledger := List.replicate 62 (entry 0x001 (zeros 4132) 0 1) })
     journals 0x101 = true ∧ s.unitBusy (pktOf 0x101 plain [] s) = false ∧ s.ledgerRoom (pktOf 0x101 plain [] s) = false) ∧
    (live.authRefused (pktOf 0x101 plain [] live) = none ∧ live.unitBusy (pktOf 0x101 plain [] live) = false ∧
      live.ledgerRoom (pktOf 0x101 plain [] live) = true ∧ check79 (ctxOf 0x101 plain [] live) (taken 0x101 plain [] live) = some (refuse0 0x12)) := by
  refine ⟨⟨rfl, by decide +kernel, by decide +kernel, takes_of (by decide +kernel)⟩, ?_⟩
  and_intros <;> decide +kernel

theorem test_hyp_CommitQueueHoldsFour :
    (live.store.queue.length ≤ 4 ∧ step live = .next (tick live)) ∧
    (let s := live.onStore (fun t => { t with queue := List.replicate 4 qent })
     s.hears .envex = true ∧ Takes s ∧ s.authRefused (pktOf 0x206 plain [0] s) = none ∧
     (s.lastSeq (pktOf 0x206 plain [0] s)).toNat < plain.seq.toNat ∧ s.store.queue.length = 4) :=
  ⟨⟨by decide +kernel, rfl⟩, by decide +kernel, takes_of (by decide +kernel), by decide +kernel, by decide +kernel, by decide +kernel⟩

/-- The bytes of a packet of a class on the link, sequence number 0, last check byte included (R109, R110). -/
def rawPkt (cls : Nat) (body : Bytes) : Bytes :=
  let h : Bytes := [0x78, BitVec.ofNat 8 cls, 0, 0] ++ natLe 2 body.length ++ [0]
  let h := h ++ [crcP3 h]
  h ++ body ++ leOf 4 (crcP1 (sliceB h 1 5 ++ body))

def fenBody : Bytes := 63 :: zeros 7

/-- What of Whole can be evaluated. -/
def wholeB (cls : Nat) (b : Bytes) (s : State) : Bool :=
  let raw := rawPkt cls b
  decide (s.link.ls = .active) && decide (8 + b.length + 4 ≤ raw.length) && decide (numAt (raw.take 8) 4 2 = b.length) &&
  decide (sliceB raw 8 b.length = b) && decide (byteAt (raw.take 8) 0 = 0x78) && decide (crcP3 ((raw.take 8).take 7) = byteAt (raw.take 8) 7) &&
  decide (crcP1 (sliceB (raw.take 8) 1 5 ++ b) = u32At raw (8 + b.length)) && decide (u16At (raw.take 8) 2 = s.link.expSeq) &&
  decide (numAt (raw.take 8) 1 1 % 16 = cls) && decide (numAt (raw.take 8) 1 1 < 32) && decide (numAt (raw.take 8) 6 1 = 0) &&
  hostLenOk cls b.length && hostResvOk cls b

theorem whole_of {cls : Nat} {b : Bytes} {s : State} (h : wholeB cls b s = true) : Whole cls (rawPkt cls b) b s := by
  simp only [wholeB, Bool.and_eq_true, decide_eq_true_eq] at h
  obtain ⟨⟨⟨⟨⟨⟨⟨⟨⟨⟨⟨⟨a, b⟩, c⟩, d⟩, e⟩, f⟩, g⟩, i⟩, j⟩, k⟩, l⟩, m⟩, n⟩ := h
  exact ⟨a, b, c, d, e, f, g, i, j, k, l, m, n⟩

theorem framed_of {cls : Nat} {b : Bytes} {s : State} (h : wholeB cls b s = true)
    (hc : creditsOf b.length ≤ (s.link.ownLimit.getD (poolOf cls) 0 - s.link.ownUsed.getD (poolOf cls) 0).toNat) : Framed cls (rawPkt cls b) b s :=
  ⟨whole_of h, hc⟩

theorem test_hyp_PacketWithoutCredit :
    let s := live.onLink (fun l => { l with ownUsed := [128, 64, 320] })
    Whole 4 (rawPkt 4 fenBody) fenBody s ∧ (s.link.ownLimit.getD (poolOf 4) 0 - s.link.ownUsed.getD (poolOf 4) 0).toNat < creditsOf fenBody.length :=
  ⟨whole_of (by decide +kernel), by decide +kernel⟩

theorem test_hyp_RecordingAnEvent :
    live.flt.length = 16 ∧ (live.flts 15).first = none ∧ (live.flts 15).queue.length < 16 ∧
    (recordBase bLINK 7 noUnit live).2.1 ≠ 3 ∧ (recordBase bMALLET 11 noUnit live).2.1 = 3 := by decide +kernel

theorem test_hyp_EntryToGong :
    (∀ st ∈ [DevState.ready, .lit, .still, .degraded, .service], (inSt st live).sys.st = st) ∧ (inSt .off live).sys.st = .off ∧
    (inSt .boot live).sys.st = .boot ∧ (inSt .standby live).sys.st = .standby ∧
    (inSt .gong live).sys.st = .gong ∧ (inSt .gong live).clap.long.any (fun l => l.kind.isLight) = false ∧
    live.sys.gongCapable = true ∧ (live.onSys (fun y => { y with gongCapable := false })).sys.gongCapable = false := by decide +kernel

theorem test_hyp_RepliesLeaveTheRest : (4 : Nat) < 0x10 ∧ Calm live := ⟨by decide, calm_live (by decide +kernel)⟩

theorem test_hyp_StoreReadsWhatWasWritten : spWf 0 live.store.mem = true ∧ spWf 0 (writeStore 3 [1, 0, 2] live).store.mem = true := by decide +kernel

/-! The statements about the command packets (O14 to O35). -/

def lit : State := (inSt .lit live).onMal (fun m => { m with scanning := true })
def still : State := (inSt .still live).onMal (fun m => { m with scanning := true })
def gong : State := (inSt .gong live).onMal (fun m => { m with gongSegs := 0xFF })
def service : State := inSt .service live
/-- A domain in a condition. -/
def dom (d : Nat) (c : PdCond) (s : State) : State := s.onSys (fun y => { y with pd := y.pd.set d c })

theorem test_hyp_SystemQueriesReply :
    Admits 0x000 plain [] live ∧ Admits 0x001 plain (zeros 64) live ∧ (zeros 64).length ≤ 64 ∧ Admits 0x002 plain [] (inSt .boot live) := by
  and_intros <;> first | exact pl (by decide +kernel) | decide +kernel

theorem test_hyp_SystemModeCommands :
    Admits 0x003 plain [] live ∧ Admits 0x004 plain [] live ∧ Admits 0x005 (sealed 0x005 [1] live) [1] live ∧ (1 : Byte).toNat ≤ 1 := by
  and_intros <;> first | exact pl (by decide +kernel) | exact se (by decide +kernel) | decide +kernel

theorem test_hyp_LightOnStartsScanning :
    (Admits 0x100 plain [0] live ∧ live.lightForbidden = false ∧ live.sys.st = .ready) ∧
    (Admits 0x100 plain [80] service ∧ service.lightForbidden = false ∧ service.sys.st ≠ .gong) := by
  and_intros <;> first | exact pl (by decide +kernel) | decide +kernel

theorem test_hyp_LightOffAndStill :
    (Admits 0x101 plain [] lit ∧ lit.sys.st ≠ .service ∧ lit.mal.scanning = true) ∧
    (Admits 0x101 plain [] service ∧ service.sys.st = .service ∧ service.mal.scanning = false) ∧ Admits 0x102 plain [] lit ∧ Admits 0x103 plain [] still := by
  and_intros <;> first | exact pl (by decide +kernel) | decide +kernel

theorem test_hyp_GongCommands :
    Admits 0x104 plain [] lit ∧ Admits 0x105 plain [0] gong ∧ Admits 0x105 plain [1] gong ∧ gong.sys.limpN = true ∧ gong.criticalSet = false ∧
    gong.sys.gongCause ≠ 4 ∧ gong.lightPowered = true ∧ gong.lightForbidden = false ∧
    (Admits 0x105 plain [1] (dom 6 .off gong) ∧ (dom 6 .off gong).lightPowered = false) := by
  and_intros <;> first | exact pl (by decide +kernel) | decide +kernel

/-- Buffer 0 live, generation 1, in granule 0. -/
def withBuf (pend : Bool) (s : State) : State := onBuf 0 (fun b => { b with live := true, grans := 1, extent := 4, pendFree := pend }) s

theorem test_hyp_BufferCommands :
    (∀ n ∈ [1, 16777216], 1 ≤ numAt (natLe 4 n) 0 4 ∧ numAt (natLe 4 n) 0 4 ≤ 16777216) ∧
    Admits 0x200 plain (natLe 4 1) live ∧ (taken 0x200 plain (natLe 4 1) live).firstFit 1 = some 0 ∧
    (List.range 256).find? (fun i => !((taken 0x200 plain (natLe 4 1) live).buf i).live) = some 0 ∧
    (let s := live.onStore (fun t => { t with bufs := t.bufs.map (fun b => { b with live := true }) })
     Admits 0x200 plain (natLe 4 1) s ∧ (List.range 256).find? (fun i => !((taken 0x200 plain (natLe 4 1) s).buf i).live) = none) ∧
    (Admits 0x201 plain [0, 1] live ∧ (taken 0x201 plain [0, 1] live).current (u16At [0, 1] 0) = none) ∧
    (let s := withBuf false live
     Admits 0x201 plain [0, 1] s ∧ (taken 0x201 plain [0, 1] s).current (u16At [0, 1] 0) = some 0 ∧ s.referred (u16At [0, 1] 0) = false) ∧
    (let s := withBuf true live
     Admits 0x201 plain [0, 1] s ∧ (taken 0x201 plain [0, 1] s).current (u16At [0, 1] 0) = some 0 ∧ (s.buf 0).pendFree = true) := by
  and_intros <;> first | exact pl (by decide +kernel) | decide +kernel

def layer0 : Bytes := 0 :: zeros 35
/-- Write-back off, with the least stride. -/
def route0 : Bytes := zeros 12 ++ natLe 2 3072 ++ zeros 2

theorem test_hyp_LayerCommands :
    (Admits 0x202 plain layer0 live ∧ layer0.length = 36 ∧ numAt layer0 0 1 < 8 ∧ findIdx? (fun x => x != 0) (sliceB layer0 1 3) = none ∧
      recBad 0 (layer0.drop 4) (expertOf plain live) (taken 0x202 plain layer0 live) = none) ∧
    (Admits 0x202 plain (7 :: zeros 3 ++ [16] ++ zeros 31) live ∧
      recBad 7 (16 :: zeros 31) (expertOf plain live) (taken 0x202 plain (7 :: zeros 3 ++ [16] ++ zeros 31) live) = some (0, 0x11)) ∧
    (Admits 0x203 plain [3, 0xFF] live ∧ (3 : Byte).toNat < 4) ∧
    (Admits 0x207 plain route0 live ∧ route0.length = 16 ∧ firstBad (routeRules route0) = none ∧ byteAt route0 1 = 0) := by
  and_intros <;> first | exact pl (by decide +kernel) | decide +kernel

/-- A queued commit whose layer 0 waits for fence 63. -/
def fenceQ : QEntry := { qent with sh := [(lyAddr 0 0, 1), (lyAddr 0 1, BitVec.ofNat 32 (2 ^ 31 + 63 * 2 ^ 16))], changed := 1 }

theorem test_hyp_FenceCommands :
    (63 : Byte).toNat < 64 ∧ Admits 0x204 plain [63, 0] live ∧ (taken 0x204 plain [63, 0] live).fenceQueued 63 = false ∧
    (let s := live.onStore (fun t => { t with queue := [fenceQ] })
     Admits 0x204 plain [63, 0] s ∧ (taken 0x204 plain [63, 0] s).fenceQueued 63 = true) ∧
    (∀ st ∈ [FenceSt.armed, .timedOut, .free, .signalled], okP 0x205 [63] (setFence 63 ⟨st, 1, 0⟩ live) = true ∧ ((setFence 63 ⟨st, 1, 0⟩ live).fence 63).st = st) := by
  and_intros <;> first | exact pl (by decide +kernel) | decide +kernel

theorem test_hyp_CommitQueuesTheShadow :
    (Admits 0x206 plain [0] live ∧ live.store.queue.length < 4 ∧ commitCheck (taken 0x206 plain [0] live).commitSh (taken 0x206 plain [0] live) = none) ∧
    (let s := live.onStore (fun t => { t with shadow := [(lyAddr 0 0, 1)] })
     Admits 0x206 plain [0] s ∧ commitCheck (taken 0x206 plain [0] s).commitSh (taken 0x206 plain [0] s) = some (0x14, lyAddr 0 1)) := by
  and_intros <;> first | exact pl (by decide +kernel) | decide +kernel

def shownRec : State := live.onStore (fun t => { t with recs := [{ (default : FrameRec) with lseq := 3 }] })

theorem test_hyp_LightPathQueries :
    (Admits 0x208 plain [2, 0, 0, 0, 3] live ∧ numAt [2, 0, 0, 0, 3] 4 1 ≤ 3 ∧ u32At [2, 0, 0, 0, 3] 0 ≠ 0xFFFFFFFF ∧ live.findRec (u32At [2, 0, 0, 0, 3] 0) = none) ∧
    (Admits 0x208 plain [3, 0, 0, 0, 0] shownRec ∧ shownRec.findRec (u32At [3, 0, 0, 0, 0] 0) = some { (default : FrameRec) with lseq := 3 } ∧
      numAt [3, 0, 0, 0, 0] 4 1 = 0 ∧ numAt [3, 0, 0, 0, 3] 4 1 ≠ 0) ∧
    (Admits 0x208 plain [3, 0, 0, 0, 3] shownRec ∧ shownRec.pwr.kept.find? (fun k => k.1 = (0 : Word)) = none) ∧
    (let s := shownRec.onPwr (fun p => { p with kept := [(0, [], 0)] })
     Admits 0x208 plain [3, 0, 0, 0, 1] s ∧ s.pwr.kept.find? (fun k => k.1 = (0 : Word)) = some (0, [], 0)) ∧
    (Admits 0x300 plain (natLe 2 (9216 - 2048) ++ natLe 2 2048) live ∧ numAt (natLe 2 (9216 - 2048) ++ natLe 2 2048) 0 2 = 9216 - 2048 ∧
      numAt (natLe 2 (9216 - 2048) ++ natLe 2 2048) 2 2 = 2048) ∧
    (Admits 0x605 plain (natLe 2 9160 ++ natLe 2 56) live ∧ numAt (natLe 2 9160 ++ natLe 2 56) 0 2 = 9160 ∧ numAt (natLe 2 9160 ++ natLe 2 56) 2 2 = 56) := by
  and_intros <;> first | exact pl (by decide +kernel) | decide +kernel

/-- One rectangle: the whole canvas. -/
def keep1 : Bytes := [1, 0, 0, 0, 0, 0, 0xFF, 5, 0, 0, 0xFF, 2]
/-- Sixteen rectangles of one pixel. -/
def keep16 : Bytes := 16 :: zeros 131

theorem test_hyp_KeepoutSet :
    (Admits 0x301 plain keep1 still ∧ numAt keep1 0 1 = 1 ∧ keep1.length = 4 + 8 * 1 ∧ numAt keep1 1 3 = 0 ∧ still.locked = false ∧
      keepBad (BitVec.ofNat 64 (numAt keep1 4 8)) = none) ∧
    (Admits 0x301 plain keep16 live ∧ numAt keep16 0 1 = 16 ∧ keep16.length = 4 + 8 * 16 ∧ numAt keep16 1 3 = 0 ∧ live.locked = false ∧
      (∀ i < 16, keepBad (BitVec.ofNat 64 (numAt keep16 (4 + 8 * i) 8)) = none)) := by
  and_intros <;> first | exact pl (by decide +kernel) | decide +kernel

def policy : Bytes := [1, 1, 0, 0, 50, 0, 20, 0, 16] ++ zeros 39

theorem test_hyp_SafetyCommands :
    (Admits 0x302 (sealed 0x302 policy live) policy live ∧ policy.length = 48 ∧ decide (numAt policy 1 1 / 2 % 2 = 1) = live.locked ∧
      (taken 0x302 (sealed 0x302 policy live) policy live).hasRight (slotOf 0x302 (sealed 0x302 policy live) policy live) 0 = true ∧
      expertOf (sealed 0x302 policy live) live = true ∧
      policyBad policy (taken 0x302 (sealed 0x302 policy live) policy live) = none) ∧
    (let q := policy.set 8 0
     Admits 0x302 (sealed 0x302 q live) q live ∧ policyBad q (taken 0x302 (sealed 0x302 q live) q live) = some 8) ∧
    (∀ n ∈ [100, 60000], okS 0x303 (natLe 4 n) live = true ∧ live.locked = false ∧ numAt (natLe 4 n) 0 4 = n) ∧
    (let s := live.setReg 0xD0010 0x10
     Admits 0x303 (sealed 0x303 (natLe 4 100) s) (natLe 4 100) s ∧ s.locked = true) ∧ Admits 0x304 plain [] live := by
  and_intros <;> first | exact pl (by decide +kernel) | exact se (by decide +kernel) | decide +kernel

/-- The link in ACTIVE on lanes 0 and 1; the aging history of the gain layers as CAL_RUN needs it. -/
def twoLanes : State := lit.onLink (fun l => { l with active := 3, agreed := 3 })
def withBase : State := lit.onNvm (fun n => { n with cur := { n.cur with hasBaseline := true } })
def aging9 : Bytes := [4, 1, 0, 0] ++ natLe 2 2048 ++ [127, 0x9C, 60]

/-- The index of CAL_RUN is a free value of the unit's range, so what the statement asks of it holds for every index. -/
theorem test_hyp_CalRunByUnit :
    (∀ u ∈ [0, 1, 2, 5, 4], calMode u 0 = true) ∧ calMode 4 1 = true ∧
    (∀ e ∈ [(0, 3), (1, 64), (2, 0), (4, 0), (5, 0)], calIndexMax e.1 = some e.2) ∧
    (∀ n top : Nat, n % (top + 1) < top + 1) ∧
    (Admits 0x400 plain [1, 0, 0, 0] live ∧ ∀ i < 65, calState 1 0 i (taken 0x400 plain [1, 0, 0, 0] live) = some 0x12) ∧
    (Admits 0x400 plain [0, 0, 0, 0] twoLanes ∧ ∀ i < 4, calState 0 0 i (taken 0x400 plain [0, 0, 0, 0] twoLanes) = none) ∧
    (Admits 0x400 plain [1, 0, 0, 0] lit ∧ ∀ i < 65, calState 1 0 i (taken 0x400 plain [1, 0, 0, 0] lit) = none) ∧
    (Admits 0x400 plain [2, 0, 0, 0] live ∧ calState 2 0 0 (taken 0x400 plain [2, 0, 0, 0] live) = none) ∧
    (Admits 0x400 plain [5, 0, 0, 0] live ∧ calState 5 0 0 (taken 0x400 plain [5, 0, 0, 0] live) = none) ∧
    (Admits 0x400 plain [4, 0, 0, 0] lit ∧ calState 4 0 0 (taken 0x400 plain [4, 0, 0, 0] lit) = none) ∧
    (Admits 0x400 plain [4, 1, 0, 0] withBase ∧ calState 4 1 0 (taken 0x400 plain [4, 1, 0, 0] withBase) = none) ∧
    (Admits 0x400 (sealed 0x400 aging9 withBase) aging9 withBase ∧ aging9.length = 9 ∧ expertOf (sealed 0x400 aging9 withBase) withBase = true ∧
      calState 4 1 0 (taken 0x400 (sealed 0x400 aging9 withBase) aging9 withBase) = none) ∧
    updateParams aging9 = .ok (2048, 127, -100, 60) := by
  refine ⟨by decide +kernel, by decide +kernel, by decide +kernel, fun n top => Nat.mod_lt _ (Nat.succ_pos _), ⟨pl (by decide +kernel), by decide +kernel⟩,
    ⟨pl (by decide +kernel), by decide +kernel⟩,
    ⟨pl (by decide +kernel), by decide +kernel⟩, ⟨pl (by decide +kernel), by decide +kernel⟩, ⟨pl (by decide +kernel), by decide +kernel⟩,
    ⟨pl (by decide +kernel), by decide +kernel⟩, ⟨pl (by decide +kernel), by decide +kernel⟩,
    ⟨se (by decide +kernel), by decide +kernel, by decide +kernel, by decide +kernel⟩, by rfl⟩

def delta1 : Bytes := natLe 4 1179647 ++ natLe 2 1 ++ [0x80, 1]

theorem test_hyp_CalibrationCommands :
    (Admits 0x401 plain [3, 7] live ∧ calIndexMax 3 = some 7) ∧
    (Admits 0x402 (sealed 0x402 delta1 live) delta1 live ∧ numAt delta1 4 2 = 1 ∧ delta1.length = 6 + 2 * 1 ∧ numAt delta1 0 4 + 1 ≤ 1179648 ∧
      (∀ i < 1, numAt delta1 (7 + 2 * i) 1 ≤ 1)) ∧
    (Admits 0x403 (sealed 0x403 [0x1E] live) [0x1E] live ∧ (0x1E : Byte) ≠ 0 ∧ (0x1E : Byte) &&& 0xE1 = 0) := by
  and_intros <;> first | exact pl (by decide +kernel) | exact se (by decide +kernel) | decide +kernel

def timeSet (n mode : Nat) : Bytes := natLe 1 n ++ natLe 1 mode ++ [0, 0] ++ natLe 2 10000 ++ natLe 2 1 ++ zeros 4 ++
  (if n = 1 ∧ mode = 2 then natLe 4 16000000 ++ natLe 4 500000 else zeros 8) ++ zeros 12

theorem test_hyp_TimeConfigAndQuery :
    (Admits 0x500 plain (timeSet 3 0) live ∧ timeConfigBad (timeSet 3 0) live.sys.profileL live.frameBeats = some 0) ∧
    (Admits 0x500 { plain with expert := false } (timeSet 0 3) live ∧ timeConfigBad (timeSet 0 3) live.sys.profileL live.frameBeats = none ∧
      expertOf { plain with expert := false } live = false) ∧
    (Admits 0x500 plain (timeSet 1 2) live ∧ timeConfigBad (timeSet 1 2) live.sys.profileL live.frameBeats = none) ∧
    (Admits 0x501 plain [15] live ∧ (15 : Byte) ≠ 0 ∧ (15 : Byte).toNat < 16) := by
  refine ⟨⟨pl (by decide +kernel), by decide +kernel⟩,
    ⟨admits_of (by decide +kernel) (by decide +kernel) (by decide +kernel), by decide +kernel, by decide +kernel⟩,
    ⟨pl (by decide +kernel), by decide +kernel⟩, ⟨pl (by decide +kernel), by decide +kernel, by decide +kernel⟩⟩

/-- LIGHT_OFF on Tabor 3 at a count in ns. -/
def sched (t : Nat) : Bytes := [3, 0, 0, 0] ++ natLe 8 t ++ natLe 2 0x101 ++ [0, 0]
def lateState : State := live.onTab (fun b => { b with t := b.t.map (fun t => { t with count := 100 * 2 ^ 32 }) })

theorem test_hyp_ScheduleAt :
    (Admits 0x502 plain (sched 0) live ∧ 16 ≤ (sched 0).length ∧ mayEmbed (numAt (sched 0) 12 2) = true ∧ numAt (sched 0) 14 2 = 0 ∧
      ((live.tabor 3).epoch - u16At (sched 0) 2).toNat = 0 ∧ (0 : Nat) < (live.tabor 3).offs.length ∧
      (taken 0x502 plain (sched 0) live).scheduled < 16 ∧ ((live.tabor 3).ns : Int) ≤ (numAt (sched 0) 4 8 : Int) - (live.tabor 3).offs.getD 0 0) ∧
    (Admits 0x502 plain (sched 0) lateState ∧ (numAt (sched 0) 4 8 : Int) - (lateState.tabor 3).offs.getD 0 0 < ((lateState.tabor 3).ns : Int)) ∧
    (let s := live.onClap (fun c => { c with long := List.replicate 16 (long (.schedule 3 5 0x101 [] false)) })
     Admits 0x502 plain (sched 0) s ∧ 16 ≤ (taken 0x502 plain (sched 0) s).scheduled) := by
  and_intros <;> first | exact pl (by decide +kernel) | decide +kernel

def dumped : State := live.onNvm (fun n => { n with dumps := n.dumps.set 1 { dumpFree with state := 1 } })
def logged : State := live.onClap (fun c => { c with log := [zeros 64], logSeq := 1 })

theorem test_hyp_FaultAndLogCommands :
    (Admits 0x600 plain [15] live ∧ (15 : Byte).toNat < 16 ∧ Admits 0x600 plain [0xFF] live) ∧
    (Admits 0x601 plain [15, 1, 0, 0, 0] live ∧ numAt ([15, 1, 0, 0, 0] : Bytes) 0 1 < 16 ∧
      (u32At [15, 1, 0, 0, 0] 1).toNat / 2 ^ (srcSevs (numAt ([15, 1, 0, 0, 0] : Bytes) 0 1)).length = 0) ∧
    (Admits 0x602 plain [0, 0, 0, 0, 0, 64, 0] logged ∧ logFrom (taken 0x602 plain [0, 0, 0, 0, 0, 64, 0] logged).clap.log (logged.clap.logSeq - 1) 0 = some [zeros 64]) ∧
    (Admits 0x602 plain [1, 0, 0, 0, 0, 1, 0] live ∧
      (logFrom (taken 0x602 plain [1, 0, 0, 0, 0, 1, 0] live).clap.ledger live.clap.ledgerSeq 0).map (fun l => l.map entryBytes) = none) ∧
    (Admits 0x603 plain ([1] ++ natLe 4 (0x80000 - 4096) ++ natLe 2 4096) dumped ∧ (dumped.nvm.dumps.getD 1 dumpFree).state ≠ 0) ∧
    (Admits 0x603 plain ([0] ++ natLe 4 0 ++ natLe 2 4) live ∧ (live.nvm.dumps.getD 0 dumpFree).state = 0) ∧
    (Admits 0x604 plain [1] dumped ∧ (dumped.nvm.dumps.getD 1 dumpFree).state ≠ 0) ∧ (Admits 0x604 plain [0] live ∧ (live.nvm.dumps.getD 0 dumpFree).state = 0) := by
  and_intros <;> first | exact pl (by decide +kernel) | decide +kernel

def hk1 : Bytes := [1, 0, 0, 0] ++ zeros 8
def scanMram (start n : Nat) : Bytes := [1] ++ natLe 4 start ++ natLe 4 n ++ [3]
def scanStore (start n : Nat) : Bytes := [0] ++ natLe 4 start ++ natLe 4 n ++ [0]

theorem test_hyp_HkAndCvCommands :
    (Admits 0x606 plain hk1 live ∧ numAt hk1 0 1 = 1 ∧ live.hkLocked [0] = false ∧ seqBad [0] (expertOf plain live) (taken 0x606 plain hk1 live) = some (0x11, 0)) ∧
    (∀ v ∈ [0, 7], okS 0x700 ([5, v] ++ zeros 6) live = true) ∧ (∀ v ∈ [0, 1], okS 0x700 ([3, v] ++ zeros 6) live = true) ∧
    (∀ a ∈ [0x650000, 0x658000], okP 0x701 (scanMram a 0x4000) live = true ∧ numAt (scanMram a 0x4000) 1 4 = a ∧ a + 0x4000 ≤ 0x800000 ∧ (a + 0x4000 ≤ 0x654000 ∨ 0x658000 ≤ a)) ∧
    (Admits 0x701 plain (scanMram 0x654000 4) live ∧ ¬(0x654000 + 4 ≤ 0x654000 ∨ 0x658000 ≤ 0x654000)) ∧
    (let s := withBuf false live
     Admits 0x701 plain (scanStore storeBase 4) s ∧ s.pdIs 7 .on = true ∧ (taken 0x701 plain (scanStore storeBase 4) s).bufOf storeBase 4 = some 0 ∧
     (taken 0x701 plain (scanStore storeBase 8) s).bufOf storeBase 8 = none) ∧
    (Admits 0x702 plain [5] live ∧ (5 : Byte).toNat < 6) := by
  and_intros <;> first | exact pl (by decide +kernel) | exact se (by decide +kernel) | decide +kernel

/-- Nine conversions in each repetition: every channel of R345 within its bound. -/
def seq9 : List (BitVec 64) := [41, 6, 2, 40, 41, 0, 1, 32, 33]
def hk9 : Bytes := [9, 0, 0, 0] ++ seq9.flatMap (fun e => natLe 8 e.toNat)

theorem test_hyp_HkSeqSet_accepted :
    Admits 0x606 plain hk9 live ∧ hk9.length = 4 + 8 * 9 ∧ live.hkLocked seq9 = false ∧
    (List.range 9).map (fun i => BitVec.ofNat 64 (numAt hk9 (4 + 8 * i) 8)) = seq9 ∧ seqBad seq9 true live = none := by
  and_intros <;> first | exact pl (by decide +kernel) | decide +kernel

def rr (a n : Nat) : Bytes := natLe 4 a ++ natLe 1 n
def rw (a : Nat) (ws : List Nat) : Bytes := natLe 4 a ++ natLe 1 ws.length ++ [0, 0, 0] ++ ws.flatMap (natLe 4)

theorem test_hyp_RegisterRunsAllOrNone :
    (∀ n ∈ [1, 64], okS 0x800 (rr 0 n) live = true ∧ numAt (rr 0 n) 4 1 = n) ∧
    ((List.range 64).map (fun i => 0 + 4 * i)).find? (fun x => decide (0x100000 ≤ x)) = none ∧
    ((List.range 1).map (fun i => 0 + 4 * i)).find? (fun x => regUnreachable x live) = none ∧
    (Admits 0x800 (sealed 0x800 (rr 2 1) live) (rr 2 1) live ∧ 2 % 4 ≠ 0) ∧
    (Admits 0x800 (sealed 0x800 (rr 0xFFFFC 2) live) (rr 0xFFFFC 2) live ∧
      ((List.range 2).map (fun i => 0xFFFFC + 4 * i)).find? (fun x => decide (0x100000 ≤ x)) = some 0x100000) ∧
    (let s := dom 8 .off live
     Admits 0x800 (sealed 0x800 (rr 0x80004 1) s) (rr 0x80004 1) s ∧
     ((List.range 1).map (fun i => 0x80004 + 4 * i)).find? (fun x => regUnreachable x s) = some 0x80004) ∧
    (Admits 0x801 (sealed 0x801 (rw 0x10018 [1]) live) (rw 0x10018 [1]) live ∧ numAt (rw 0x10018 [1]) 4 1 = 1 ∧ (rw 0x10018 [1]).length = 8 + 4 * 1 ∧
      findIdx? (fun b => b ≠ 0) (sliceB (rw 0x10018 [1]) 5 3) = none ∧
      regWriteBad [(0x10018, 1)] 2 (taken 0x801 (sealed 0x801 (rw 0x10018 [1]) live) (rw 0x10018 [1]) live) = none) ∧
    (Admits 0x801 (sealed 0x801 (rw 0x10018 [0xFFFFFFFF]) live) (rw 0x10018 [0xFFFFFFFF]) live ∧
      regWriteBad [(0x10018, 0xFFFFFFFF)] 2 live = some (0x11, 0x10018, some 0x10018)) := by
  and_intros <;> first | exact se (by decide +kernel) | decide +kernel

def tabRead (id first n : Nat) : Bytes := natLe 1 id ++ zeros 3 ++ natLe 4 first ++ natLe 2 n
def tabWr (id first : Nat) (vals : Bytes) (n : Nat) : Bytes := tabRead id first n ++ [0, 0] ++ vals
/-- The packet of TABLE_WRITE, and what the statement asks of it: the values and the denial. -/
def tabFine (p : Bytes) (s : State) : Bool :=
  okS 0x803 p s && decide (12 ≤ p.length) && decide (tabParams p (fun sh => sh.2.2) = none) && decide (findIdx? (fun b => b ≠ 0) (sliceB p 10 2) = none) &&
  decide (p.length = 12 + ((tabShape (numAt p 0 1)).getD (0, 0, 0)).2.2 * numAt p 8 2)
def denied (id : Nat) (s : State) : Bool := tabRefused id || (id == 3 && !s.hasRight 2 5) || (s.locked && tabLockable id)

theorem test_hyp_TableCommands :
    (Admits 0x802 (sealed 0x802 (tabRead 1 8191 1) live) (tabRead 1 8191 1) live ∧ (tabRead 1 8191 1).length = 10 ∧
      tabParams (tabRead 1 8191 1) (fun sh => sh.2.1) = none ∧ tabExcess 1 8191 1 8192 = none ∧ tabExcess 1 8192 1 8192 = some (tabAddr 1 8192)) ∧
    Admits 0x802 (sealed 0x802 (tabRead 1 8192 1) live) (tabRead 1 8192 1) live ∧
    (tabFine (tabWr 2 0 [0, 0] 1) live = true ∧ denied 2 live = true) ∧
    (tabFine (tabWr 7 0 [9] 1) lit = true ∧ denied 7 lit = false ∧ tabState 7 (taken 0x803 (sealed 0x803 (tabWr 7 0 [9] 1) lit) (tabWr 7 0 [9] 1) lit) = true) ∧
    (tabFine (tabWr 7 147455 [9] 1) live = true ∧ denied 7 live = false ∧ tabState 7 live = false ∧ tabExcess 7 147455 1 147456 = none ∧
      tabValueBad 7 [9] = none) := by
  and_intros <;> first | exact se (by decide +kernel) | decide +kernel

/-- The zero key wrapped under the zero key: the AES-128 vector of the zero block (log entry 8). -/
def wrapped : Bytes := [0x66, 0xE9, 0x4B, 0xD4, 0xEF, 0x8A, 0x2C, 0x3B, 0x88, 0x4C, 0xFA, 0x59, 0xCA, 0x34, 0x2B, 0x2E]
def keyPs (slot : Nat) : Bytes := natLe 1 slot ++ [0, 0x07, 0] ++ natLe 4 5 ++ wrapped ++ wrapped.take 4 ++ zeros 4

theorem test_aes_dec : aesDec (zeros 16) wrapped = zeros 16 := by decide +kernel
def stagePs (at_ n : Nat) : Bytes := natLe 4 at_ ++ zeros n
def staged (e : Nat) : State := live.onSec (fun k => { k with stage := 1, stageEnd := e })
def testmode : State := live.onSys (fun y => { y with testmode := true })
def unlockPs : Bytes := serialBytes ++ zeros 72

theorem test_hyp_KeyInstall :
    (Admits 0x900 (sealed 0x900 (keyPs 15) live) (keyPs 15) live ∧ (keyPs 15).length = 32 ∧ slotOf 0x900 (sealed 0x900 (keyPs 15) live) (keyPs 15) live = 2 ∧
      live.keyOf 2 = some (zeros 16) ∧ sliceB (keyPs 15) 8 16 = wrapped ∧ keyBad (keyPs 15) 2 (zeros 16) live = none) ∧
    (Admits 0x900 (sealed 0x900 (keyPs 2) live) (keyPs 2) live ∧ keyBad (keyPs 2) 2 (zeros 16) live = some (0x11, 0)) := by
  and_intros <;> first | exact se (by decide +kernel) | decide +kernel

theorem test_hyp_SecurityCommands :
    (Admits 0x901 (sealed 0x901 [15] live) [15] live ∧ (15 : Byte).toNat < 16 ∧ (15 : Byte).toNat ≠ slotOf 0x901 (sealed 0x901 [15] live) [15] live) ∧
    (let p := stagePs 0xFF000 4096
     Admits 0x902 (sealed 0x902 p (staged 0xFF000)) p (staged 0xFF000) ∧ 4 ≤ p.length ∧ p.length ≤ 4100 ∧ p.length % 4 = 0 ∧ numAt p 0 4 % 4 = 0 ∧
     numAt p 0 4 ≤ (taken 0x902 (sealed 0x902 p (staged 0xFF000)) p (staged 0xFF000)).sec.stageEnd ∧ numAt p 0 4 + (p.length - 4) ≤ 0x100000) ∧
    (Admits 0x904 (sealed 0x904 unlockPs testmode) unlockPs testmode ∧ unlockPs.length = 80 ∧ u16At unlockPs 8 = testmode.nvm.cur.bootCount ∧
      findIdx? (fun b => b ≠ 0) (sliceB unlockPs 10 6) = none) := by
  and_intros <;> first | exact se (by decide +kernel) | decide +kernel

/-- The verdict on an ECDSA signature is opaque: one of the two clauses applies to this packet. -/
theorem test_hyp_ServiceUnlock : unlockPs.take 8 = serialBytes ∧
    (Config.ecdsaOk 2 (sha256 (unlockPs.take 16)) (unlockPs.drop 16) = true ∨ Config.ecdsaOk 2 (sha256 (unlockPs.take 16)) (unlockPs.drop 16) = false) :=
  ⟨rfl, by cases Config.ecdsaOk 2 (sha256 (unlockPs.take 16)) (unlockPs.drop 16) <;> simp⟩

theorem test_hyp_FwActivate :
    (Admits 0x903 (sealed 0x903 [0] live) [0] live ∧ Calm live ∧ (0 : Byte).toNat = live.sys.fwImage.toNat) ∧
    (Admits 0x903 (sealed 0x903 [1] live) [1] live ∧ (1 : Byte).toNat ≠ live.sys.fwImage.toNat ∧
      (taken 0x903 (sealed 0x903 [1] live) [1] live).sec.stage ≠ 3) ∧
    (let s := live.onSec (fun k => { k with stage := 3 })
     Admits 0x903 (sealed 0x903 [1] s) [1] s ∧ Calm s ∧ (1 : Byte).toNat = s.stageRegion ∧ (taken 0x903 (sealed 0x903 [1] s) [1] s).sec.stage = 3) := by
  and_intros <;> first | exact se (by decide +kernel) | exact calm_live (by decide +kernel) | decide +kernel

/-- A register-write row is accepted with this word, evaluated. -/
def okW (a : Nat) (v : Word) (s : State) : Bool :=
  okS 0x801 (regParams a v) s &&
  decide (regWriteBad [(a, v)] (slotOf 0x801 (sealW a v s) (regParams a v) s) (writing a (sealW a v s) v s) = none)

theorem ww {a : Nat} {v : Word} {s : State} (h : okW a v s = true) : Writes a (sealW a v s) v s := by
  simp only [okW, Bool.and_eq_true, decide_eq_true_eq] at h
  exact wr h.1 h.2

def manual (n : Nat) : State := live.setReg (0x50038 + 0x40 * n) (0x83#32)

theorem test_hyp_LinkRegisterRows :
    Writes 0x30000 (sealW 0x30000 0xA4C live) 0xA4C live ∧ Writes 0x30004 (sealW 0x30004 1 live) 1 live ∧ Writes 0x30004 (sealW 0x30004 2 live) 2 live ∧
    Writes 0x30004 (sealW 0x30004 ((15 : BitVec 4).setWidth 32 <<< 2) live) ((15 : BitVec 4).setWidth 32 <<< 2) live := by
  and_intros <;> exact ww (by decide +kernel)

theorem test_hyp_UnfenceRegisterRows :
    Writes 0x60000 (sealW 0x60000 0xF0 live) 0xF0 live ∧ Writes 0x90000 (sealW 0x90000 0x1FF live) 0x1FF live ∧
    (Writes 0xA0004 (sealW 0xA0004 0xC0 live) 0xC0 live ∧ (0xC0#32).getLsbD 7 = true) ∧
    (Writes 0xA0004 (sealW 0xA0004 0x40 live) 0x40 live ∧ (0x40#32).getLsbD 7 = false) ∧ Writes 0xC0020 (sealW 0xC0020 4 live) 4 live := by
  and_intros <;> first | exact ww (by decide +kernel) | decide +kernel

theorem test_hyp_ApplyRegisterRows :
    Writes (0x90400 + 0xC0 * 7 + 4 * 47) (sealW (0x90400 + 0xC0 * 7 + 4 * 47) 0 live) 0 live ∧
    (Writes 0xB0000 (sealW 0xB0000 0x10 live) 0x10 live ∧ (0x10#32).getLsbD 5 = false) ∧
    (let s := live.onHk (fun x => { x with staging := seq9 ++ List.replicate 7 0 })
     Writes 0xB0000 (sealW 0xB0000 0x29 s) 0x29 s ∧ (0x29#32).getLsbD 5 = true) ∧
    Admits 0x801 (sealed 0x801 (regParams 0x500E8 1) live) (regParams 0x500E8 1) live ∧
    (Writes (0x50028 + 0x40 * 2) (sealW (0x50028 + 0x40 * 2) 1 (manual 2)) 1 (manual 2) ∧ (2 : Fin 4).val < 3) ∧
    Writes 0xC0020 (sealW 0xC0020 1 live) 1 live ∧ Writes 0xC0020 (sealW 0xC0020 2 live) 2 live ∧ Writes 0x24 (sealW 0x24 1 live) 1 live := by
  and_intros <;> first | exact ww (by decide +kernel) | exact se (by decide +kernel) | decide +kernel

theorem test_hyp_FaultAndCanRegisterRows :
    Writes (0x10000 * 15 + 0xFF00) (sealW (0x10000 * 15 + 0xFF00) 1 live) 1 live ∧
    Writes (0x10000 * 15 + 0xFF28) (sealW (0x10000 * 15 + 0xFF28) (injectWord 0 0 0) service) (injectWord 0 0 0) service ∧
    Writes (0x10000 * 3 + 0xFF28) (sealW (0x10000 * 3 + 0xFF28) (injectWord 0 3 1) service) (injectWord 0 3 1) service ∧
    Writes (0x10000 * 3 + 0xFF30 + 8 * 0) (sealW (0x10000 * 3 + 0xFF30 + 8 * 0) 0x02000020 live) 0x02000020 live ∧
    Writes 0x40000 (sealW 0x40000 0x57 live) 0x57 live := by
  and_intros <;> exact ww (by decide +kernel)

/-! The statements about the link (O40 to O45). -/

def ls (l : LinkState) (s : State) : State := s.onLink (fun k => { k with ls := l })
/-- A TRAIN block: message, lane, lanes, grades, byte 4. -/
def train (msg lane lanes g b4 : Nat) : BitVec 64 :=
  mkBlk [0x55, BitVec.ofNat 8 msg, BitVec.ofNat 8 (lanes * 16 + lane), BitVec.ofNat 8 g, BitVec.ofNat 8 b4, 0x10]
def trainB (b : BitVec 64) (msg lane : Nat) (s : State) : Bool := s.listens lane && blkOk b && trainOk b msg lane
theorem tr {b : BitVec 64} {msg lane : Nat} {s : State} (h : trainB b msg lane s = true) : Train b msg lane s := by
  rw [trainB, Bool.and_eq_true, Bool.and_eq_true] at h; exact ⟨h.1.1, h.1.2, h.2⟩
def ctl (sub b2 : Nat) (more : Bytes) : BitVec 64 := mkBlk ([0x66, BitVec.ofNat 8 sub, BitVec.ofNat 8 b2] ++ more)
def ctlB (b : BitVec 64) (sub : Nat) : Bool := blkOk b && linkctlOk b sub
theorem ct {b : BitVec 64} {sub : Nat} (h : ctlB b sub = true) : Ctl b sub := by
  rw [ctlB, Bool.and_eq_true] at h; exact ⟨h.1, h.2⟩

/-- CONFIG on lane 0, both sides locked; with seven TS_ACKs counted. -/
def config (acks : Nat) : State :=
  ls .config (onLane 0 (fun l => { l with advLocked := true, advLanes := 1, acks := acks }) live)

theorem test_hyp_BringUpMessages :
    (State.reset.listens 0 = false ∧ live.listens 3 = true ∧ blkOk 0x0100000000000000 = false) ∧
    (Train (train 1 0 1 1 4) 1 0 (ls .detect live) ∧ (ls .detect live).link.ls = .detect ∧ ((ls .detect live).lane 0).locked = true) ∧
    (Train (train 1 3 1 1 4) 1 3 (config 0) ∧ (config 0).link.ls = .config) ∧
    (Train (train 2 0 1 1 4) 2 0 (config 6) ∧ BitVec.ofNat 4 (blkByte (train 2 0 1 1 4) 2 / 16) = (heard 0 (train 2 0 1 1 4) (config 0)).commonSet ∧
      (heard 0 (train 2 0 1 1 4) (config 0)).commonSet = 1 ∧
      (lanesOf 1).all (fun n => decide (8 ≤ ((onLane 0 (fun l => { l with acks := l.acks + 1 }) (config 6)).lane n).acks)) = false ∧
      (lanesOf 1).all (fun n => decide (8 ≤ ((onLane 0 (fun l => { l with acks := l.acks + 1 }) (config 7)).lane n).acks)) = true) ∧
    (Train (train 3 0 1 0 4) 3 0 (ls .step live) ∧ blkByte (train 3 0 1 0 4) 3 / 16 = 0 ∧ (ls .step live).link.ls = .step) ∧
    (Train (train 3 0 1 16 4) 3 0 (ls .step live) ∧ 1 ≤ blkByte (train 3 0 1 16 4) 3 / 16 ∧ blkByte (train 3 0 1 16 4) 3 / 16 ≤ live.link.cap.toNat) ∧
    (Train (train 5 0 1 16 4) 5 0 (ls .adapt live) ∧ (ls .adapt live).link.ls = .adapt) ∧
    (Train (train 6 0 1 16 4) 6 0 (ls .linkUp live) ∧ (ls .linkUp live).link.ls = .linkUp) ∧
    (let H := heard 0 (train 6 0 1 16 4) (ls .recovery live)
     Train (train 6 0 1 16 4) 6 0 (ls .recovery live) ∧ (ls .recovery live).link.ls = .recovery ∧ H.lockedSet &&& H.link.agreed ≠ 0) ∧
    (Train (train 7 0 1 16 4) 7 0 (ls .detect live) ∧ bringing (ls .detect live).link.ls = true) := by
  and_intros <;> first | exact tr (by decide +kernel) | decide +kernel

theorem test_hyp_BringUpTimers :
    (∀ l ∈ [LinkState.detect, .config, .step, .linkUp, .adapt, .refclkWait, .recovery], (ls l live).link.ls = l) ∧
    bringing (ls .refclkWait live).link.ls = false ∧ (ls .adapt live).passed ≠ 0 ∧
    (let s := onLane 0 (fun l => { l with ready := false }) (ls .adapt live)
     s.passed = 0 ∧ s.link.grade.toNat ≤ 1 ∧ (s.onLink (fun l => { l with grade := 2 })).passed = 0 ∧ 2 ≤ (s.onLink (fun l => { l with grade := 2 })).link.grade.toNat) ∧
    (ls .recovery live).link.agreed.getLsbD 0 = true ∧
    (let s := onLane 3 (fun l => { l with locked := true, dropped := true }) live
     s.link.ls = .active ∧ (s.lane 3).dropped = true ∧ (s.lane 3).locked = true) := by
  and_intros <;> decide +kernel

/-- Lanes 0 and 1 in use and locked. -/
def both : State :=
  (onLane 1 (fun l => { l with locked := true, ready := true, partnerReady := true }) live).onLink (fun l => { l with agreed := 3, active := 3, width := 2 })
/-- Lane 1 left the link and is ready to come back. -/
def left1 : State := onLane 1 (fun l => { l with locked := true, ready := true, partnerReady := true, dropped := true }) live
/-- Lanes 0 to 2 locked, 0 and 1 active. -/
def three : State := (onLane 2 (fun l => { l with locked := true }) both).onLink (fun l => { l with agreed := 7 })

theorem test_hyp_LanesLeave :
    (live.link.agreed.getLsbD 1 = false ∧ both.link.ls = .active ∧ both.link.agreed.getLsbD 1 = true ∧ three.link.agreed.getLsbD 2 = true) ∧
    (let D := countDrop 1 (onLane 1 (fun l => { l with locked := false, ready := false, invHdrs := [] }) both)
     D.link.active &&& D.lockedSet &&& D.link.agreed ≠ 0) ∧
    (let D := countDrop 2 (onLane 2 (fun l => { l with locked := false, ready := false, invHdrs := [] }) three)
     D.link.active &&& D.lockedSet &&& D.link.agreed ≠ 0) ∧
    (let D := countDrop 0 (onLane 0 (fun l => { l with locked := false, ready := false, invHdrs := [] }) live)
     D.link.active &&& D.lockedSet &&& D.link.agreed = 0) ∧
    (live.listens 3 = true ∧ (recordT bLINK 0 (atUnit 3) (live.bump (0x30028 + 0x10 * 3) 0 32 1)).2 = false ∧ (live.lane 3).invHdrs = []) ∧
    (let s := onFlts bLINK (fun f => { f with tallies := modAt f.tallies 0 (fun y => { y with n := 1 }) }) live
     (recordT bLINK 0 (atUnit 3) (s.bump (0x30028 + 0x10 * 3) 0 32 1)).2 = true) ∧
    (let s := onLane 0 (fun l => { l with invHdrs := List.range 31 }) live
     s.listens 0 = true ∧ 32 ≤ (0 :: ((s.lane 0).invHdrs.map (· + 0 + 1)).filter (· < 1024)).length ∧ (s.lane 0).locked = true) ∧
    (Ctl (ctl 4 1 []) 4 ∧ BitVec.ofNat 4 (blkByte (ctl 4 1 []) 2) &&& both.lockedSet &&& both.link.agreed &&& ~~~both.fencedSet ≠ 0) ∧
    (Ctl (ctl 4 8 []) 4 ∧ BitVec.ofNat 4 (blkByte (ctl 4 8 []) 2) &&& both.lockedSet &&& both.link.agreed &&& ~~~both.fencedSet = 0) ∧
    (let s := both.onLink (fun l => { l with dropSent := true })
     let m := s.lockedSet &&& s.link.agreed &&& ~~~s.fencedSet
     s.link.dropSent = true ∧ m = 3 ∧ widthOf m = 2 ∧
     (Ctl (ctl 5 3 [2]) 5 ∧ BitVec.ofNat 4 (blkByte (ctl 5 3 [2]) 2) = 3 ∧ (3 : BitVec 4) &&& ~~~m = 0 ∧ blkByte (ctl 5 3 [2]) 3 = (lanesOf 3).length) ∧
     (Ctl (ctl 5 1 [1]) 5 ∧ BitVec.ofNat 4 (blkByte (ctl 5 1 [1]) 2) = 1 ∧ (1 : BitVec 4) &&& ~~~m = 0 ∧ blkByte (ctl 5 1 [1]) 3 = (lanesOf 1).length)) ∧
    (both.link.dropSent = false ∧ BitVec.ofNat 4 (blkByte (ctl 5 3 [2]) 2) = both.link.active ∧ BitVec.ofNat 4 (blkByte (ctl 5 1 [1]) 2) ≠ both.link.active) := by
  and_intros <;> first | exact ct (by decide +kernel) | decide +kernel

def autoOn (s : State) : State := s.onLink (fun l => { l with cfg := l.cfg ||| 8 })

theorem test_hyp_LanesRejoin :
    Ctl (ctl 6 2 []) 6 ∧ Ctl (ctl 7 2 []) 7 ∧ left1.link.ls = .active ∧ (left1.lane 1).dropped = true ∧ (autoOn left1).autoRejoin = true ∧
    (let S := onLane 1 (fun l => { l with holdOver := true }) (autoOn left1)
     S.rejoinable &&& laneSet S (fun l => l.holdOver) ≠ 0) ∧
    (let S := onLane 1 (fun l => { l with holdOver := true }) (onLane 1 (fun l => { l with locked := false }) (autoOn left1))
     S.rejoinable &&& laneSet S (fun l => l.holdOver) = 0) ∧
    (let b (a : Byte) := mkBlk ([0x4B, 1, a] ++ [0, 0, 0])
     let s := left1.onLink (fun l => { l with rejoinSet := 2 })
     s.listens 1 = true ∧ (∀ a ∈ [(1 : Byte), 3], blkOk (b a) = true ∧ blkByte (b a) 0 = 0x4B ∧ blkByte (b a) 1 = (1 : Fin 4).val) ∧
     BitVec.ofNat 4 (blkByte (b 1) 2) = s.link.active ∧ BitVec.ofNat 4 (blkByte (b 3) 2) = activeOf (s.link.agreed ||| s.link.rejoinSet) ∧
     (ls .recovery s).listens 1 = true ∧ (ls .recovery s).link.ls ≠ .active) := by
  and_intros <;> first | exact ct (by decide +kernel) | decide +kernel

def unacked (stalls : Nat) : State :=
  live.onLink (fun l => { l with retry := [{ cls := 2, seq := 0, payload := [], tag := .none, born := 0 }], sinceAck := 1, stalls := stalls })

theorem test_hyp_AckAndCredit :
    blkOk 0x0100000000000000 = false ∧ Ctl (ctl 1 0 []) 1 ∧ Ctl (ctl 2 0 []) 2 ∧ Ctl (ctl 3 2 [1, 0]) 3 ∧ blkByte (ctl 3 2 [1, 0]) 2 < 3 ∧
    (BitVec.ofNat 16 (fld (ctl 3 2 [1, 0]) 24 16) - live.link.hostLimit.getD (blkByte (ctl 3 2 [1, 0]) 2) 0).toNat < 32768 ∧
    live.onAir = true ∧ live.link.ls = .active ∧ (ls .linkUp live).link.ls = .linkUp ∧ (ls .recovery live).link.ls = .recovery ∧
    0 < (unacked 0).link.sinceAck ∧ (unacked 3).link.retry ≠ [] ∧ (unacked 3).link.stalls < 4 ∧ 4 ≤ (unacked 4).link.stalls := by
  and_intros <;> first | exact ct (by decide +kernel) | decide +kernel

theorem test_hyp_LineMonitors :
    (let s := onLane 0 (fun l => { l with qual := 0x4D335A4D }) live
     let q := (s.lane 0).qual
     let f := onLane 0 (fun l => { l with frozen := true }) s
     let meets (t u tr one runs : Nat) : Bool := decide (t * 65536 ≤ tr * 256) && decide (u * runs ≤ one * 256)
     (s.lane 0).frozen = false ∧ (f.lane 0).frozen = true ∧ (s.lane 0).freezes ≠ 0xFFFF ∧
     meets (fld q 0 8) (fld q 16 8) 65536 65536 65536 = true ∧ meets (fld q 0 8) (fld q 16 8) 0 0 65536 = false ∧
     meets (fld q 8 8) (fld q 24 8) 65536 65536 65536 = true ∧ meets (fld q 8 8) (fld q 24 8) 0 0 65536 = false) ∧
    live.link.ls = .active ∧ live.wired = 15 := by
  and_intros <;> decide +kernel

/-- A NOP of Profile A without MAC, as an inner packet (R141). -/
def nopPkt : Bytes := pktBytes (pktOf 0 plain [] live)

def wrBody (a : Nat) (h : Nat) : Bytes := natLe 4 a ++ natLe 2 h ++ [0, 0] ++ [1, 2, 3, 4]

theorem test_hyp_PacketsGoToTheirBlock :
    (Framed 1 (rawPkt 1 nopPkt) nopPkt live ∧ parseCmd ((received 1 nopPkt live).dialectL .envex) .envex nopPkt = some (pktOf 0 plain [] live)) ∧
    (Framed 1 (rawPkt 1 (zeros 18)) (zeros 18) live ∧ parseCmd ((received 1 (zeros 18) live).dialectL .envex) .envex (zeros 18) = none) ∧
    (let s := withBuf false live
     let p := wrBody storeBase 0x100
     Framed 3 (rawPkt 3 p) p s ∧ wrReason (numAt p 0 4) (u16At p 4) (p.drop 8).length (received 3 p s) = 0) ∧
    (Framed 3 (rawPkt 3 (wrBody storeBase 0x100)) (wrBody storeBase 0x100) live ∧
      wrReason storeBase 0x100 4 (received 3 (wrBody storeBase 0x100) live) = 1 ∧ (received 3 (wrBody storeBase 0x100) live).pdIs 7 .on = true) ∧
    (Framed 3 (rawPkt 3 (wrBody storeBase 0x100)) (wrBody storeBase 0x100) (dom 7 .ret live) ∧
      (received 3 (wrBody storeBase 0x100) (dom 7 .ret live)).pdIs 7 .on = false) ∧
    (∀ st ∈ [FenceSt.armed, .timedOut, .free, .signalled], wholeB 4 fenBody (setFence 63 ⟨st, 1, 0⟩ live) = true ∧
      ((received 4 fenBody (setFence 63 ⟨st, 1, 0⟩ live)).fence (numAt fenBody 0 1 % 64)).st = st) ∧
    Framed 4 (rawPkt 4 fenBody) fenBody (setFence 63 ⟨.armed, 1, 0⟩ live) := by
  and_intros <;> first | exact framed_of (by decide +kernel) (by decide +kernel) | decide +kernel

/-! The statements about safety, time, CAN FD and the service SPI (O46 to O50). -/

/-- A BEAM_STATE message for both sides without MAC (R360); v past 1 breaks its format. -/
def beamMsg (seq v sides : Nat) : Bytes :=
  let m : Bytes := [0x41, 2, 0, 0] ++ natLe 4 seq ++ zeros 10 ++ natLe 2 4 ++ [1, 0, 0, 0] ++ natLe 1 sides ++ zeros 7 ++ natLe 1 v ++ zeros 3
  m ++ leOf 4 (crcP1 m)
/-- No MAC needed on safety messages, and a path mode. -/
def policyOf (mode : Nat) (s : State) : State := (s.setFld 0xD0010 2 1 0).setFld 0xD0010 0 2 mode
/-- CAN FD enabled. -/
def canLive : State := live.setFld 0x40000 0 1 1
def pend5 (body : Bytes) : Pend := { seq := 5, envex := true, kind := 2, body := body, slot := 0, opened := 0 }
def waiting (body : Bytes) : State := (policyOf 0 canLive).onSafe (fun f => { f with pend := [pend5 body] })

theorem test_hyp_SafetyCopies_envex :
    (Framed 5 (rawPkt 5 (beamMsg 5 1 3)) (beamMsg 5 1 3) (policyOf 0 live) ∧
      (received 5 (beamMsg 5 1 3) (policyOf 0 live)).pdIs 8 .on = true ∧ smsgCheck (beamMsg 5 1 3) true (received 5 (beamMsg 5 1 3) (policyOf 0 live)) = 0) ∧
    (Framed 5 (rawPkt 5 (beamMsg 5 1 2)) (beamMsg 5 1 2) (policyOf 0 live) ∧
      smsgCheck (beamMsg 5 1 2) true (received 5 (beamMsg 5 1 2) (policyOf 0 live)) = 3) ∧
    (Framed 5 (rawPkt 5 (beamMsg 5 2 3)) (beamMsg 5 2 3) (policyOf 0 live) ∧
      smsgCheck (beamMsg 5 2 3) true (received 5 (beamMsg 5 2 3) (policyOf 0 live)) = 2) := by
  and_intros <;> first | exact framed_of (by decide +kernel) (by decide +kernel) | decide +kernel

theorem test_hyp_SafetyCopies_can :
    (canLive.canOn = true ∧ canLive.pdIs 8 .on = true) ∧
    (smsgCheck (beamMsg 5 1 3) false (policyOf 2 canLive) = 0 ∧ (policyOf 2 canLive).pathMode ≠ 0 ∧ (policyOf 2 canLive).canOn = true) ∧
    (smsgCheck (beamMsg 5 1 3) false (policyOf 0 canLive) = 0 ∧ (policyOf 0 canLive).pathMode = 0 ∧
      (policyOf 0 canLive).safe.pend.find? (fun e => e.seq = u32At (beamMsg 5 1 3) 4) = none) ∧
    (let s := waiting (smsgBody (beamMsg 5 1 3))
     smsgCheck (beamMsg 5 1 3) false s = 0 ∧ s.safe.pend.find? (fun e => e.seq = u32At (beamMsg 5 1 3) 4) = some (pend5 (smsgBody (beamMsg 5 1 3)))) ∧
    (let s := waiting [9]
     smsgCheck (beamMsg 5 1 3) false s = 0 ∧ s.safe.pend.find? (fun e => e.seq = u32At (beamMsg 5 1 3) 4) = some (pend5 [9]) ∧
     (pend5 [9]).body ≠ smsgBody (beamMsg 5 1 3)) ∧
    smsgCheck (beamMsg 5 1 2) false (policyOf 0 canLive) = 3 ∧ smsgCheck (beamMsg 5 2 3) false (policyOf 0 canLive) = 2 ∧
    (waiting [9]).safe.pend.find? (fun e => e.seq = 5) = some (pend5 [9]) := by
  and_intros <;> decide +kernel

/-- A time message without MAC (R443). -/
def tsyMsgOf (msg n : Nat) : Bytes := [0x51, natLe 1 msg |>.getD 0 0, natLe 1 n |>.getD 0 0, 0, 0, 0, 1, 0] ++ zeros 16
/-- Tabors 0 and 1 follow a network master, no MAC asked. -/
def noVio (s : State) : State := s.onSys (fun y => { y with vio := false })
def net : State := ((canLive.setReg 0x50038 1).setReg 0x50078 1)
def macAsked : State := net.setFld 0x50038 7 1 1

theorem test_hyp_TimeMessages :
    (∀ msg ∈ [1, 2, 4], tsyFormat (tsyMsgOf msg 0) = true ∧ wholeB 6 (tsyMsgOf msg 0) net = true ∧ numAt (tsyMsgOf msg 0) 1 1 = msg) ∧
    ((received 6 (tsyMsgOf 1 0) net).tMode (numAt (tsyMsgOf 1 0) 2 1 % 2) = 1 ∧ (received 6 (tsyMsgOf 1 0) net).tsyMacNeeded 0 = false ∧
      (received 6 (tsyMsgOf 1 0) net).portUsed 0 = 1 ∧
      (received 6 (tsyMsgOf 1 0) (net.setFld 0x50038 3 2 2)).portUsed 0 = 2 ∧ (net.setFld 0x50078 3 2 2).portUsed 1 = 2 ∧ net.portUsed 1 ≠ 2 ∧
      decide (numAt (tsyMsgOf 1 0) 2 1 / 2 % 2 = 1) = false) ∧
    Framed 6 (rawPkt 6 (tsyMsgOf 1 0)) (tsyMsgOf 1 0) net ∧
    (Framed 6 (rawPkt 6 (tsyMsgOf 1 0)) (tsyMsgOf 1 0) macAsked ∧ (received 6 (tsyMsgOf 1 0) macAsked).tMode 0 = 1 ∧
      (received 6 (tsyMsgOf 1 0) macAsked).tsyMacNeeded 0 = true ∧ (received 6 (tsyMsgOf 1 0) macAsked).portUsed 0 = 1) ∧
    (net.canOn = true ∧ net.tMode 0 = 1 ∧ net.tMode 1 = 1 ∧ numAt (tsyMsgOf 1 1) 2 1 % 2 = 1 ∧ tsyFormat (tsyMsgOf 1 1) = true ∧ net.tsyMacNeeded 1 = false) := by
  and_intros <;> first | exact framed_of (by decide +kernel) (by decide +kernel) | decide +kernel

def exch0 : Exch := { seqId := 1, master := 1, envex := true, replayed := false, t2 := 0, t1 := 0, t3 := 0, stage := 0, lanes := 1, epoch := 0, ingress := 0, egress := 0, path := 0, slots := [], broken := false }

theorem test_hyp_TaborEvents :
    ((onTabor 1 (fun t => { t with exch := some exch0 }) live).tabor 1).exch ≠ none ∧
    (net.tMode 1 = 1 ∧ ((onTabor 1 (fun t => { t with state := 2 }) net).tabor 1).state = 2) ∧
    ((live.tabor 1).running = true ∧ live.lands = true ∧ (noVio live).lands = false ∧ false = (live.rfld (tbA 1 0x38) 12 1 == 1)) ∧
    (let s := (live.setReg 0x50078 2).onTab (fun b => { b with camE0 := some 0 })
     s.tMode 1 = 2 ∧ s.tab.camE0 ≠ none) := by
  and_intros <;> decide +kernel

theorem test_hyp_TimeDrivenEvents :
    (let s := live.onSafe (fun f => { f with refreshArmed := true })
     s.safe.refreshArmed = true ∧ s.refreshMs ≠ 0) ∧
    (inSt .degraded live).sys.st = .degraded ∧
    (live.tab.onCrystal = false ∧ live.powered = true ∧ live.tab.xtalHist.length < 16) ∧ State.reset.tab.onCrystal = true ∧
    (let l : LongCmd := ⟨⟨pktOf 0x502 plain [] live, some 9, false, none⟩, .schedule 3 5 0x101 [] false⟩
     let s := live.onClap (fun c => { c with long := [l] })
     s.clap.long.find? (fun l => l.ctx.ledger = some 9) = some l ∧ s.clap.queue.any (fun q => q.what = .due 9) = false ∧
     (s.onClap (fun c => { c with queue := [⟨0, 3, .due 9, 0⟩] })).clap.queue.any (fun q => q.what = .due 9) = true) := by
  and_intros <;> decide +kernel

def canTx (fs : List Bytes) : State := canLive.onCan (fun c => { c with txq := [{ off := 5, frames := fs, tag := .none, tsy := none }] })

def canErrs (n : Nat) : State := canLive.onCan (fun c => { c with txErr := n, rxErr := Nat.min n 127 })

theorem test_hyp_CanEvents :
    (canLive.canOn = true ∧ (BitVec.ofNat 11 (canLive.canBase + 2 + canLive.side)).toNat = canLive.canBase + 2 + canLive.side ∧
      canLive.can.reasm.find? (fun r => r.id == (BitVec.ofNat 11 (canLive.canBase + 2 + canLive.side)).toNat) = none) ∧
    (∀ d ∈ [(0x10 : Byte), 0x80], d.toNat % 16 = 0 ∧ 1 ≤ d.toNat / 16 ∧ d.toNat / 16 ≤ 8) ∧
    (canLive.onCan (fun c => { c with reasm := [⟨5, 1, 2, []⟩] })).can.reasm.any (fun r => r.id == (5 : BitVec 11).toNat) = true ∧
    (BitVec.ofNat 11 (canLive.canBase + 1)).toNat = canLive.canBase + 1 ∧ (BitVec.ofNat 11 (canLive.canBase + 4 + canLive.side)).toNat = canLive.canBase + 4 + canLive.side ∧
    (let s := canLive.onCan (fun c => { c with busOff := true, recovering := true })
     s.can.busOff = true ∧ s.can.recovering = true) ∧
    ((canTx [[1]]).can.txq ≠ [] ∧ (canTx [[1]]).canOn = true ∧ (canTx [[1], [2]]).can.txq ≠ []) ∧
    (∀ n ∈ [87, 88, 96, 127, 248], (canErrs n).canOn = true ∧ (canErrs n).can.txErr = n ∧ (canErrs n).can.rxErr = Nat.min n 127) ∧
    errCounts .transmitter = (8, 0) ∧ errCounts .receiver = (0, 1) := by
  and_intros <;> decide +kernel

theorem test_hyp_SpiTransactions :
    (let m : Bytes := [1] ++ natLe 2 20 ++ zeros 20
     byteAt m 0 = 1 ∧ 20 ≤ numAt m 1 2 ∧ numAt m 1 2 ≤ 4160 ∧ live.spiReady = true ∧ live.lands = true ∧ (noVio live).lands = false ∧ 3 + numAt m 1 2 ≤ m.length) ∧
    (numAt ([1, 19, 0] : Bytes) 1 2 < 20 ∧ byteAt ([2] : Bytes) 0 ≠ 1 ∧ 4160 < numAt ([1] ++ natLe 2 4161) 1 2) ∧ live.spi.replies = [] ∧
    (let s := live.onSpi (fun p => { p with replies := [([1, 2], .reply 9)] })
     s.spi.replies = ([1, 2], .reply 9) :: [] ∧ TxTag.none ≠ .reply 9 ∧ 2 ≤ ([1, 2] : Bytes).length ∧ ([1, 2] : Bytes).length + 1 ≤ 3) := by
  and_intros <;> decide +kernel

/-! The statements about the light path, power, restarts and pins (O51 to O60). -/

/-- The state before the frame boundary of O51. -/
def beatC (heads : List (Option (BitVec 5))) (s : State) : State :=
  let A := (senseRoll s).onMal (fun m => { m with beat := m.beat + 1 })
  let B := if A.mal.stopDue then syncOwner (goDark A) else A
  beatStart (releaseRepair (openCuts (vledBeat heads (hkBeat B))))

theorem test_hyp_BeatBoundary :
    (let C := beatC (List.replicate 8 none) live
     (live.tabor 2).running = true ∧ C.sys.st.run = true ∧ C.pdIs 9 .on = true ∧ C.mal.beat % C.frameBeats ≠ 0) ∧
    (let C := beatC (List.replicate 8 none) (live.onMal (fun m => { m with beat := live.frameBeats - 1 }))
     C.sys.st.run = true ∧ C.pdIs 9 .on = true ∧ C.mal.beat % C.frameBeats = 0) ∧
    (beatC (List.replicate 8 none) (inSt .boot live)).sys.st.run = false ∧ (beatC (List.replicate 8 none) (dom 9 .off live)).pdIs 9 .on = false ∧
    (State.reset.tabor 2).running = false := by
  and_intros <;> decide +kernel

def row (inTime wrote parity shadow ue : Bool) : RowObs := { inTime := inTime, wrote := wrote, parityOk := parity, shadowOk := shadow, shadowDone := true, scoreUe := ue, ueGroups := [], ce := 0 }

theorem test_hyp_RowWrites :
    (lit.segOf 7 = some 7 ∧ lit.mal.scanning = true ∧ planeSlot (1022#10).toNat = true ∧ planeSlot (1023#10).toNat = false) ∧
    (lit.segOf 8 = none ∧ live.mal.scanning = false) ∧
    ((row true true true true true).scoreUe = true ∧ (row true false true true false).wrote = false ∧ (row false true true true false).inTime = false ∧
      (row true true true true false).ueGroups = [] ∧ (row true true true true false).parityOk = true ∧ (row true true false true false).parityOk = false) ∧
    (∀ y < 768, lit.hasStim bPIX 1 y = false ∧ lit.hasStim bMALLET 2 7 = false) := by
  and_intros <;> decide +kernel

def struck (set : BitVec 8) : State := lit.onMal (fun x => { x with struck := set })

theorem test_hyp_StrikeAndWatchers :
    live.mal.scanning = false ∧ (∀ n, n < 8 → lit.hasStim bMALLET 9 n = false) ∧ (∀ n, n < 9 → lit.hasStim bMALLET 1 n = false ∧ lit.hasStim bMALLET 2 n = false) ∧
    (let ok (s : State) (n : Nat) : Bool := s.mal.struck.getLsbD n || (match s.server n with | some m => s.earned m | none => false)
     selN 8 (fun n => !ok (struck 0xFF) n) = [] ∧ selN 8 (fun n => !ok (struck 0x7F) n) = [7] ∧ 2 ≤ (selN 8 (fun n => !ok (struck 0x3F) n)).length) ∧
    (lit.segOf 0 = some 0 ∧ lit.mal.scanning = true) ∧
    (lit.isLit = true ∧ selN 8 (fun n => (0 : BitVec 8).getLsbD n) = [] ∧ selN 8 (fun n => (0x80 : BitVec 8).getLsbD n) = [7] ∧
      selN 8 (fun n => (0xC0 : BitVec 8).getLsbD n) = [6, 7]) ∧
    (let E := timerExpire 7 lit
     E.spareReady = true ∧ E.mal.hits.all (· == 7) = true) ∧
    (let E := timerExpire 7 (lit.onMal (fun m => { m with spareSeg := some 0 }))
     E.spareReady = false) ∧
    (live.isLit = false ∧ lit.mal.rbConfirm.filter (fun c => c.1 == (7 : Fin 8).val) = [] ∧ slotFn lit.porch (16 * (62#6).toNat + 15) = .readback ∧
      slotFn lit.porch (16 * (0#6).toNat + 15) ≠ .readback ∧ slotFn lit.porch (16 * (63#6).toNat + 15) ≠ .readback) := by
  and_intros <;> decide +kernel

/-- A frame with lane 0 busy on band 95 and its output ready. -/
def jobOf (fc : Bool) : Job :=
  { index := 1, sh := [(lyAddr 0 0, 1)], tabs := tabsDelivered, zonesA := [], zonesB := [], caps := [], derate := [], derCrc := 0, gov := 65536,
    gainBank := false, fcOn := fc, wbWrite := false, wbSkipped := false, rewritten := false, lanes := [some 95, none, none, none], nextBand := 96,
    redo := [], outs := [(95, [])], sat := [], words := [], clamped := [], pixSat := [], readback := [], passed := false, failed := false,
    quiet := false, overran := false, wbRow := 0, upstreamRow := 0 }
def working (fc : Bool) : State := lit.onCarl (fun c => { c with job := some (jobOf fc), fcClean := [(95 * 96, true)] })
def obs (res lb : Bool) (fc : List Nat) (bank : Option (Fin 4)) : BandObs := { residueBad := res, lbUe := lb, fcUe := fc, bankUe := bank, fcCe := 0, storeCe := 0 }

theorem test_hyp_BandsOfAFrame :
    ((working true).carl.job = some (jobOf true) ∧ (jobOf true).lanes.getD 0 none = some 95 ∧ (obs false false [] (some 3)).bankUe = some 3) ∧
    (∀ b, b < 4 → (working true).hasStim bSTORE 1 b = false) ∧ (working true).stims = [] ∧
    ((obs true false [] none).residueBad = true ∧ (obs false true [] none).lbUe = true ∧ (zOrder (jobOf true).sh).any (fun l => decide (l.1 < 2)) = true) ∧
    ((obs false false [] none).fcUe.filter (fun t => decide (t / 96 = 95) && (working true).tileClean t) = [] ∧
      (obs false false [95 * 96] none).fcUe.filter (fun t => decide (t / 96 = 95) && (working true).tileClean t) = [95 * 96]) ∧
    ((jobOf true).outs.any (fun e => e.1 == (95 : Fin 96).val) = true ∧ (jobOf true).words.any (fun e => e.1 == (95 : Fin 96).val) = false ∧
      ([1179647] : List Nat).filter (fun p => decide (p / 12288 = (95 : Fin 96).val)) = 1179647 :: []) ∧
    (lit.carl.job = none ∧ (live.onPix (fun p => { p with rebuild := true })).pix.rebuild = true) := by
  and_intros <;> decide +kernel

theorem test_hyp_Sensing :
    live.pdIs 10 .on = true ∧ (dom 10 .ret live).pdIs 10 .on = false ∧ live.shadowing = false ∧
    (let s := live.onSense (fun e => { e with spareOn := 63 })
     s.shadowing = true) := by
  and_intros <;> decide +kernel

def owner (n : Nat) : State := lit.onPwr (fun p => { p with owner := n })

theorem test_hyp_RegulatorEvents :
    (live.mal.scanning = false ∧ (1 : BitVec 8) &&& ~~~lit.mal.gongSegs ≠ 0 ∧ (0 : BitVec 8) &&& ~~~lit.mal.gongSegs = 0 ∧ lit.mal.scanning = true) ∧
    ((record bPWR 4 noUnit ((owner 2).onPwr (fun p => { p with headShortDone := true }))).pwr.owner = 2 ∧ vMode (owner 2).pwr.vledArm = false) ∧
    ((record bPWR 4 noUnit ((owner 1).onPwr (fun p => { p with headShortDone := true }))).pwr.owner ≠ 2) ∧
    ((owner 2).pwr.owner = 2 ∧ (owner 1).pwr.owner = 1 ∧ live.powered = true) := by
  and_intros <;> decide +kernel

theorem test_hyp_HousekeepingAndDomains :
    (let s := live.onHk (fun h => { h with running := true })
     s.hk.running = true ∧ s.pdIs 10 .on = true) ∧ live.hk.running = false ∧
    (live.pdIs 8 .on = true ∧ live.safe.lbFrame = [] ∧ (live.onSafe (fun f => { f with lbFrame := [(0, 0, 0, false)] })).safe.lbFrame ≠ []) ∧
    (live.powered = true ∧ live.sys.pdWant.getD (11 : Fin 12) .off = .on ∧ (dom 11 .off live).pdIs 11 .on = false) := by
  and_intros <;> decide +kernel

theorem test_hyp_WarmRestart :
    (live.clapRuns = true ∧ live.freeSlot = some 0) ∧
    (live.onNvm (fun n => { n with dumps := n.dumps.map (fun d => { d with state := 1 }) })).freeSlot = none ∧
    (let s := live.onClap (fun c => { c with restarting := true })
     let M := mendFloor (s.onClap (fun c => { c with restarting := false, evtDiscarded := 0, dumpDone := none, retained := [] }))
     s.clap.restarting = true ∧ s.clap.ledger = [] ∧ s.clap.retained = [] ∧ (postEvent bCLAP 0 9 [0, 0, 0] M).link.heldCredits = 0 ∧
     (postEvent bCLAP 0 9 [0, 0, 0] (M.onLink (fun l => { l with heldCredits := 1 }))).link.heldCredits ≠ 0) ∧
    (State.reset.clapRuns = false ∧ live.clap.restarting = false) := by
  and_intros <;> decide +kernel

/-- FW_STAGE of the region that holds the delivered image, with no anti-rollback in the way. -/
def restaged : State := (live.onSys (fun y => { y with fwImage := 1 })).onSec (fun k => { k with stage := 2, minSvn := 0 })
def scanning (space : Nat) : State := live.onCv (fun v => { v with scan := some ⟨space, 8, 4, 0, 0, false, false⟩ })

theorem test_hyp_ClapperEvents :
    (live.clap.restarting = false ∧ live.rateWin 15 31 31 = none) ∧
    (live.onClap (fun c => { c with rates := [⟨15, 31, 31, 0, 0, 0, 0⟩] })).rateWin 15 31 31 = some ⟨15, 31, 31, 0, 0, 0, 0⟩ ∧
    (live.onClap (fun c => { c with restarting := true })).clap.restarting = true ∧
    (restaged.sec.stage = 2 ∧ imgGood restaged restaged.stageRegion = true) ∧
    (let s := live.onSec (fun k => { k with stage := 2 })
     s.sec.stage = 2 ∧ imgGood s s.stageRegion = false) ∧ live.sec.stage ≠ 2 ∧
    ((scanning 0).cv.scan = some ⟨0, 8, 4, 0, 0, false, false⟩ ∧ (scanning 1).cv.scan = some ⟨1, 8, 4, 0, 0, false, false⟩) ∧
    (8 ≤ 8 ∧ 8 < 8 + 4 ∧ live.cv.scan = none) := by
  and_intros <;> decide +kernel

def noVaon (wake rstN : Bool) : State := State.reset.onSys (fun y => { y with vaon := false, st := .off, wake := wake, rstN := rstN })
def strapped : Straps := { profSel := none, testmode := some true }
def asleep (entry : Bool) (rstN : Bool) (st : DevState) : State :=
  live.onSys (fun y => { y with wake := false, rstN := rstN, st := st, standbyEntry := entry })

theorem test_hyp_SuppliesAndPins :
    (∀ w r, (noVaon w r).sys.vaon = false ∧ (coldReset ((noVaon w r).onSys (fun y => { y with vaon := true }))).sys.wake = w ∧
      (sampleStraps strapped (coldReset ((noVaon w r).onSys (fun y => { y with vaon := true })))).sys.rstN = r) ∧
    live.sys.vaon = true ∧
    (∀ st ∈ [DevState.standby, .gong], (asleep false true st).sys.wake = false ∧ (asleep false true st).sys.rstN = true ∧ (asleep false true st).sys.vaon = true ∧
      (asleep false true st).sys.st = st) ∧
    ((asleep true true .ready).sys.standbyEntry = true ∧ (asleep false false .boot).sys.rstN = false ∧ (asleep false false .boot).sys.st ≠ .standby ∧
      (asleep false false .boot).powered = true) ∧
    (live.sys.rstN = true ∧ live.sys.st ≠ .boot ∧ live.sys.standbyEntry = false ∧ live.powered = true ∧ live.lands = true ∧ (noVio live).lands = false ∧ live.sys.lphFltN = true ∧ live.pdIs 11 .on = true) ∧
    (State.reset.sys.rstN = false ∧ State.reset.powered = true ∧ State.reset.sys.wake = true ∧ State.reset.sys.wakeEdge = false) ∧
    (let s := State.reset.onSys (fun y => { y with wakeEdge := true })
     s.sys.wakeEdge = true ∧ s.sys.wake = true) ∧
    ((noVaon true true).powered = false ∧ (inSt .boot live).sys.st = .boot ∧ (inSt .boot live).lands = true ∧ (inSt .boot live).sys.rstN = true) ∧
    (live.sys.st ≠ .service ∧ service.sys.st = .service) := by
  and_intros <;> decide +kernel

/-! Well-formedness refuses a term for each of its checks. -/

theorem test_wf_header :
    (Instr.nop plain []).wellFormed = true ∧ (Instr.nop { plain with path := .sched } []).wellFormed = false ∧
    (Instr.nop { plain with auth := true } []).wellFormed = false ∧ (Instr.nop { plain with auth := true, mac := zeros 8 } []).wellFormed = true ∧
    (Instr.nop { plain with mac := zeros 7 } []).wellFormed = false ∧ (Instr.nop { plain with mac := zeros 8 } []).wellFormed = true ∧
    (Instr.canAutoRecover plain 2).wellFormed = true ∧ (Instr.canAutoRecover plain 0).wellFormed = false := by decide

theorem len_bad (n m : Nat) (h : m < n) : decide ((List.replicate n (0 : Byte)).length ≤ m) = false := by
  rw [List.length_replicate]; exact decide_eq_false (by omega)
theorem wf_ping (ps : Bytes) : (Instr.ping plain ps).wellFormed = decide (ps.length ≤ 65535) := rfl
theorem wf_packet (r : Bytes) : (Instr.cmdPacket r).wellFormed = decide (r.length ≤ 65536) := rfl
theorem wf_damper (r : Bytes) : (Instr.damperSet (.envex r)).wellFormed = decide (r.length ≤ 65536) := rfl
theorem wf_damperCan (r : Bytes) : (Instr.damperSet (.can r)).wellFormed = decide (r.length ≤ 567) := rfl
theorem wf_sync (r : Bytes) : (Instr.sync (.envex r)).wellFormed = decide (r.length ≤ 65536) := rfl

theorem test_wf_lengths :
    (Instr.ping plain (List.replicate 65536 0)).wellFormed = false ∧ (Instr.cmdPacket (List.replicate 65537 0)).wellFormed = false ∧
    (Instr.damperSet (.envex (List.replicate 65537 0))).wellFormed = false ∧ (Instr.damperSet (.can (List.replicate 568 0))).wellFormed = false ∧
    (Instr.sync (.envex (List.replicate 65537 0))).wellFormed = false :=
  ⟨(wf_ping _).trans (len_bad 65536 65535 (by decide)), (wf_packet _).trans (len_bad 65537 65536 (by decide)),
   (wf_damper _).trans (len_bad 65537 65536 (by decide)), (wf_damperCan _).trans (len_bad 568 567 (by decide)),
   (wf_sync _).trans (len_bad 65537 65536 (by decide))⟩

theorem test_wf_frames :
    (Instr.canFragment 0 (zeros 9)).wellFormed = false ∧ (Instr.canTsyFrame 0 (zeros 65)).wellFormed = false ∧ (Instr.sync (.can (zeros 9))).wellFormed = false ∧
    (Instr.canFragment 0 (zeros 64)).wellFormed = true ∧ (Instr.canBusError true true).wellFormed = true := by decide

theorem test_wf_link :
    (Instr.adaptWindowEnd 0 65537 0 0).wellFormed = false ∧ (Instr.adaptWindowEnd 0 0 2 1).wellFormed = false ∧ (Instr.adaptWindowEnd 0 0 0 65537).wellFormed = false ∧
    (Instr.adaptWindowEnd 0 65536 1 1).wellFormed = true ∧
    (Instr.eyeMeasure [0, 0, 0] [0, 0, 0, 0]).wellFormed = false ∧ (Instr.eyeMeasure [0, 0, 0, 4096] [0, 0, 0, 0]).wellFormed = false ∧
    (Instr.eyeMeasure [0, 0, 0, 0] [0, 0, 0]).wellFormed = false ∧ (Instr.eyeMeasure [0, 0, 0, 0] [0, 0, 0, 1024]).wellFormed = false ∧
    (Instr.eyeMeasure [0, 0, 0, 4095] [0, 0, 0, 1023]).wellFormed = true := by decide

theorem test_wf_light :
    (Instr.beatBoundary []).wellFormed = false ∧ (Instr.latchReadback ⟨0, 10⟩ [(1536, 1)] []).wellFormed = false ∧ (Instr.latchReadback ⟨0, 10⟩ [] [(1536, 1)]).wellFormed = false ∧
    (Instr.latchReadback ⟨0, 10⟩ [(1535, 1)] []).wellFormed = true ∧ (Instr.gongTimerExpiry 0).wellFormed = false ∧ (Instr.headShort 0).wellFormed = false ∧
    (Instr.fastRaiseRepeat 0).wellFormed = false ∧ (Instr.bandComposed 0 (obs false false [9216] none)).wellFormed = false ∧
    (Instr.granuleZeroed 4096).wellFormed = false ∧ (Instr.cvScanDone ⟨some 0x20000000, []⟩).wellFormed = false ∧
    (Instr.cvScanDone ⟨none, [0x20000000]⟩).wellFormed = false ∧ (Instr.cvScanDone ⟨none, [0x1FFFFFFF]⟩).wellFormed = true := by decide

def procObs (w b : List (Nat × BitVec 12)) (g : List Nat) : ProcObs :=
  { wordFlips := w, bankFlips := b, gainUe := g, mramUe := false, gainCe := 0, derateBad := false, elapsedUs := 0 }

theorem test_wf_sense :
    (Instr.bandProcessed 0 (procObs [(1179648, 1)] [] [])).wellFormed = false ∧ (Instr.bandProcessed 0 (procObs [] [(1179648, 1)] [])).wellFormed = false ∧
    (Instr.bandProcessed 0 (procObs [] [] [1179648])).wellFormed = false ∧ (Instr.bandProcessed 0 (procObs [] [] [1179647])).wellFormed = true ∧
    (Instr.senseCapture (List.replicate 7 0) (List.replicate 8 0)).wellFormed = false ∧ (Instr.senseCapture (List.replicate 8 0) (List.replicate 7 0)).wellFormed = false ∧
    (∀ b ∈ [(([] : List Nat), ([] : List Nat), [(4096, 0)]), ([], [], [(0, 4096)]), ([4096], [], []), ([], [4096], [])],
      (Instr.sliceFit (List.replicate 16 b.1) (List.replicate 16 b.2.1) (List.replicate 16 b.2.2)).wellFormed = false) ∧
    (Instr.sliceFit [] (List.replicate 16 []) (List.replicate 16 [])).wellFormed = false ∧ (Instr.sliceFit (List.replicate 16 []) [] (List.replicate 16 [])).wellFormed = false ∧
    (Instr.sliceFit (List.replicate 16 []) (List.replicate 16 []) []).wellFormed = false ∧
    (Instr.sliceFit (List.replicate 16 []) (List.replicate 16 []) (List.replicate 16 [(0, 4095)])).wellFormed = true ∧ (Instr.hkRepetition (List.replicate 17 0)).wellFormed = false ∧ (Instr.hkRepetition [4096]).wellFormed = false ∧
    (Instr.rollClassify [] ⟨(List.replicate 65 0), []⟩).wellFormed = false ∧ (Instr.rollClassify (List.replicate 65 []) ⟨[], []⟩).wellFormed = false ∧
    (Instr.rollClassify (List.replicate 65 [4096]) ⟨(List.replicate 65 0), []⟩).wellFormed = false ∧
    (Instr.rollClassify (List.replicate 65 (List.replicate 193 0)) ⟨(List.replicate 65 0), []⟩).wellFormed = false ∧
    (Instr.rollClassify (List.replicate 65 []) ⟨(List.replicate 65 4096), []⟩).wellFormed = false := by decide +kernel

/-! Values that the spec gives. -/

def nine : Bytes := [0x31, 0x32, 0x33, 0x34, 0x35, 0x36, 0x37, 0x38, 0x39]

/-- The check values of R510. -/
theorem test_crc : crcP0 nine = 0xCBF43926 ∧ crcP1 nine = 0xE3069283 ∧ crcP2 nine = 0x29B1 ∧ crcP3 nine = 0xDF := by decide +kernel

/-- No row of the table gives bits. -/
theorem test_decode : decodeTableWord 32 0 = none ∧ live.withFetchWord 32 0 = live := ⟨rfl, rfl⟩

/-- The worked example of R334: the stuck pixel of tile 6,014 in bits [218:216], the cut column at bit 8 of the cut field. -/
theorem test_roll_map :
    let s := (live.onSense (fun e => { e with rollMap := [(500 * 1536 + 1000, 1)] })).onMal (fun m => { m with cutSw := [(5 * 48 + 31, 0x100)] })
    tilePx 6014 72 = 500 * 1536 + 1000 ∧ byteAt (rollEntry s 6014) 51 = 1 ∧ byteAt (rollEntry s 6014) 19 = 1 ∧
    s.mapCode (501 * 1536 + 1000) = 7 := by decide +kernel

/-- A PING answers with its bytes, then the Tabor 3 count and epoch (R168): the PENDING-free reply of status OK is on the link. -/
theorem test_ping : ∃ t, exec (.ping plain [5]) live = .next t ∧ t.clap.seqU = 1 ∧ t.link.outq.length + t.link.tx.length = 1 := by
  refine ⟨_, rfl, ?_, ?_⟩ <;> decide +kernel

/-- BUF_FREE of a handle that is not current: ACCESS_VIOLATION, and the number is used (R150, R184). -/
theorem test_buf_free : ∃ t, exec (.bufFree plain [0, 1]) live = .next t ∧ t.clap.seqU = 1 ∧
    t.clap.ledger.map (fun e => (e.state, e.status, e.detail)) = [(1, 0x14, 0)] := by
  refine ⟨_, rfl, ?_, ?_⟩ <;> decide +kernel

/-- A second use of a number with another packet is refused and recorded (R152). -/
theorem test_replay_refused : ∃ t, exec (.bufFree plain [0, 1]) (used []) = .next t ∧ t.clap.ledger = [] ∧ (t.flts bCLAP).stat = 0x10 := by
  refine ⟨_, rfl, ?_, ?_⟩ <;> decide +kernel

end Sys2Proof.Tests
end

section
/-!
Command packets read back (R141, R144, R146): the fields of a header at the front of a packet, in each dialect, and the parts of a packet
behind its header.
-/
namespace Sys2Proof
open Sys2Proof.Machine

/-! Fields in runs of bytes. -/

/-- A part between two others is read at its offset. -/
theorem sliceB_middle {i n : Nat} {a b c : Bytes} (hi : a.length = i) (hn : b.length = n) : sliceB (a ++ (b ++ c)) i n = b := by
  unfold sliceB
  rw [List.drop_left' hi, List.take_left' hn]

/-- A number of n bytes is read back at its offset (R18). -/
theorem numAt_natLe {i n v : Nat} {a c : Bytes} (hi : a.length = i) (hv : v < 256 ^ n) : numAt (a ++ (natLe n v ++ c)) i n = v := by
  unfold numAt
  rw [sliceB_middle hi (length_natLe n v), leNat_natLe n v hv]

/-- A word is read back from its bytes. -/
theorem numAt_leOf {w i n : Nat} {v : BitVec w} {a c : Bytes} (hi : a.length = i) (hw : 2 ^ w = 256 ^ n) :
    numAt (a ++ (leOf n v ++ c)) i n = v.toNat :=
  numAt_natLe hi (hw ▸ v.isLt)

/-- A number of one byte is that byte. -/
theorem numAt_one (bs : Bytes) (i : Nat) : numAt bs i 1 = (byteAt bs i).toNat := by
  unfold numAt sliceB byteAt
  rw [List.getD_eq_getElem?_getD, ← List.head?_drop]
  cases bs.drop i <;> simp [leNat]

/-! Profile A (R141). -/

/-- The flags byte of Profile A. -/
def flagsA (h : CmdHdr) : Byte := BitVec.ofNat 8 (bit01 h.auth + bit01 h.ackReq * 2 + bit01 h.expert * 4)

/-- The slot byte of Profile A: 0 without a MAC. -/
def slotA (h : CmdHdr) : Byte := BitVec.ofNat 8 (if h.auth then h.slot.val else 0)

/-- The header of Profile A before a number of parameter bytes. -/
def headA (op : Nat) (h : CmdHdr) (len : Nat) : Bytes :=
  [0x11, flagsA h] ++ natLe 2 op ++ leOf 2 h.tag ++ natLe 2 len ++ leOf 4 h.seq ++ [slotA h, 0, 0, 0]

theorem flagsA_bits (h : CmdHdr) :
    (flagsA h).getLsbD 0 = h.auth ∧ (flagsA h).getLsbD 1 = h.ackReq ∧ (flagsA h).getLsbD 2 = h.expert ∧ (flagsA h).toNat < 8 := by
  have key : ∀ a k e : Bool, let f := BitVec.ofNat 8 (bit01 a + bit01 k * 2 + bit01 e * 4)
      f.getLsbD 0 = a ∧ f.getLsbD 1 = k ∧ f.getLsbD 2 = e ∧ f.toNat < 8 := by decide
  exact key h.auth h.ackReq h.expert

theorem slotA_bounds (h : CmdHdr) : (slotA h).toNat < 16 ∧ (h.auth = false → slotA h = 0) := by
  unfold slotA
  cases h.auth with
  | false => simp
  | true => simp; omega

section
variable (op : Nat) (h : CmdHdr) (ps mac c : Bytes)

theorem headA_length : (headA op h ps.length).length = 16 := by simp [headA, length_natLe, leOf]

theorem headA_version : byteAt (headA op h ps.length ++ ps ++ mac ++ c) 0 = 0x11 := rfl
theorem headA_flags : byteAt (headA op h ps.length ++ ps ++ mac ++ c) 1 = flagsA h := rfl
theorem headA_slot : byteAt (headA op h ps.length ++ ps ++ mac ++ c) 12 = slotA h := rfl
theorem headA_resv : numAt (headA op h ps.length ++ ps ++ mac ++ c) 13 3 = 0 := rfl
theorem headA_op (ho : op < 65536) : numAt (headA op h ps.length ++ ps ++ mac ++ c) 2 2 = op :=
  numAt_natLe (a := [0x11, flagsA h]) rfl ho
theorem headA_tag : numAt (headA op h ps.length ++ ps ++ mac ++ c) 4 2 = h.tag.toNat :=
  numAt_leOf (a := [0x11, flagsA h] ++ natLe 2 op) rfl rfl
theorem headA_len (hl : ps.length ≤ 4132) : numAt (headA op h ps.length ++ ps ++ mac ++ c) 6 2 = ps.length :=
  numAt_natLe (a := [0x11, flagsA h] ++ natLe 2 op ++ leOf 2 h.tag) rfl (show ps.length < 65536 by omega)
theorem headA_seq : numAt (headA op h ps.length ++ ps ++ mac ++ c) 8 4 = h.seq.toNat :=
  numAt_leOf (a := [0x11, flagsA h] ++ natLe 2 op ++ leOf 2 h.tag ++ natLe 2 ps.length) rfl rfl

end

/-! Profile L (R144, R146). -/

/-- The flags byte of Profile L, with the slot in its low bits. -/
def flagsL (h : CmdHdr) : Byte := BitVec.ofNat 8 (h.slot.val + bit01 h.ackReq * 16 + bit01 h.expert * 32)

/-- The header of Profile L before a number of parameter bytes. -/
def headL (op : Nat) (h : CmdHdr) (len : Nat) : Bytes :=
  [BitVec.ofNat 8 (lOpcode (BitVec.ofNat 16 op)), flagsL h] ++ natLe 2 len ++ leOf 4 h.seq

theorem flagsL_bits (h : CmdHdr) :
    (flagsL h).getLsbD 4 = h.ackReq ∧ (flagsL h).getLsbD 5 = h.expert ∧ (flagsL h).toNat % 16 = h.slot.val ∧ (flagsL h).toNat < 64 := by
  have key : ∀ (n : Fin 16) (k e : Bool), let f := BitVec.ofNat 8 (n.val + bit01 k * 16 + bit01 e * 32)
      f.getLsbD 4 = k ∧ f.getLsbD 5 = e ∧ f.toNat % 16 = n.val ∧ f.toNat < 64 := by decide
  exact key h.slot h.ackReq h.expert

/-- Profile L carries opcodes of groups and indices below 16 (R146). -/
theorem lOpcode_eq {op : Nat} (hg : op / 256 < 16) (hi : op % 256 < 16) :
    lOpcode (BitVec.ofNat 16 op) = op / 256 * 16 + op % 256 := by
  simp only [lOpcode, fld, bitsN, BitVec.toNat_ofNat]
  omega

theorem opOfL_lOpcode {op : Nat} (hg : op / 256 < 16) (hi : op % 256 < 16) :
    opOfL (BitVec.ofNat 8 (lOpcode (BitVec.ofNat 16 op))).toNat = op := by
  rw [lOpcode_eq hg hi, BitVec.toNat_ofNat, opOfL]
  omega

section
variable (op : Nat) (h : CmdHdr) (ps mac c : Bytes)

theorem headL_length : (headL op h ps.length).length = 8 := by simp [headL, length_natLe, leOf]

theorem headL_op : byteAt (headL op h ps.length ++ ps ++ mac ++ c) 0 = BitVec.ofNat 8 (lOpcode (BitVec.ofNat 16 op)) := rfl
theorem headL_flags : byteAt (headL op h ps.length ++ ps ++ mac ++ c) 1 = flagsL h := rfl
theorem headL_len (hl : ps.length ≤ 4132) : numAt (headL op h ps.length ++ ps ++ mac ++ c) 2 2 = ps.length :=
  numAt_natLe (a := [BitVec.ofNat 8 (lOpcode (BitVec.ofNat 16 op)), flagsL h]) rfl (show ps.length < 65536 by omega)
theorem headL_seq : numAt (headL op h ps.length ++ ps ++ mac ++ c) 4 4 = h.seq.toNat :=
  numAt_leOf (a := [BitVec.ofNat 8 (lOpcode (BitVec.ofNat 16 op)), flagsL h] ++ natLe 2 ps.length) rfl rfl

end

/-! The parts of a packet: head, parameters, MAC and check value. -/

section
variable {head ps mac c : Bytes} {k : Nat}

theorem sliceB_params (hk : head.length = k) : sliceB (head ++ ps ++ mac ++ c) k ps.length = ps := by
  rw [List.append_assoc, List.append_assoc]
  exact sliceB_middle hk rfl

theorem sliceB_mac (hk : (head ++ ps).length = k) : sliceB (head ++ ps ++ mac ++ c) k mac.length = mac := by
  rw [List.append_assoc]
  exact sliceB_middle hk rfl

/-- The check value behind the bytes that it covers. -/
theorem numAt_check {w n : Nat} {v : BitVec w} {body : Bytes} (hk : body.length = k) (hw : 2 ^ w = 256 ^ n) :
    numAt (body ++ leOf n v) k n = v.toNat := by
  have hread := numAt_leOf (c := []) (v := v) hk hw
  rwa [List.append_nil] at hread

end

variable {op : Nat} {h : CmdHdr} {ps : Bytes} {s : State}

/-- A packet of Profile A. -/
theorem pktOf_profileA (hd : s.dialectL h.path = false) (hl : ps.length ≤ 4132) :
    pktOf op h ps s =
      { profL := false, path := h.path, auth := h.auth, ackReq := h.ackReq, expert := h.expert, opcode := BitVec.ofNat 16 op, tag := h.tag,
        seq := h.seq, slot := slotA h, params := ps, covered := headA op h ps.length ++ ps, mac := if h.auth then h.mac else [], bad := none } := by
  simp [pktOf, hd, headA, flagsA, slotA, Nat.not_lt.mpr hl]

/-- A packet of Profile L. -/
theorem pktOf_profileL (hd : s.dialectL h.path = true) (hl : ps.length ≤ 4132) :
    pktOf op h ps s =
      { profL := true, path := h.path, auth := true, ackReq := h.ackReq, expert := h.expert, opcode := BitVec.ofNat 16 op, tag := 0,
        seq := h.seq, slot := BitVec.ofNat 8 h.slot.val, params := ps, covered := headL op h ps.length ++ ps, mac := h.mac, bad := none } := by
  simp [pktOf, hd, headL, flagsL, Nat.not_lt.mpr hl]

/-- Bytes in the form of Profile A, with their check value, are read as their parts (R141). -/
theorem parseCmd_formA {mac : Bytes} {c : Word} (path : Path) (hl : ps.length ≤ 4132) (ho : op < 65536) (hm : mac.length = if h.auth then 8 else 0)
    (hc : crcP1 (headA op h ps.length ++ ps ++ mac) = c) :
    parseCmd false path (headA op h ps.length ++ ps ++ mac ++ leOf 4 c) = some
      { profL := false, path := path, auth := h.auth, ackReq := h.ackReq, expert := h.expert, opcode := BitVec.ofNat 16 op, tag := h.tag,
        seq := h.seq, slot := slotA h, params := ps, covered := headA op h ps.length ++ ps, mac := mac, bad := none } := by
  obtain ⟨hauth, hack, hexp, hflags⟩ := flagsA_bits h
  obtain ⟨hslot, hslot0⟩ := slotA_bounds h
  have hhead := headA_length op h ps
  have hcov : (headA op h ps.length ++ ps).length = 16 + ps.length := by rw [List.length_append, hhead]
  have hbody : (headA op h ps.length ++ ps ++ mac).length = 16 + ps.length + mac.length := by rw [List.length_append, hcov]
  have hn : (headA op h ps.length ++ ps ++ mac ++ leOf 4 c).length = 16 + ps.length + mac.length + 4 := by
    rw [List.length_append, hbody, leOf, length_natLe]
  unfold parseCmd
  simp only [Bool.false_eq_true, if_false, u16At, u32At, hn, Nat.add_sub_cancel, numAt_one, headA_version, headA_flags, headA_slot, headA_resv,
    headA_op _ _ _ _ _ ho, headA_tag, headA_len _ _ _ _ _ hl, headA_seq, hauth, hack, hexp, ← hm, numAt_check (w := 32) (n := 4) hbody rfl,
    List.take_left' hbody, List.take_left' hcov, sliceB_params hhead, sliceB_mac hcov, hc, BitVec.ofNat_toNat, BitVec.setWidth_eq]
  have hsum : 16 + ps.length + mac.length + 4 = 20 + ps.length + mac.length := by omega
  rw [hsum, if_neg (not_or.mpr ⟨by omega, not_not_intro rfl⟩), if_neg]
  simpa [hl, hflags, hslot] using hslot0

/-- Bytes in the form of Profile L, with their check value, are read as their parts (R144). -/
theorem parseCmd_formL {mac : Bytes} {c : BitVec 16} (path : Path) (hl : ps.length ≤ 4132) (hg : op / 256 < 16) (hi : op % 256 < 16)
    (hm : mac.length = 8) (hc : crcP2 (headL op h ps.length ++ ps ++ mac) = c) :
    parseCmd true path (headL op h ps.length ++ ps ++ mac ++ leOf 2 c) = some
      { profL := true, path := path, auth := true, ackReq := h.ackReq, expert := h.expert, opcode := BitVec.ofNat 16 op, tag := 0,
        seq := h.seq, slot := BitVec.ofNat 8 h.slot.val, params := ps, covered := headL op h ps.length ++ ps, mac := mac, bad := none } := by
  obtain ⟨hack, hexp, hslot, hflags⟩ := flagsL_bits h
  have hhead := headL_length op h ps
  have hcov : (headL op h ps.length ++ ps).length = 8 + ps.length := by rw [List.length_append, hhead]
  have hbody : (headL op h ps.length ++ ps ++ mac).length = 16 + ps.length := by rw [List.length_append, hcov, hm]; omega
  have hn : (headL op h ps.length ++ ps ++ mac ++ leOf 2 c).length = 18 + ps.length := by
    rw [List.length_append, hbody, leOf, length_natLe]; omega
  have hmac := sliceB_mac (mac := mac) (c := leOf 2 c) hcov
  rw [hm] at hmac
  have hchecked : 18 + ps.length - 2 = 16 + ps.length := by omega
  have hmacAt : 18 + ps.length - 10 = 8 + ps.length := by omega
  unfold parseCmd
  simp only [if_true, u16At, u32At, hn, hchecked, hmacAt, numAt_one, headL_op, headL_flags, opOfL_lOpcode hg hi, headL_len _ _ _ _ _ hl, headL_seq,
    hack, hexp, hslot, numAt_check (w := 16) (n := 2) hbody rfl, List.take_left' hbody, List.take_left' hcov, sliceB_params hhead,
    hmac, hc, BitVec.ofNat_toNat, BitVec.setWidth_eq]
  rw [if_neg (not_or.mpr ⟨by omega, not_not_intro rfl⟩), if_neg]
  simp [hl, hflags]

/-- Settles O6: a packet is built in the form of its dialect, and a form is read as its parts. -/
theorem packetsReadBack : Obligations.PacketsReadBack := by
  intro op h ps s hl
  refine ⟨fun hd ho hm => ?profileA, fun hd hg hi hm => ?profileL⟩
  case profileA =>
    rw [pktOf_profileA hd hl]
    refine parseCmd_formA h.path hl ho ?_ rfl
    cases hauth : h.auth with
    | false => rfl
    | true => simpa [hauth] using hm
  case profileL =>
    rw [pktOf_profileL hd hl]
    exact parseCmd_formL h.path hl hg hi hm rfl

end Sys2Proof
end

section
/-!
The Layer Store reads what was written (R187).
-/
namespace Sys2Proof
open Sys2Proof.Machine

/-- Settles O13: the read-after-write lemma of the sparse memory, at the store that writeStore leaves. -/
theorem storeReadsWhatWasWritten : Obligations.StoreReadsWhatWasWritten := by
  intro a bs s hwf
  exact ⟨fun x => spGet_spSetRun 0 x bs s.store.mem a hwf, writeStore_wf a bs s hwf, rfl⟩

end Sys2Proof
end

section
/-!
The commands that act after their answer (R7, R76, R78, R161).
-/
namespace Sys2Proof
open Sys2Proof.Machine
variable {op : Nat} {h : CmdHdr} {ps : Bytes} {s t : State} {r : Res} {p : Post}

/-- A row that is not long sends no PENDING: its final reply goes out, then the effect that the body asked for. -/
theorem conclude_done (ho : op < 65536) (hl : longRow op = false) (hp : p ≠ .warm) :
    conclude (ctxOf op h ps s) (.done r p) t = afterReply p (finish (ctxOf op h ps s) r t) := by
  unfold longRow at hl
  unfold conclude
  rw [ctx_op ho]
  cases hrow : opRow op with
  | none => simp [hp]
  | some row =>
    have hlong : row.l = false := by rwa [hrow] at hl
    simp [hp, hlong]

/-- An admitted packet of a row that is not long, whose body asks for an effect after the final reply. -/
theorem hostCmd_after (hA : Admits op h ps s) (ho : op < 65536) (hl : longRow op = false) (hp : p ≠ .warm)
    (hb : opBody op (bodyCtx (ctxOf op h ps s)) (taken op h ps s) = (t, .done r p)) :
    hostCmd op h ps s = follow s.clap.long.length (afterReply p (finish (ctxOf op h ps s) r t)) := by
  rw [hostCmd_admitted hA ho, hb, conclude_done ho hl hp]

/-- An admitted packet whose body asks for a warm restart: its Ledger entry is complete, and no reply precedes the restart (R161). -/
theorem hostCmd_warm (hA : Admits op h ps s) (ho : op < 65536)
    (hb : opBody op (bodyCtx (ctxOf op h ps s)) (taken op h ps s) = (t, .done r .warm)) :
    hostCmd op h ps s = follow s.clap.long.length (warmBegin 3 (completeSilent (ctxOf op h ps s) t)) := by
  rw [hostCmd_admitted hA ho, hb]
  rfl

/-- The body of SET_PROFILE accepts the two Profiles (R7). -/
theorem opBody_setProfile {b : Byte} (hb : b.toNat ≤ 1) :
    opBody 0x005 (bodyCtx (ctxOf 0x005 h [b] s)) t = (t, .done ok (.profile (b == 1))) := by
  have hn : numAt [b] 0 1 = b.toNat := Nat.add_zero _
  have h1 : decide (b.toNat = 1) = (b == 1) := by
    rw [Bool.eq_iff_iff, decide_eq_true_iff, beq_iff_eq, ← BitVec.toNat_inj]; rfl
  simp [opBody, bodySetProfile, hn, Nat.not_lt.mpr hb, h1]

/-- Settles O15: each body only names what follows its answer, and conclude carries that out. -/
theorem systemModeCommandsFollowTheirReply : Obligations.SystemModeCommandsFollowTheirReply := by
  intro h b s
  refine ⟨fun hA => ?warm, fun hA => ?standby, fun hA hb => ?profile⟩
  case warm => exact congrArg Host.Outcome.next (hostCmd_warm (r := ok) hA (by decide) rfl)
  case standby =>
    exact congrArg Host.Outcome.next (hostCmd_after (r := ok) (p := .standby) hA (by decide) rfl (by decide) rfl)
  case profile =>
    exact congrArg Host.Outcome.next (hostCmd_after (p := .profile (b == 1)) hA (by decide) rfl (by simp) (opBody_setProfile hb))

end Sys2Proof
end

section
/-!
Runs of registers (R549, R584): what the two bodies come to once the parameters have their form.
-/
namespace Sys2Proof
open Sys2Proof.Machine
variable {h : CmdHdr} {ps : Bytes} {s t : State}

/-- Registers read in order: the state after the reads, and the bytes read. -/
def readRun (run : List Nat) (t : State) : State × Bytes :=
  run.foldl (fun (r : State × Bytes) x => ((readReg x r.1).1, r.2 ++ leOf 4 (readReg x r.1).2)) (t, [])

/-- The words of a REG_WRITE with their addresses. -/
def runWords (ps : Bytes) : List (Nat × Word) :=
  (List.range (numAt ps 4 1)).map (fun i => (numAt ps 0 4 + 4 * i, u32At ps (8 + 4 * i)))

/-- The parameters of a REG_READ of 1 to 64 registers. -/
structure ReadForm (ps : Bytes) : Prop where
  size : ps.length = 5
  pos : 1 ≤ numAt ps 4 1
  most : numAt ps 4 1 ≤ 64

/-- The parameters of a REG_WRITE of 1 to 64 registers. -/
structure WriteForm (ps : Bytes) : Prop where
  pos : 1 ≤ numAt ps 4 1
  most : numAt ps 4 1 ≤ 64
  size : ps.length = 8 + 4 * numAt ps 4 1
  resv : findIdx? (fun b => b ≠ 0) (sliceB ps 5 3) = none

/-- REG_READ with parameters of its form: the three refusals in their order, or the reads. -/
theorem bodyRegRead_form (hF : ReadForm ps) :
    bodyRegRead (bodyCtx (ctxOf 0x800 h ps s)) t =
      if numAt ps 0 4 % 4 ≠ 0 then no (refuse 0x11 0 (numAt ps 0 4)) t
      else
        match (regRun (numAt ps 0 4) (numAt ps 4 1)).find? (fun x => decide (0x100000 ≤ x)) with
        | some x => no (refuse 0x14 0 x) t
        | none =>
          match (regRun (numAt ps 0 4) (numAt ps 4 1)).find? (fun x => regUnreachable x t) with
          | some x => no (refuse 0x12 0 x) t
          | none =>
            didData (readRun (regRun (numAt ps 0 4) (numAt ps 4 1)) t).2
              (readRun (regRun (numAt ps 0 4) (numAt ps 4 1)) t).1.freeNext := by
  have hn : ¬ (numAt ps 4 1 < 1 ∨ 64 < numAt ps 4 1) := by have := hF.pos; have := hF.most; omega
  unfold bodyRegRead
  simp only [bctx_params, hF.size, hn, ne_eq, not_true_eq_false, if_false]
  rfl

/-- REG_WRITE with parameters of its form: the nine rules decide between a refusal and all the writes. -/
theorem bodyRegWrite_form (hF : WriteForm ps) :
    bodyRegWrite (bodyCtx (ctxOf 0x801 h ps s)) t =
      match regWriteBad (runWords ps) (slotOf 0x801 h ps s) t with
      | some (st, named, x) =>
        no (refuse st (if numAt ps 0 4 % 4 ≠ 0 then 0 else (x.map (fun y => 8 + (y - numAt ps 0 4))).getD 0) named) t
      | none => did ((runWords ps).foldl (fun s w => writeWord w.1 w.2 s) t) := by
  have hn : ¬ (numAt ps 4 1 < 1 ∨ 64 < numAt ps 4 1) := by have := hF.pos; have := hF.most; omega
  have hlen : ¬ ps.length < 8 := by have := hF.size; omega
  unfold bodyRegWrite
  simp only [bctx_params, bctx_slot, hF.resv, hn, hlen, if_false, not_not_intro hF.size]
  rfl

/-- An admitted REG_READ is answered as its body says. -/
theorem regRead_replied {r : Res} (hA : Admits 0x800 h ps s)
    (hb : bodyRegRead (bodyCtx (ctxOf 0x800 h ps s)) (taken 0x800 h ps s) = (t, .done r .none)) :
    exec (.regRead h ps) s = .next (replied 0x800 h ps s r t) :=
  next_replied hA (by decide) hb (.inl rfl)

/-- An admitted REG_WRITE is answered as its body says. -/
theorem regWrite_replied {r : Res} (hA : Admits 0x801 h ps s)
    (hb : bodyRegWrite (bodyCtx (ctxOf 0x801 h ps s)) (taken 0x801 h ps s) = (t, .done r .none)) :
    exec (.regWrite h ps) s = .next (replied 0x801 h ps s r t) :=
  next_replied hA (by decide) hb (.inl rfl)

/-- Settles O32: one case for each way in which the two bodies end. -/
theorem registerRunsAllOrNone : Obligations.RegisterRunsAllOrNone := by
  intro h ps s
  refine ⟨fun hA hsize hpos hmost => ?read, fun hA hpos hmost hsize hresv => ?write⟩
  case read =>
    have hbody := bodyRegRead_form (h := h) (s := s) (t := taken 0x800 h ps s) ⟨hsize, hpos, hmost⟩
    refine ⟨fun ha => regRead_replied hA ?misaligned, fun ha => ⟨fun x hx => regRead_replied hA ?outside, fun hin =>
      ⟨fun x hx => regRead_replied hA ?unreachable, fun hreach => regRead_replied hA ?reads⟩⟩⟩
    case misaligned => rw [hbody, if_pos ha]; rfl
    case outside => rw [hbody, if_neg (not_not_intro ha), show List.find? _ (regRun _ _) = some x from hx]; rfl
    case unreachable =>
      rw [hbody, if_neg (not_not_intro ha)]
      simp only [show List.find? _ (regRun _ _) = none from hin, show List.find? _ (regRun _ _) = some x from hx]; rfl
    case reads =>
      rw [hbody, if_neg (not_not_intro ha)]
      simp only [show List.find? _ (regRun _ _) = none from hin, show List.find? _ (regRun _ _) = none from hreach]; rfl
  case write =>
    have hbody := bodyRegWrite_form (h := h) (s := s) (t := taken 0x801 h ps s) ⟨hpos, hmost, hsize, hresv⟩
    refine ⟨fun hgood => regWrite_replied hA ?writes, fun st named x hbad => regWrite_replied hA ?refused⟩
    case writes => rw [hbody, show regWriteBad (runWords ps) _ _ = none from hgood]; rfl
    case refused => rw [hbody, show regWriteBad (runWords ps) _ _ = some (st, named, x) from hbad]; rfl

end Sys2Proof
end

section
/-!
Packets from the host (R109 to R125, R187 to R197): what the link layer makes of a packet within the rules of its class, and what the block
of each class does with it.
-/
namespace Sys2Proof
open Sys2Proof.Machine

/-! The link layer. -/

/-- Only the five classes that the host may send have lengths (R110). -/
theorem class_of_hostLenOk {cls n : Nat} (h : hostLenOk cls n = true) : cls = 1 ∨ cls = 3 ∨ cls = 4 ∨ cls = 5 ∨ cls = 6 := by
  unfold hostLenOk at h
  split at h
  case h_6 => exact absurd h Bool.false_ne_true
  all_goals simp

section
variable {cls : Nat} {raw pl : Bytes} {s : State}

/-- A packet within the rules of its class is decided by the credits of its pool alone: without them a breach of the link's rules is
counted and recorded (R123), with them it goes on to its block. -/
theorem linkRx_whole (hW : Whole cls raw pl s) :
    linkRx raw s =
      if (s.link.ownLimit.getD (poolOf cls) 0 - s.link.ownUsed.getD (poolOf cls) 0).toNat < creditsOf pl.length then
        (record bLINK 7 noUnit (linkViol cls s.link.expSeq.toNat (sendNak 4 (cvCheck 0 true s))), none)
      else (received cls pl s, some (cls, pl, replayBit raw, s.link.expSeq)) := by
  have hcls := class_of_hostLenOk hW.len
  have hlink : (cvCheck 0 true s).link = s.link := by simp
  have hallowed : (decide (cls = 0) || decide (9 ≤ cls) || decide (cls = 2) || decide (7 ≤ cls)) = false := by
    simp only [Bool.or_eq_false_iff, decide_eq_false_iff_not]
    omega
  have hflags0 : numAt (raw.take 8) 1 1 / 32 = 0 := Nat.div_eq_of_lt hW.flags
  unfold linkRx
  simp only [hW.active, hW.whole, hW.size, hW.body, hW.start, hW.head, hW.crc, hW.seq, hW.ofClass, hflags0, hW.resv, hW.len, hW.fields, hlink,
    hallowed, ne_eq, not_true_eq_false, if_false, decide_true, decide_false, beq_self_eq_true, Bool.and_self, Bool.not_true, Bool.or_self, Bool.false_eq_true]
  rfl

/-- A packet with its credits goes to its block as the link layer leaves the state (R115, R117, R122). -/
theorem linkRx_framed (hF : Framed cls raw pl s) : linkRx raw s = (received cls pl s, some (cls, pl, replayBit raw, s.link.expSeq)) := by
  rw [linkRx_whole hF.toWhole, if_neg (Nat.not_lt.mpr hF.credit)]

/-- Class 1 goes to the Clapper (R110). -/
theorem rxAny_cmd (hF : Framed 1 raw pl s) : rxAny raw s = rxCmd .envex (creditsOf pl.length) pl (received 1 pl s) := by
  unfold rxAny
  rw [linkRx_framed hF]
  rfl

/-- Class 3 goes to the Layer Store (R111). -/
theorem rxAny_wr (hF : Framed 3 raw pl s) : rxAny raw s = wrEvent pl s.link.expSeq (received 3 pl s) := by
  unfold rxAny
  rw [linkRx_framed hF]
  rfl

/-- Class 4 goes to the fences (R196). -/
theorem rxAny_fen (hF : Framed 4 raw pl s) : rxAny raw s = fenEvent pl s.link.expSeq (received 4 pl s) := by
  unfold rxAny
  rw [linkRx_framed hF]
  rfl

end

/-! The Clapper (R150). -/

section
variable {path : Path} {units : Nat} {b : Bytes} {s : State}

theorem rxCmd_good {p : CmdPkt} (hp : parseCmd (s.dialectL path) path b = some p) : rxCmd path units b s = arrive p units (cvInner path true s) := by
  unfold rxCmd
  rw [hp]

/-- CMD_CRC: the credits that the packet took return, and the event carries the path and the first bytes. -/
theorem rxCmd_bad (hp : parseCmd (s.dialectL path) path b = none) (hu : units ≠ 0) :
    rxCmd path units b s =
      let E := record bCLAP 0 noUnit (cvInner path false (returnCredits 0 units s))
      postEvent bCLAP ((E.flts bCLAP).sev 0) 8 ([BitVec.ofNat 8 (pathCode path), 0, 0, 0] ++ padTo 16 (b.take 16)) E := by
  unfold rxCmd
  rw [hp]
  simp only [if_neg hu]

end

/-- Every packet takes credits (R122). -/
theorem creditsOf_ne_zero (n : Nat) : creditsOf n ≠ 0 := by
  unfold creditsOf
  omega

/-! WR packets (R187, R189). -/

section
variable {pl : Bytes} {q : BitVec 16} {s : State}

theorem wrEvent_noAccess (hpd : s.pdIs 7 .on = false) : wrEvent pl q s = s := by
  unfold wrEvent
  simp [hpd]

theorem wrEvent_allowed (hpd : s.pdIs 7 .on = true) (hr : wrReason (numAt pl 0 4) (u16At pl 4) (pl.drop 8).length s = 0) :
    wrEvent pl q s =
      let W := disturbScan 0 (numAt pl 0 4) (pl.drop 8).length (writeStore (numAt pl 0 4 - storeBase) (pl.drop 8) s)
      snoopWrite (fld (u16At pl 4) 0 8) (numAt pl 0 4 - storeBase - (W.buf (fld (u16At pl 4) 0 8)).base) (pl.drop 8) W := by
  unfold wrEvent
  simp only [hpd, hr, Bool.not_true, Bool.false_eq_true, if_false]

theorem wrEvent_refused (hpd : s.pdIs 7 .on = true) (hr : wrReason (numAt pl 0 4) (u16At pl 4) (pl.drop 8).length s ≠ 0) :
    wrEvent pl q s = wrViol (wrReason (numAt pl 0 4) (u16At pl 4) (pl.drop 8).length s) (numAt pl 0 4) (u16At pl 4) q s := by
  unfold wrEvent
  simp only [hpd, Bool.not_true, Bool.false_eq_true, if_false]

end

/-! FEN packets (R196, R197). -/

section
variable {pl : Bytes} {q : BitVec 16} {s : State}

theorem fenEvent_armed (h : (s.fence (numAt pl 0 1 % 64)).st = .armed) : fenEvent pl q s = signalFence (numAt pl 0 1 % 64) s := by
  unfold fenEvent
  simp only [h]

theorem fenEvent_timedOut (h : (s.fence (numAt pl 0 1 % 64)).st = .timedOut) : fenEvent pl q s = setFence (numAt pl 0 1 % 64) fenceFree s := by
  unfold fenEvent
  simp only [h]

theorem fenEvent_violation (h : (s.fence (numAt pl 0 1 % 64)).st = .free ∨ (s.fence (numAt pl 0 1 % 64)).st = .signalled) :
    fenEvent pl q s = wrViol 5 0xFFFFFFFF (BitVec.ofNat 16 (numAt pl 0 1 % 64)) q s := by
  unfold fenEvent
  rcases h with h | h <;> simp only [h]

end

/-! The three rows. -/

theorem exec_cmdPacket (raw : Bytes) (s : State) : exec (.cmdPacket raw) s = .next (settle (rxAny raw s)) := rfl
theorem exec_wr (raw : Bytes) (s : State) : exec (.wr raw) s = .next (settle (rxAny raw s)) := rfl
theorem exec_fen (raw : Bytes) (s : State) : exec (.fen raw) s = .next (settle (rxAny raw s)) := rfl

/-- Settles O45: the link layer hands the packet on as `received` says, and its block takes one case for each outcome. -/
theorem packetsGoToTheirBlock : Obligations.PacketsGoToTheirBlock := by
  intro raw pl p s
  refine ⟨fun hF hp => ?command, fun hF hp => ?cmdCrc, fun hF => ⟨fun hpd => ?noAccess, fun hpd hr => ?written, fun hpd hr => ?refused⟩,
    fun hF => ⟨fun hst => ?armed, fun hst => ?timedOut, fun hst => ?violation⟩⟩
  case command => rw [exec_cmdPacket, rxAny_cmd hF, rxCmd_good hp]
  case cmdCrc => rw [exec_cmdPacket, rxAny_cmd hF, rxCmd_bad hp (creditsOf_ne_zero _)]; rfl
  case noAccess => rw [exec_wr, rxAny_wr hF, wrEvent_noAccess hpd]
  case written => rw [exec_wr, rxAny_wr hF, wrEvent_allowed hpd hr]
  case refused => rw [exec_wr, rxAny_wr hF, wrEvent_refused hpd hr]
  case armed => rw [exec_fen, rxAny_fen hF, fenEvent_armed hst]; rfl
  case timedOut => rw [exec_fen, rxAny_fen hF, fenEvent_timedOut hst]
  case violation => rw [exec_fen, rxAny_fen hF, fenEvent_violation hst]

end Sys2Proof
end

section
/-!
A beat boundary of Tabor 2 (R279, R280, R285).
-/
namespace Sys2Proof
open Sys2Proof.Machine

/-- A beat boundary before what a frame boundary does: the beat is counted, a scan that is due to stop stops, the VLED heads and
housekeeping are checked, the cuts requested open, and every Mallet begins its beat. -/
def beatBegun (heads : List (Option (BitVec 5))) (s : State) : State :=
  let A := (senseRoll s).onMal (fun m => { m with beat := m.beat + 1 })
  let B := if A.mal.stopDue then syncOwner (goDark A) else A
  beatStart (releaseRepair (openCuts (vledBeat heads (hkBeat B))))

/-- The three conditions of a frame boundary (R280). -/
theorem atFrame_iff (s : State) : s.atFrame = true ↔ s.sys.st.run = true ∧ s.pdIs 9 .on = true ∧ s.mal.beat % s.frameBeats = 0 := by
  simp [State.atFrame, and_assoc]

section
variable {heads : List (Option (BitVec 5))} {s : State}

theorem beatBoundaryEvent_stopped (hrun : (s.tabor 2).running = false) : beatBoundaryEvent heads s = s := by
  simp [beatBoundaryEvent, hrun]

theorem beatBoundaryEvent_running (hrun : (s.tabor 2).running = true) :
    beatBoundaryEvent heads s =
      digitalTakeover (senseBeat (if (beatBegun heads s).atFrame then frameBoundary (beatBegun heads s) else beatBegun heads s)) := by
  unfold beatBoundaryEvent
  rw [hrun]
  rfl

/-- The row: what the calibrations do with the beat follows the beat boundary. -/
theorem exec_beatBoundary : exec (.beatBoundary heads) s = .next (settle (calBeat s (beatBoundaryEvent heads s))) := rfl

theorem exec_beatBoundary_atFrame (hrun : (s.tabor 2).running = true) (hframe : (beatBegun heads s).atFrame = true) :
    exec (.beatBoundary heads) s = .next (settle (calBeat s (digitalTakeover (senseBeat (frameBoundary (beatBegun heads s)))))) := by
  rw [exec_beatBoundary, beatBoundaryEvent_running hrun, if_pos hframe]

theorem exec_beatBoundary_within (hrun : (s.tabor 2).running = true) (hframe : ¬ (beatBegun heads s).atFrame = true) :
    exec (.beatBoundary heads) s = .next (settle (calBeat s (digitalTakeover (senseBeat (beatBegun heads s))))) := by
  rw [exec_beatBoundary, beatBoundaryEvent_running hrun, if_neg hframe]

theorem exec_beatBoundary_stopped (hrun : (s.tabor 2).running = false) : exec (.beatBoundary heads) s = .next (settle (calBeat s s)) := by
  rw [exec_beatBoundary, beatBoundaryEvent_stopped hrun]

end

/-- Settles O51: a running Tabor 2 begins the beat, and whether a frame begins with it decides the rest. -/
theorem beatBoundary : Obligations.BeatBoundary := by
  intro heads s
  refine ⟨fun hrun => ⟨fun hst hpd hbeat => ?atFrame, fun hnot => ?within⟩, fun hrun => ?stopped⟩
  case atFrame => exact exec_beatBoundary_atFrame hrun ((atFrame_iff _).mpr ⟨hst, hpd, hbeat⟩)
  case within =>
    refine exec_beatBoundary_within hrun (fun hframe => ?_)
    obtain ⟨hst, hpd, hbeat⟩ := (atFrame_iff _).mp hframe
    rcases hnot with h | h | h
    · exact absurd (hst.symm.trans h) (by decide)
    · exact absurd (hpd.symm.trans h) (by decide)
    · exact h hbeat
  case stopped => exact exec_beatBoundary_stopped hrun

end Sys2Proof
end

section
/-!
Row writes (R36, R276, R283, R284, R302, R307): which slots are written, and what a write does by its timeliness and its parity.
-/
namespace Sys2Proof
open Sys2Proof.Machine

/-- Mallet m has come to slot n. -/
def atSlot (n : Nat) (s : State) : State := s.onMal (fun x => { x with slot := n })

/-- Mallet m begins the write of slot n: the next slot is the one it expects. -/
def writeBegun (m n : Nat) (s : State) : State :=
  onMallet m (fun x => { x with nextSlot := slotAfter n, inOrder := x.inOrder && decide (x.nextSlot = n) }) s

/-- A row read from the bank on show for Mallet m: corrected errors counted, an uncorrectable one recorded (R276). -/
def rowRead (m y : Nat) (o : RowObs) (s : State) : State :=
  let C := eccCorrected o.ce bPIX 0 0x80078 s
  if (o.ueGroups.map (·.val)).isEmpty then C else bankUnread (record bPIX 1 ((atUnitVal m y).inj false) C)

/-- Row y, plane k, is loaded into its latches in slot n, and the write is counted (R284). -/
def rowLoaded (m seg y k n : Nat) (o : RowObs) (s : State) : State :=
  let D := if k = 9 then s.onMal (fun x => { x with dark := x.dark.filter (· != y) }) else s
  onMallet m (fun x => { x with writes := x.writes + 1 })
    (putLatch seg y n (D.rowData y k (groupMask (o.ueGroups.map (·.val))) (D.mal.dark.contains y)) o.parityOk D)

/-- ROW_WRITE answers what the row write of its slot leaves, settled. -/
theorem exec_rowWrite {m : Fin 9} {slot : BitVec 10} {o : RowObs} {s t : State} (h : rowWriteEvent m slot.toNat o s = t) :
    exec (.rowWrite m slot o) s = .next (settle t) :=
  congrArg (fun t => Host.Outcome.next (settle t)) h

section
variable {m seg n e : Nat} {o : RowObs} {s : State}

/-! Which slots are written. -/

theorem rowWriteEvent_nothing (h : s.segOf m = none ∨ s.mal.scanning = false ∨ planeSlot n = false) : rowWriteEvent m n o s = s := by
  unfold rowWriteEvent
  split
  · rfl
  case h_2 hseg =>
    have hskip : (!s.mal.scanning || !planeSlot n) = true := by
      rcases h with h | h | h
      · exact absurd (hseg.symm.trans h) (Option.some_ne_none _)
      all_goals simp [h]
    rw [if_pos hskip]

/-- In a plane slot of a scanned segment the Score and the Mallet decide whether the row is written. -/
theorem rowWriteEvent_plane (hseg : s.segOf m = some seg) (hscan : s.mal.scanning = true) (hslot : planeSlot n = true) :
    rowWriteEvent m n o s =
      if o.scoreUe then detect seg 4 false false (atSlot n s)
      else if !o.wrote || (atSlot n s).hasStim bMALLET 2 m then atSlot n s
      else writeRow m seg n ((atSlot n s).scoreAt (seg * 1024 + n)) o (atSlot n s) := by
  unfold rowWriteEvent
  rw [hseg]
  simp only [hscan, hslot, Bool.not_true, Bool.or_self, Bool.false_eq_true, if_false]
  rfl

/-- The Score cannot be read: the segment is taken over (R303). -/
theorem rowWriteEvent_scoreUe (hseg : s.segOf m = some seg) (hscan : s.mal.scanning = true) (hslot : planeSlot n = true)
    (hscore : o.scoreUe = true) : rowWriteEvent m n o s = detect seg 4 false false (atSlot n s) := by
  rw [rowWriteEvent_plane hseg hscan hslot, if_pos hscore]

/-- A Mallet that does not write, or that a stimulus holds back, only moves the slot. -/
theorem rowWriteEvent_idle (hseg : s.segOf m = some seg) (hscan : s.mal.scanning = true) (hslot : planeSlot n = true)
    (hscore : o.scoreUe = false) (hidle : o.wrote = false ∨ (atSlot n s).hasStim bMALLET 2 m = true) : rowWriteEvent m n o s = atSlot n s := by
  have hskip : (!o.wrote || (atSlot n s).hasStim bMALLET 2 m) = true := by rcases hidle with h | h <;> simp [h]
  rw [rowWriteEvent_plane hseg hscan hslot, hscore, if_neg Bool.false_ne_true, if_pos hskip]

theorem rowWriteEvent_writes (hseg : s.segOf m = some seg) (hscan : s.mal.scanning = true) (hslot : planeSlot n = true)
    (hscore : o.scoreUe = false) (hwrote : o.wrote = true) (hstim : (atSlot n s).hasStim bMALLET 2 m = false) :
    rowWriteEvent m n o s = writeRow m seg n ((atSlot n s).scoreAt (seg * 1024 + n)) o (atSlot n s) := by
  have hgo : ¬ (!o.wrote || (atSlot n s).hasStim bMALLET 2 m) = true := by simp [hwrote, hstim]
  rw [rowWriteEvent_plane hseg hscan hslot, hscore, if_neg Bool.false_ne_true, if_neg hgo]

/-! What a write does. -/

theorem writeRow_late (ht : o.inTime = false) : writeRow m seg n e o s = deadlineMiss m seg (96 * seg + scRow e) (scPlane e) (writeBegun m n s) := by
  unfold writeRow
  rw [ht]
  rfl

/-- A write in time of a row that no stimulus disturbs: the row is read, loaded and compared, and then its parity counts (R302, R307). -/
theorem writeRow_inTime (ht : o.inTime = true) (hstim : (writeBegun m n s).hasStim bPIX 1 (96 * seg + scRow e) = false) :
    writeRow m seg n e o s =
      let P := shadowCheck seg (o.shadowDone && (o.shadowOk || !o.parityOk))
        (rowLoaded m seg (96 * seg + scRow e) (scPlane e) n o (rowRead m (96 * seg + scRow e) o (writeBegun m n s)))
      if o.parityOk then P else parityFault m seg P := by
  unfold writeBegun at hstim
  unfold writeRow
  simp only [ht, hstim, Bool.not_true, Bool.false_eq_true, if_false, List.append_nil]
  rfl

theorem writeRow_parityOk (ht : o.inTime = true) (hstim : (writeBegun m n s).hasStim bPIX 1 (96 * seg + scRow e) = false) (hp : o.parityOk = true) :
    writeRow m seg n e o s = shadowCheck seg (o.shadowDone && o.shadowOk)
      (rowLoaded m seg (96 * seg + scRow e) (scPlane e) n o (rowRead m (96 * seg + scRow e) o (writeBegun m n s))) := by
  rw [writeRow_inTime ht hstim, hp, Bool.not_true, Bool.or_false]
  rfl

/-- Where the Mallet's own parity fails, Mallet 8 is held only to the completion of its read (R307). -/
theorem writeRow_parityBad (ht : o.inTime = true) (hstim : (writeBegun m n s).hasStim bPIX 1 (96 * seg + scRow e) = false) (hp : o.parityOk = false) :
    writeRow m seg n e o s = parityFault m seg (shadowCheck seg o.shadowDone
      (rowLoaded m seg (96 * seg + scRow e) (scPlane e) n o (rowRead m (96 * seg + scRow e) o (writeBegun m n s)))) := by
  rw [writeRow_inTime ht hstim, hp, Bool.not_false, Bool.or_true, Bool.and_true]
  rfl

end

/-- Settles O52: the slot decides whether anything is written, the Score and the Mallet whether this row is, its timeliness and its parity
what the write does. -/
theorem rowWrites : Obligations.RowWrites := by
  intro m slot seg o s
  refine ⟨fun hnone => ?nothing, fun hseg hscan hslot => ⟨fun hscore => ?score, fun hscore hidle => ?idle,
    fun hscore hwrote hstim hlate => ?late, fun hscore hwrote hstim htime hrow => ⟨fun hparity => ?parityOk, fun hparity => ?parityBad⟩⟩⟩
  case nothing => exact exec_rowWrite (rowWriteEvent_nothing hnone)
  case score => exact exec_rowWrite (rowWriteEvent_scoreUe hseg hscan hslot hscore)
  case idle => exact exec_rowWrite (rowWriteEvent_idle hseg hscan hslot hscore hidle)
  case late => exact exec_rowWrite ((rowWriteEvent_writes hseg hscan hslot hscore hwrote hstim).trans (writeRow_late hlate))
  case parityOk => exact exec_rowWrite ((rowWriteEvent_writes hseg hscan hslot hscore hwrote hstim).trans (writeRow_parityOk htime hrow hparity))
  case parityBad => exact exec_rowWrite ((rowWriteEvent_writes hseg hscan hslot hscore hwrote hstim).trans (writeRow_parityBad htime hrow hparity))

end Sys2Proof
end

section
/-!
The state after reset, and anti-rollback (R82, R84, R540).
-/
namespace Sys2Proof
open Sys2Proof.Machine

/-- What every step keeps holds after reset. -/
theorem sound_reset : Sound State.reset where
  store := rfl
  images := rfl
  commits := Nat.zero_le 4
  slots := rfl
  bufs := List.length_replicate
  fences := List.length_replicate

/-- No fault is recorded after reset. -/
theorem flts_reset {b : Nat} (hb : b < 16) :
    (State.reset.flts b).stat = 0 ∧ (State.reset.flts b).first = none ∧ (State.reset.flts b).queue = [] := by
  have hflt : State.reset.flts b = fltReset b := by simp [State.flts, State.reset, hb]
  rw [hflt]
  exact ⟨rfl, rfl, rfl⟩

/-- After reset only Tabor 3 runs (R457). -/
theorem tabor_reset_running {n : Nat} (hn : n < 4) : (State.reset.tabor n).running = decide (n = 3) := by
  have htabor : State.reset.tabor n = taborReset n := by simp [State.tabor, State.reset, taborBlkReset, hn]
  rw [htabor]
  rfl

/-- Settles O3: the reset state is a record of values, and its lists of blocks and Tabors are given entry by entry. -/
theorem resetState : Obligations.ResetState :=
  ⟨sound_reset, rfl, rfl, rfl, rfl, rfl, rfl, fun _ => rfl, rfl, rfl, fun _ hb => flts_reset hb, rfl, rfl, rfl, rfl,
    fun _ hn => tabor_reset_running hn⟩

theorem step_idle {s : State} (h : s.pending = []) : step s = .next (tick s) := by rw [step, h]

theorem step_front {s : State} {c : Instr} {rest : List Instr} (h : s.pending = c :: rest) : step s = exec c { s with pending := rest } := by
  rw [step, h]

/-- No step takes anti-rollback back: an idle step leaves the keys alone, and every command keeps what it has reached (R540). -/
theorem step_keeps_antiRollback {s t : State} (h : step s = .next t) :
    s.sec.minSvn.toNat ≤ t.sec.minSvn.toNat ∧ (s.sec.revoked = true → t.sec.revoked = true) := by
  cases hp : s.pending with
  | nil =>
    have hk : Keeps s t := Host.Outcome.next.inj ((step_idle hp).symm.trans h) ▸ Keeps.of_core (tick_core s) Keeps.rfl'
    exact ⟨hk.svn, hk.revoked⟩
  | cons c rest =>
    have hk := exec_keeps c { s with pending := rest } t ((step_front hp).symm.trans h)
    exact ⟨hk.svn, hk.revoked⟩

/-- The first READY after a cold boot takes the svn and the revocation of the image that runs (R540). -/
theorem firstReady_sec {v : Word} {s : State} (hfirst : s.sys.readySeen = false) (himg : s.sys.fwImage.toNat < 2) :
    (firstReady v s).sec = { s.sec with
      minSvn := if s.sec.minSvn.toNat < (imgSvn s s.sys.fwImage.toNat).toNat then imgSvn s s.sys.fwImage.toNat else s.sec.minSvn
      revoked := s.sec.revoked || imgRevokes s s.sys.fwImage.toNat } := by
  unfold firstReady
  rw [hfirst, if_neg Bool.false_ne_true, if_pos himg]
  rfl

/-- Settles O5: the keeping of anti-rollback by every step, and the larger of two svns at the first READY. -/
theorem antiRollbackNeverGoesBack : Obligations.AntiRollbackNeverGoesBack := by
  refine ⟨fun s t h => step_keeps_antiRollback h, fun v s hfirst himg => ?_⟩
  rw [firstReady_sec hfirst himg]
  refine ⟨?_, rfl⟩
  dsimp only
  split
  case isTrue hlt => exact (Nat.max_eq_right (Nat.le_of_lt hlt)).symm
  case isFalse hge => exact (Nat.max_eq_left (Nat.le_of_not_lt hge)).symm

end Sys2Proof
end

section
/-!
Entry to GONG (R55, R58, R82, R300): the three cases of a trigger, and the light that the entry leaves.
-/
namespace Sys2Proof
open Sys2Proof.Machine
variable {cause : Nat} {s : State}

theorem enterGong_enters (h : s.sys.st.toGong = true) :
    enterGong cause s = enterState .gong ((gongLight cause s).onSys (fun y => { y with gongFromBoot := false })) := by
  rw [enterGong, if_pos h]

/-- Outside the states that a trigger leaves, and in GONG without a command that changes the light, a trigger does nothing. -/
theorem enterGong_nothing (h : s.sys.st.toGong = false) (hl : s.sys.st = .gong → s.clap.long.any (fun l => l.kind.isLight) = false) :
    enterGong cause s = s := by
  have hlight : ¬(s.sys.st = .gong ∧ s.clap.long.any (fun l => l.kind.isLight) = true) := fun ⟨hg, ht⟩ =>
    Bool.false_ne_true ((hl hg).symm.trans ht)
  rw [enterGong, h, if_neg Bool.false_ne_true, if_neg hlight]

theorem gongLight_sys : (gongLight cause s).sys = { s.sys with gongCause := BitVec.ofNat 4 cause } := by simp [gongLight]

theorem gongLight_mal : (gongLight cause s).mal = { s.mal with
    gongSegs := if s.sys.gongCapable then 0xFF else 0, scanning := false, stopDue := false, frozen := false, firstFrame := false, repair := [] } := by
  simp [gongLight]

theorem gongLight_carl : (gongLight cause s).carl = { s.carl with job := none, lastJob := none } := by simp [gongLight]

/-- SYS after the entry: the state left, the cause, and the TAP in its reset state (R58, R82, R581). -/
theorem enterGong_sys (h : s.sys.st.toGong = true) : (enterGong cause s).sys =
    { s.sys with st := .gong, prev := s.sys.st, gongCause := BitVec.ofNat 4 cause, gongFromBoot := false, tap := .reset } := by
  rw [enterGong_enters h, enterState_sys, State.onSys_sys, gongLight_sys]
  rfl

/-- Settles O11: a trigger enters GONG out of the states that it leaves, and does nothing elsewhere. -/
theorem entryToGong : Obligations.EntryToGong := by
  intro cause s
  refine ⟨fun hst hc => ?enters, fun hst => ?elsewhere, fun hst hl => ?inGong⟩
  case enters =>
    have h : s.sys.st.toGong = true := by rcases hst with h | h | h | h | h <;> rw [h] <;> rfl
    have hmal : (enterGong cause s).mal = (gongLight cause s).mal := by simp [enterGong_enters h]
    have hcarl : (enterGong cause s).carl = (gongLight cause s).carl := by simp [enterGong_enters h]
    dsimp only
    rw [enterGong_sys h, hmal, hcarl, gongLight_mal, gongLight_carl]
    exact ⟨rfl, rfl, BitVec.toNat_ofNat cause 4 ▸ Nat.mod_eq_of_lt hc, rfl, rfl, rfl, rfl, rfl⟩
  case elsewhere =>
    have hno : s.sys.st.toGong = false ∧ s.sys.st ≠ .gong := by rcases hst with h | h | h <;> rw [h] <;> decide
    exact enterGong_nothing hno.1 (fun hg => absurd hg hno.2)
  case inGong => exact enterGong_nothing (by rw [hst]; rfl) (fun _ => hl)

end Sys2Proof
end

section
/-!
The commands of the light that are answered at once, held, or become long commands (R57, R58, R74, R169, R294, R296).
-/
namespace Sys2Proof
open Sys2Proof.Machine
variable {op : Nat} {h : CmdHdr} {ps : Bytes} {b : Byte} {s t : State} {k : LongKind}

/-- An admitted packet whose body is held at step 11 (R155). -/
theorem hostCmd_held (hA : Admits op h ps s) (ho : op < 65536)
    (hb : opBody op (bodyCtx (ctxOf op h ps s)) (taken op h ps s) = (t, .held k)) :
    hostCmd op h ps s = follow s.clap.long.length (t.onClap (fun c => { c with held := some ⟨ctxOf op h ps s, k⟩ })) := by
  rw [hostCmd_admitted hA ho, hb]
  rfl

/-! Acceptance changes nothing that the bodies ask for. -/

theorem taken_sys : (taken op h ps s).sys = s.sys := by simp
theorem taken_mal : (taken op h ps s).mal = s.mal := by simp
theorem taken_causes : (taken op h ps s).safe.causes = s.safe.causes := by simp

theorem taken_criticalSet : (taken op h ps s).criticalSet = s.criticalSet := by simp [State.criticalSet]

theorem taken_lightForbidden : (taken op h ps s).lightForbidden = s.lightForbidden := by
  simp [State.lightForbidden, State.server]

theorem taken_lightPowered : (taken op h ps s).lightPowered = s.lightPowered := by
  simp [State.lightPowered, State.pdIs]

/-! LIGHT_OFF (R57, R169). -/

/-- LIGHT_OFF enters READY, drops the frame in work, and asks for darkness at the next beat boundary where light is scanned. -/
def lightLeft (lit : Bool) (t : State) : State :=
  enterState .ready (((t.onSys (fun y => { y with pdWant := (y.pdWant.set 6 .on).set 7 .on })).onMal
    (fun m => { m with stopDue := lit })).onCarl (fun c => { c with job := none }))

theorem lightLeft_fields (lit : Bool) (t : State) :
    (lightLeft lit t).sys.st = .ready ∧ (lightLeft lit t).sys.prev = t.sys.st ∧ (lightLeft lit t).mal.stopDue = lit ∧
    (lightLeft lit t).carl.job = none := by
  simp [lightLeft]

theorem opBody_lightOff_held (hst : t.sys.st ≠ .service) (hscan : t.mal.scanning = true) :
    opBody 0x101 (bodyCtx (ctxOf 0x101 h [] s)) t = (lightLeft t.mal.scanning t, .held .lightOff) := by
  simp [opBody, bodyLightOff, lightLeft, hst, hscan]

theorem opBody_lightOff_done (hdark : t.sys.st = .service ∨ t.mal.scanning = false) :
    opBody 0x101 (bodyCtx (ctxOf 0x101 h [] s)) t = (lightLeft t.mal.scanning t, .done ok .none) := by
  have hnow : (decide (t.sys.st = .service) || !t.mal.scanning) = true := by simpa using hdark
  simp only [opBody, bodyLightOff, bctx_params, List.length_nil, ne_eq, not_true_eq_false, if_false, hnow]
  rfl

/-- Settles O17: LIGHT_OFF is held where light is scanned outside SERVICE, and the STILL commands become long ones. -/
theorem lightOffAndStill : Obligations.LightOffAndStill := by
  intro h s
  refine ⟨fun hA => ?lightOff, fun hA => ?stillEnter, fun hA => ?stillExit⟩
  case lightOff =>
    obtain ⟨hst, hprev, hstop, hjob⟩ := lightLeft_fields s.mal.scanning (taken 0x101 h [] s)
    have hlit : (taken 0x101 h [] s).mal.scanning = s.mal.scanning := congrArg Mal.scanning taken_mal
    have hsys : (taken 0x101 h [] s).sys.st = s.sys.st := congrArg Sys.st taken_sys
    refine ⟨hst, hprev.trans hsys, hstop, hjob, fun hns hscan => ?held, fun hdark => ?done⟩
    case held => exact congrArg Host.Outcome.next (hostCmd_held hA (by decide) (hlit ▸ opBody_lightOff_held (hsys ▸ hns) (hlit ▸ hscan)))
    case done => exact next_replied hA (by decide) (hlit ▸ opBody_lightOff_done (by rwa [hsys, hlit])) (Or.inl rfl)
  case stillEnter =>
    exact next_started hA (by decide) (by simp [opBody, bodyStillEnter]) (by simp)
  case stillExit =>
    exact next_started hA (by decide) (by simp [opBody, bodyStillExit, startStillExit]) (by simp)

/-! GONG_ENTER and GONG_EXIT (R58, R74, R169). -/

theorem opBody_gongEnter : opBody 0x104 (bodyCtx (ctxOf 0x104 h [] s)) t = (enterGong 6 t, .done ok .none) := by
  simp [opBody, bodyGongEnter, did]

/-- What lets GONG_EXIT pass to its target: LIMP_N high, no CRITICAL source, and no cause left after a DEGRADE_LIMIT. -/
structure MayLeaveGong (t : State) : Prop where
  limp : t.sys.limpN = true
  noCritical : t.criticalSet = false
  noCause : ¬(t.sys.gongCause = 4 ∧ t.safe.causes ≠ 0)

theorem MayLeaveGong.of_taken (hM : MayLeaveGong s) : MayLeaveGong (taken op h ps s) where
  limp := by rw [taken_sys]; exact hM.limp
  noCritical := taken_criticalSet.trans hM.noCritical
  noCause := by rw [taken_sys, taken_causes]; exact hM.noCause

theorem MayLeaveGong.passes (hM : MayLeaveGong t) : ¬(t.sys.limpN = false ∨ t.criticalSet = true) := by
  simp [hM.limp, hM.noCritical]

theorem opBody_gongExit_ready (hM : MayLeaveGong t) (hp : t.lightPowered = true) :
    opBody 0x105 (bodyCtx (ctxOf 0x105 h [0] s)) t = (toReady (t.onMal (fun m => { m with stopDue := true })), .done ok .none) := by
  unfold opBody bodyGongExit
  simp only [bctx_params, hM.passes, hM.noCause, hp, if_false]
  rfl

theorem opBody_gongExit_lit (hM : MayLeaveGong t) (hl : t.lightForbidden = false) (hp : t.lightPowered = true) :
    opBody 0x105 (bodyCtx (ctxOf 0x105 h [1] s)) t = (startFrame true t.exitCaps 0 (freshLight t), .later (.gongExit true)) := by
  unfold opBody bodyGongExit gongExitGo
  simp only [bctx_params, hM.passes, hM.noCause, hl, hp, Bool.false_eq_true, and_false, if_false]
  rfl

/-- Where a domain of the light is not on, GONG_EXIT first commands the domains on. -/
theorem opBody_gongExit_powers (hM : MayLeaveGong t) (hb : b = 0 ∨ (b = 1 ∧ t.lightForbidden = false)) (hp : t.lightPowered = false) :
    opBody 0x105 (bodyCtx (ctxOf 0x105 h [b] s)) t =
      (t.onSys (fun y => { y with pdWant := (((y.pdWant.set 6 .on).set 7 .on).set 8 .on).set 9 .on }), .later (.gongExit (b == 1))) := by
  unfold opBody bodyGongExit
  simp only [bctx_params, hM.passes, hM.noCause, hp, if_false]
  rcases hb with rfl | ⟨rfl, hl⟩
  · rfl
  · simp only [hl, Bool.false_eq_true, and_false, if_false]
    rfl

/-- Settles O18: GONG_ENTER is answered after the entry, and GONG_EXIT goes by its target and by the domains of the light. -/
theorem gongCommands : Obligations.GongCommands := by
  intro h b s
  refine ⟨fun hA => ?gongEnter, fun hA hlimp hcrit hcause => ?gongExit⟩
  case gongEnter => exact next_replied hA (by decide) opBody_gongEnter (Or.inl rfl)
  case gongExit =>
    have hM : MayLeaveGong (taken 0x105 h [b] s) := MayLeaveGong.of_taken ⟨hlimp, hcrit, hcause⟩
    refine ⟨fun hb hp => ?ready, fun hb hl hp => ?lit, fun hb hp => ?powers⟩
    case ready =>
      subst hb
      exact next_repliedLong hA (by decide) (opBody_gongExit_ready hM (taken_lightPowered.trans hp)) rfl (by decide)
    case lit =>
      subst hb
      exact next_started hA (by decide) (opBody_gongExit_lit hM (taken_lightForbidden.trans hl) (taken_lightPowered.trans hp)) (by simp)
    case powers =>
      refine next_started hA (by decide) (opBody_gongExit_powers hM ?_ (taken_lightPowered.trans hp)) (by simp)
      exact hb.imp_right (fun hl => ⟨hl.1, taken_lightForbidden.trans hl.2⟩)

end Sys2Proof
end

section
/-!
FW_ACTIVATE (R542): the answer of an admitted packet in a calm state, and the cold reset that follows where one is due.
-/
namespace Sys2Proof
open Sys2Proof.Machine
variable {h : CmdHdr} {ps : Bytes} {b : Byte} {o : BootObs} {s t : State}

/-- Nothing waits in the queue or in the units; a cold reset may be due. -/
structure Quiet (s : State) : Prop where
  idle : s.clap.queue = []
  noLong : s.clap.long = []
  noScan : s.cv.scan = none
  noFree : ∀ b ∈ s.store.bufs, b.pendFree = false

theorem Quiet.of_calm (hC : Calm s) : Quiet s := ⟨hC.idle, hC.noLong, hC.noScan, hC.noFree⟩

/-- Where nothing waits, settling leaves the state as it is, but for a cold reset that is due. -/
theorem settleNow_quiet (hQ : Quiet s) : settleNow s = s := by
  have hpoll : calPoll s = s := by
    unfold calPoll
    rw [hQ.noLong]
    split <;> rfl
  have htell : tellScan s = s := by
    unfold tellScan
    rw [hQ.noScan]
  rw [settleNow, drain_idle hQ.idle, sweepBufs_same hQ.noFree, hpoll, htell]

/-- An admitted FW_ACTIVATE whose answer leaves nothing to wait: its body, its answer, and the cold reset where one is due. -/
theorem hostActivate_quiet {t u : State} {r : Res} {p : Post} (hA : Admits 0x903 h ps s)
    (hb : opBody 0x903 (bodyCtx (ctxOf 0x903 h ps s)) (taken 0x903 h ps s) = (u, .done r p)) (hp : p ≠ .warm)
    (ht : afterReply p (finish (ctxOf 0x903 h ps s) r u) = t) (hQ : Quiet t) :
    hostActivate h ps o s = if t.sys.coldDue then activateReset o t else t := by
  have hrun : process (pktOf 0x903 h ps s) s = t := by
    rw [hA.process (by decide), run7, hA.step79, ctx_op (by decide), hb, ← ht]
    exact conclude_done (by decide) rfl hp
  have hdrain : drain (arrive (pktOf 0x903 h ps s) 0 s) = t := by
    rw [drain_arrive hA.toTakes, if_pos rfl, hrun, iter_drainOne_idle _ hQ.idle]
  have hnow : settleNow (arrive (pktOf 0x903 h ps s) 0 s) = t := by
    rw [← settleNow_quiet hQ, settleNow, hdrain, settleNow, drain_idle hQ.idle]
  rw [hostActivate, if_pos hA.hears, settleWith, hnow]

/-- The image may be activated: it runs, or it is staged and verified (R542). -/
def activatable (n : Nat) (t : State) : Prop := n = t.sys.fwImage.toNat ∨ (n = t.stageRegion ∧ t.sec.stage = 3)

theorem opBody_fwActivate_good (hb : b.toNat ≤ 1) (hg : activatable b.toNat t) :
    opBody 0x903 (bodyCtx (ctxOf 0x903 h [b] s)) t = (activateImage b.toNat t, .done ok .cold) := by
  have hn : numAt [b] 0 1 = b.toNat := numAt_one [b] 0
  unfold opBody bodyFwActivate
  simp only [bctx_params, hn, Nat.not_lt.mpr hb, if_false]
  exact if_pos hg

theorem opBody_fwActivate_bad (hb : b.toNat ≤ 1) (hg : ¬activatable b.toNat t) :
    opBody 0x903 (bodyCtx (ctxOf 0x903 h [b] s)) t = (t, .done (refuse 0x11 0 (b.toNat * 0x100000)) .none) := by
  have hn : numAt [b] 0 1 = b.toNat := numAt_one [b] 0
  unfold opBody bodyFwActivate
  simp only [bctx_params, hn, Nat.not_lt.mpr hb, if_false]
  exact if_neg hg

theorem taken_activatable (n : Nat) {op : Nat} :
    activatable n (taken op h ps s) ↔ n = s.sys.fwImage.toNat ∨ (n = s.stageRegion ∧ (taken op h ps s).sec.stage = 3) := by
  simp [activatable, State.stageRegion]

/-- Naming an image active leaves a calm state calm. -/
theorem activateImage_calm (n : Nat) (hC : Calm t) : Calm (activateImage n t) where
  idle := hC.idle
  running := hC.running
  free := hC.free
  noCold := hC.noCold
  noLong := hC.noLong
  noScan := hC.noScan
  noFree := hC.noFree

/-- Settles O35: the answer leaves the state calm but for the cold reset that an activation asks for. -/
theorem fwActivateBootsCold : Obligations.FwActivateBootsCold := by
  intro h b o s hA hC hb
  have hT : Calm (taken 0x903 h [b] s) := taken_calm 0x903 h [b] hC
  refine ⟨fun hg => ?good, ⟨rfl, ?staged⟩, fun hg => ?bad⟩
  case good =>
    have hbody := opBody_fwActivate_good (h := h) (s := s) hb ((taken_activatable _).mpr hg)
    have hcalm := finish_calm (ctxOf 0x903 h [b] s) (r := ok) (by decide) (activateImage_calm b.toNat hT)
    have hquiet : Quiet ((finish (ctxOf 0x903 h [b] s) ok (activateImage b.toNat (taken 0x903 h [b] s))).onSys (fun y => { y with coldDue := true })) :=
      ⟨hcalm.idle, hcalm.noLong, hcalm.noScan, hcalm.noFree⟩
    exact congrArg Host.Outcome.next ((hostActivate_quiet hA hbody (by decide) rfl hquiet).trans (if_pos rfl))
  case staged =>
    have hlt : b.toNat < 2 := Nat.lt_succ_of_le hb
    simp [activateImage, hlt]
  case bad =>
    have hbody := opBody_fwActivate_bad (h := h) (s := s) hb (fun hg' => hg ((taken_activatable _).mp hg'))
    have hcalm := finish_calm (ctxOf 0x903 h [b] s) (r := refuse 0x11 0 (b.toNat * 0x100000)) (show 0x11 ≠ 0x14 by decide) hT
    refine congrArg Host.Outcome.next ((hostActivate_quiet hA hbody (by decide) rfl (Quiet.of_calm hcalm)).trans (if_neg ?_))
    exact fun hcold => Bool.false_ne_true (hcalm.noCold.symm.trans hcold)

end Sys2Proof
end

section
/-!
Register rows that apply what is armed, or store a configuration (R71, R312, R348, R439, R499, R584).
-/
namespace Sys2Proof
open Sys2Proof.Machine
variable {a n : Nat} {h : CmdHdr} {v : Word} {s t : State}

/-- A register-write row whose word leaves t. -/
theorem next_wrote (ha : a < 2 ^ 32) (hW : Writes a h v s) (ht : writeWord a v (writing a h v s) = t) :
    (Host.Outcome.next (hostReg a v h s) : Host.Outcome State Machine.Fault Machine.Refusal) = .next (wrote a h v s t) :=
  congrArg Host.Outcome.next ((hostReg_wrote ha hW).trans (congrArg _ ht))

/-- Rule 9 of R584 holds for the word of an accepted write. -/
theorem Writes.range (hW : Writes a h v s) : regRange a v (writing a h v s) (placeWord a v (writing a h v s)) = none := by
  have hrules := hW.rules
  unfold regWriteBad at hrules
  dsimp only at hrules
  iterate 8
    split at hrules
    · exact absurd hrules (Option.some_ne_none _)
  simpa using hrules

/-! What the words do. -/

theorem isFlt_false (ha : a % 0x10000 < 0xFF00) : isFlt a = false := decide_eq_false (Nat.not_le.mpr ha)

/-- A cut word of a segment (R312). -/
theorem writeWord_cut (hlo : 0x90400 ≤ a) (hhi : a < 0x90A00) :
    writeWord a v s = removeCuts ((a - 0x90400) / 0xC0) ((a - 0x90400) % 0xC0 / 4) v (placeWord a v s) := by
  unfold writeWord
  rw [isFlt_false (by omega), if_neg Bool.false_ne_true]
  dsimp only
  split
  case h_17 => rw [if_neg (by omega), if_neg (by omega), if_neg (by omega), if_pos ⟨hlo, hhi⟩]
  all_goals omega

/-- TABORn_CTRL of the Tabors 0 to 2 (R439). -/
theorem writeWord_taborCtrl (hn : n < 3) :
    writeWord (0x50028 + 0x40 * n) v s =
      if v.getLsbD 0 then taborApply n (placeWord (0x50028 + 0x40 * n) v s) else placeWord (0x50028 + 0x40 * n) v s := by
  have ha : (0x50028 + 0x40 * n - 0x50000) / 0x40 = n := by omega
  unfold writeWord
  rw [isFlt_false (by omega), if_neg Bool.false_ne_true]
  dsimp only
  split
  case h_17 => rw [if_pos (by omega), ha]
  all_goals omega

theorem writeWord_hkCtrl : writeWord 0xB0000 v s = hkCtrl v (placeWord 0xB0000 v s) := rfl

theorem writeWord_bootCfg : writeWord 0x24 v s = storeReg 0x24 v (placeWord 0x24 v s) := rfl

/-- PWR_CTRL has no field that stays (R505). -/
theorem writeWord_pwrCtrl : writeWord 0xC0020 v s = pwrCtrl v s := rfl

theorem pwrCtrl_vled : pwrCtrl 1 s = applyVled s := rfl
theorem pwrCtrl_vcore : pwrCtrl 2 s = applyVcore s := rfl

/-- A word of HK_CTRL that rule 9 passes names a staging copy that passes its checks. -/
theorem hkApply_passes (hW : Writes 0xB0000 h v s) (happly : v.getLsbD 5 = true) :
    (hkApply v (placeWord 0xB0000 v (writing 0xB0000 h v s))).isNone = false := by
  have hrange : plainRange 0xB0000 v (placeWord 0xB0000 v (writing 0xB0000 h v s)) = false := by
    refine Bool.eq_false_iff.mpr (fun hbad => ?_)
    exact Option.some_ne_none _ ((if_pos hbad).symm.trans hW.range)
  have hor : (outside 1 16 (fld v 0 5) || (v.getLsbD 5 && (hkApply v (placeWord 0xB0000 v (writing 0xB0000 h v s))).isNone)) = false := hrange
  rw [happly, Bool.true_and] at hor
  exact (Bool.or_eq_false_iff.mp hor).2

/-- Such a copy comes into force at the next repetition (R348). -/
theorem hkApply_eq (hpass : (hkApply v s).isNone = false) : hkApply v s = some (hkNext (s.hk.staging.take (v.toNat % 32)) s) := by
  have hfld : fld v 0 5 = v.toNat % 32 := by simp [fld, bitsN]
  unfold hkApply at hpass ⊢
  rw [hfld] at hpass ⊢
  dsimp only at hpass ⊢
  split at hpass
  · exact absurd hpass (by decide)
  · exact if_neg ‹_›

theorem hkCtrl_apply (hW : Writes 0xB0000 h v s) (happly : v.getLsbD 5 = true) :
    hkCtrl v (placeWord 0xB0000 v (writing 0xB0000 h v s)) =
      (placeWord 0xB0000 v (writing 0xB0000 h v s)).onHk (fun x => { x with nextSeq := some (x.staging.take (v.toNat % 32)) }) := by
  rw [hkCtrl, if_pos happly, hkApply_eq (hkApply_passes hW happly)]
  rfl

/-! TABOR3_CTRL, which no rule lets be written (R439, R584). -/

theorem writeForm_tabor3 : WriteForm (regParams 0x500E8 1) := ⟨by decide, by decide, by decide, by decide⟩

theorem regWriteBad_tabor3 : regWriteBad (runWords (regParams 0x500E8 1)) n s = some (0x14, 0x500E8, some 0x500E8) := by
  have hwords : runWords (regParams 0x500E8 1) = [(0x500E8, 1)] := by decide
  rw [hwords]
  rfl

/-- The row of Tabor 3 is refused at its address (R439). -/
theorem taborCtrlApply_tabor3 (hA : Admits 0x801 h (regParams 0x500E8 1) s) :
    exec (.taborCtrlApply h 3) s = .next (replied 0x801 h (regParams 0x500E8 1) s (refuse 0x14 8 0x500E8) (writing 0x500E8 h 1 s)) := by
  have hbody : bodyRegWrite (bodyCtx (ctxOf 0x801 h (regParams 0x500E8 1) s)) (writing 0x500E8 h 1 s) = no (refuse 0x14 8 0x500E8) (writing 0x500E8 h 1 s) := by
    rw [bodyRegWrite_form writeForm_tabor3, regWriteBad_tabor3]
    rfl
  exact next_replied hA (by decide) hbody (Or.inl rfl)

/-- Settles O38: what each row's word does, and the third rule for the Tabor that has nothing armed. -/
theorem applyRegisterRows : Obligations.ApplyRegisterRows := by
  intro h v seg w n s
  refine ⟨fun hW => ?cuts, fun hW => ⟨fun happly => ?hkApply, fun hstay => ?hkStay⟩, fun hA => ?tabor3, fun hn hW => ?tabor,
    fun hW => ?vled, fun hW => ?vcore, fun hW => ?bootCfg⟩
  case cuts =>
    have hseg : (0x90400 + 0xC0 * seg.val + 4 * w.val - 0x90400) / 0xC0 = seg := by omega
    have hword : (0x90400 + 0xC0 * seg.val + 4 * w.val - 0x90400) % 0xC0 / 4 = w := by omega
    refine next_wrote (by omega) hW ((writeWord_cut (by omega) (by omega)).trans ?_)
    rw [hseg, hword]
  case hkApply => exact next_wrote (by decide) hW (writeWord_hkCtrl.trans (hkCtrl_apply hW happly))
  case hkStay => exact next_wrote (by decide) hW (writeWord_hkCtrl.trans (if_neg (by rw [hstay]; exact Bool.false_ne_true)))
  case tabor3 => exact taborCtrlApply_tabor3 hA
  case tabor => exact next_wrote (by omega) hW ((writeWord_taborCtrl hn).trans (if_pos (by decide)))
  case vled => exact next_wrote (by decide) hW (writeWord_pwrCtrl.trans pwrCtrl_vled)
  case vcore => exact next_wrote (by decide) hW (writeWord_pwrCtrl.trans pwrCtrl_vcore)
  case bootCfg => exact next_wrote (by decide) hW writeWord_bootCfg

end Sys2Proof
end

section
/-!
The timers of bring-up, the reference clock, and the eye minimum (R91, R98, R102, R104, R121).
-/
namespace Sys2Proof
open Sys2Proof.Machine
variable {s t u : State}

/-- A row whose event leaves t answers t settled. -/
theorem next_settle (h : u = t) :
    (Host.Outcome.next (settle u) : Host.Outcome State Machine.Fault Machine.Refusal) = .next (settle t) :=
  congrArg (fun x => Host.Outcome.next (settle x)) h

/-! A state timeout (R98, R102). -/

theorem stateTimeout_detect (h : s.link.ls = .detect) : stateTimeout s = endAttempt s := by
  unfold stateTimeout
  rw [h]

theorem stateTimeout_restarts (h : s.link.ls = .config ∨ s.link.ls = .step ∨ s.link.ls = .linkUp) : stateTimeout s = startDetect s := by
  unfold stateTimeout
  rcases h with h | h | h <;> rw [h]

theorem stateTimeout_adapt (h : s.link.ls = .adapt) : stateTimeout s = if s.passed = 0 then fallback s else enterLinkUp s := by
  unfold stateTimeout
  rw [h]

/-- Outside bring-up no state timer runs. -/
theorem stateTimeout_other (h : bringing s.link.ls = false) : stateTimeout s = s := by
  unfold stateTimeout
  split
  case h_6 => rfl
  all_goals rename_i hls; rw [hls] at h; exact absurd h (by decide)

/-- ADAPT ends without a passing lane above S1: back to STEP at the next lower grade, which bounds the attempt from now on. -/
theorem fallback_lower (h : 2 ≤ s.link.grade.toNat) :
    fallback s = s.onLink (fun l =>
      { l with ls := .step, grade := s.link.grade - 1, cap := (s.link.grade - 1).setWidth 4, linkUpSent := false,
               lanes := l.lanes.map (fun x => { x with locked := false, ready := false, partnerReady := false }) }) := by
  rw [fallback, if_neg (Nat.not_le.mpr h)]
  rfl

theorem fallback_lowest (h : s.link.grade.toNat ≤ 1) : fallback s = endAttempt s := if_pos h

/-! The attempt timer (R60, R104). -/

theorem attemptTimeoutEvent_eq (s : State) : attemptTimeoutEvent s = bootReady (if bringing s.link.ls = true then endAttempt s else s) := by
  unfold attemptTimeoutEvent
  cases s.link.ls <;> rfl

/-! The eye minimum (R102, R121, R130). -/

/-- A lane that trains meets the eye minimum: EQ_DONE goes out and the calibration counts. -/
theorem eyeMinimumEvent_met {lane : Nat} (h : s.link.ls = .adapt ∨ (s.link.ls = .recovery ∧ s.link.agreed.getLsbD lane = true) ∨
      (s.link.ls = .active ∧ (s.lane lane).dropped = true ∧ (s.lane lane).locked = true)) :
    eyeMinimumEvent lane s =
      tryRejoin (tryUp (tryLinkUp (sendTrain 5 (BitVec.ofNat 4 (2 ^ lane)) s.link.agreed s.link.grade.toNat
        (onLane lane (fun l => { l with ready := true })
          (s.onLink (fun l => { l with cal := modAt l.cal lane (fun c => { c with count := c.count + 1, last := s.stamp, failed := false }) })))))) :=
  if_pos h

/-- Settles O41: one case for each row and each state of the link that it tells apart. -/
theorem bringUpTimers : Obligations.BringUpTimers := by
  intro lane s
  refine ⟨fun h => ?detect, fun h => ?restarts, fun h hp => ?passed, fun h hp hg => ?lower, fun h hp hg => ?lowest, fun h => ?other,
    ?attempt, ?recovery, ?loss, ?restore, fun h => ?eye⟩
  case detect => exact next_settle (stateTimeout_detect h)
  case restarts => exact next_settle (stateTimeout_restarts h)
  case passed => exact next_settle ((stateTimeout_adapt h).trans (if_neg hp))
  case lower => exact next_settle (((stateTimeout_adapt h).trans (if_pos hp)).trans (fallback_lower hg))
  case lowest => exact next_settle (((stateTimeout_adapt h).trans (if_pos hp)).trans (fallback_lowest hg))
  case other => exact next_settle (stateTimeout_other h)
  case attempt => exact next_settle (attemptTimeoutEvent_eq s)
  case recovery => exact next_settle rfl
  case loss => exact next_settle rfl
  case restore => exact next_settle rfl
  case eye => exact next_settle (eyeMinimumEvent_met h)

end Sys2Proof
end

section
/-!
Strike, the watchers, the segment timers and latch readback (R56, R297, R298, R301, R303, R310, R311).
-/
namespace Sys2Proof
open Sys2Proof.Machine
variable {s : State}

/-! Strike (R297, R303). -/

/-- Segment n is struck at the end of its beat, muted or not: its Mallet has earned it, or a takeover counts for it. -/
def strikes (s : State) (n : Nat) : Bool :=
  s.mal.struck.getLsbD n || (match s.server n with
    | some m => s.earned m
    | none => false)

/-- A stimulus stands behind a Strike that segment n misses. -/
def missInjected (s : State) (n : Nat) : Bool :=
  match s.server n with
  | some m => s.hasStim bMALLET 1 m || s.hasStim bMALLET 2 m
  | none => false

/-- The segments whose Strike comes out. -/
def struckSet (s : State) : List Nat := selN 8 (fun n => !s.hasStim bMALLET 9 n && strikes s n)

/-- The segments that miss their Strike. -/
def missedSet (s : State) : List Nat := selN 8 (fun n => !(!s.hasStim bMALLET 9 n && strikes s n) && !s.hasStim bMALLET 9 n)

/-- Slot 1,023 of a beat. -/
def atStrike (s : State) : State := s.onMal (fun x => { x with slot := 1023 })

/-- The Strikes of some segments are noted. -/
def noteStrikes (l : List Nat) (s : State) : State := s.onMal (fun x => { x with struck := BitVec.ofNat 8 (sumL (l.map (2 ^ ·))) })

/-- The stimuli of this Strike are over. -/
def clearStrikeStims (s : State) : State := (List.range 9).foldl (fun s m => dropStim bMALLET 1 m s) s

/-- What the Strike watcher does with the segments that missed. -/
def watchStrike (inj : Nat → Bool) (l : List Nat) (s : State) : State :=
  match l with
  | [] => clearStrikeStims s
  | [n] => clearStrikeStims (detect n 1 (inj n) false s)
  | _ => clearStrikeStims (record bMALLET 11 (noUnit.inj (l.any inj)) s)

theorem watchStrike_several {inj : Nat → Bool} {l : List Nat} (h : 2 ≤ l.length) :
    watchStrike inj l s = clearStrikeStims (record bMALLET 11 (noUnit.inj (l.any inj)) s) := by
  match l, h with
  | _ :: _ :: _, _ => rfl

theorem strikeEvent_scanning (hscan : s.mal.scanning = true) :
    strikeEvent s = watchStrike (missInjected (atStrike s)) (missedSet (atStrike s)) (noteStrikes (struckSet (atStrike s)) (atStrike s)) := by
  unfold strikeEvent
  rw [hscan]
  rfl

theorem strikeEvent_dark (hdark : s.mal.scanning = false) : strikeEvent s = s := by
  unfold strikeEvent
  rw [hdark]
  rfl

theorem selN_congr {k : Nat} {p q : Nat → Bool} (h : ∀ n, n < k → p n = q n) : selN k p = selN k q :=
  List.filter_congr (fun n hn => h n (List.mem_range.mp hn))

theorem lt_of_mem_selN {k n : Nat} {p : Nat → Bool} (h : n ∈ selN k p) : n < k := List.mem_range.mp (List.mem_filter.mp h).1

/-- A segment is served by its own Mallet or by Mallet 8. -/
theorem server_lt {n m : Nat} (hn : n < 8) (h : s.server n = some m) : m < 9 := by
  unfold State.server at h
  split at h <;> split at h <;> simp at h <;> omega

theorem missInjected_false {n : Nat} (hn : n < 8) (hstim : ∀ m, m < 9 → s.hasStim bMALLET 1 m = false ∧ s.hasStim bMALLET 2 m = false) :
    missInjected s n = false := by
  unfold missInjected
  split
  case h_1 m hserver =>
    obtain ⟨h1, h2⟩ := hstim m (server_lt hn hserver)
    rw [h1, h2]
    rfl
  case h_2 => rfl

/-! Without stimuli. -/

theorem struckSet_unmuted (hmute : ∀ n, n < 8 → s.hasStim bMALLET 9 n = false) : struckSet s = selN 8 (strikes s) :=
  selN_congr (fun n hn => by rw [hmute n hn]; rfl)

theorem missedSet_unmuted (hmute : ∀ n, n < 8 → s.hasStim bMALLET 9 n = false) : missedSet s = selN 8 (fun n => !strikes s n) :=
  selN_congr (fun n hn => by rw [hmute n hn, Bool.not_false, Bool.true_and, Bool.and_true])

/-- No stimulus mutes a segment or stands behind a Mallet. -/
structure Unstimulated (s : State) : Prop where
  unmuted : ∀ n, n < 8 → s.hasStim bMALLET 9 n = false
  mallets : ∀ m, m < 9 → s.hasStim bMALLET 1 m = false ∧ s.hasStim bMALLET 2 m = false

/-- Without stimuli the watcher sees every segment, and what it records is not injected. -/
theorem strikeEvent_unstimulated (hscan : s.mal.scanning = true) (hu : Unstimulated (atStrike s)) :
    strikeEvent s = watchStrike (fun _ => false) (selN 8 (fun n => !strikes (atStrike s) n)) (noteStrikes (selN 8 (strikes (atStrike s))) (atStrike s)) := by
  have hinj : ∀ n ∈ selN 8 (fun n => !strikes (atStrike s) n), missInjected (atStrike s) n = false :=
    fun n hn => missInjected_false (lt_of_mem_selN hn) hu.mallets
  rw [strikeEvent_scanning hscan, struckSet_unmuted hu.unmuted, missedSet_unmuted hu.unmuted]
  generalize selN 8 (fun n => !strikes (atStrike s) n) = l at hinj ⊢
  unfold watchStrike
  split
  case h_1 => rfl
  case h_2 n => rw [hinj n List.mem_cons_self]
  case h_3 => rw [List.any_eq_false.mpr (fun n hn => by rw [hinj n hn]; exact Bool.false_ne_true), List.any_eq_false.mpr (fun _ _ => Bool.false_ne_true)]

/-! The segment timers (R56, R298, R301). -/

/-- The segments whose timers have expired. -/
def expired (segs : BitVec 8) : List Nat := selN 8 (fun n => segs.getLsbD n)

/-- Each of them shows its Gong pattern and is recorded. -/
def timersExpired (segs : BitVec 8) (s : State) : State := (expired segs).foldl (fun s n => timerExpire n s) s

section
variable {segs : BitVec 8} {n k : Nat} {l : List Nat}

theorem gongTimerEvent_dark (hdark : s.isLit = false) : gongTimerEvent segs s = s := by
  unfold gongTimerEvent
  rw [hdark]
  rfl

theorem gongTimerEvent_none (hl : expired segs = []) : gongTimerEvent segs s = s := by
  unfold gongTimerEvent
  rw [show selN 8 (fun n => segs.getLsbD n) = [] from hl]
  exact ite_self _

/-- One timer: the spare takes the segment over where it can; otherwise GONG is entered first. -/
theorem gongTimerEvent_one (hlit : s.isLit = true) (hl : expired segs = [n]) :
    gongTimerEvent segs s =
      if (timersExpired segs s).spareReady && (timersExpired segs s).mal.hits.all (· == n) then connectSpare n 9 true (timersExpired segs s)
      else connectSpare n 9 true (enterGong 3 (timersExpired segs s)) := by
  unfold gongTimerEvent timersExpired
  rw [hl, show selN 8 (fun n => segs.getLsbD n) = [n] from hl, hlit]
  rfl

/-- Several timers: no spare takes them all over. -/
theorem gongTimerEvent_several (hlit : s.isLit = true) (hl : expired segs = n :: k :: l) :
    gongTimerEvent segs s = record bMALLET 10 (atUnitVal (((timersExpired segs s).server n).getD 8) n) (enterGong 3 (timersExpired segs s)) := by
  unfold gongTimerEvent timersExpired
  rw [hl, show selN 8 (fun n => segs.getLsbD n) = n :: k :: l from hl, hlit]
  rfl

end

/-! The hang watcher (R301). -/

theorem hangWatchEvent_hangs {m g : Nat} (hseg : s.segOf m = some g) (hscan : s.mal.scanning = true) (hstim : s.hasStim bMALLET 9 g = false) :
    hangWatchEvent m s = detect g 2 (s.hasStim bMALLET 2 m) false (dropStim bMALLET 2 m s) := by
  unfold hangWatchEvent
  rw [hseg]
  exact if_neg (by rw [hscan, hstim]; decide)

theorem hangWatchEvent_dark {m : Nat} (hdark : s.mal.scanning = false) : hangWatchEvent m s = s := by
  unfold hangWatchEvent
  split
  case h_1 => rfl
  case h_2 => rw [hdark]; rfl

/-! Latch readback (R310, R311). -/

section
variable {seg j : Nat} {dev0 dev1 : List (Nat × BitVec 3)}

theorem latchReadbackEvent_dark (hdark : s.mal.scanning = false) : latchReadbackEvent seg j dev0 dev1 s = s := by
  unfold latchReadbackEvent
  rw [hdark]
  rfl

theorem latchReadbackEvent_otherSlot (hslot : slotFn s.porch (16 * j + 15) ≠ .readback) : latchReadbackEvent seg j dev0 dev1 s = s := by
  unfold latchReadbackEvent
  rw [bne_iff_ne.mpr hslot, Bool.or_true]
  rfl

/-- The pointer of a segment advances by the two rows that are read. -/
def readbackBegun (seg j : Nat) (s : State) : State :=
  s.onMal (fun x => { x with rbConfirm := x.rbConfirm.filter (fun c => c.1 != seg), rbPtr := x.rbPtr.set seg ((s.mal.rbPtr.getD seg 0 + 2) % 96),
                             slot := 16 * j + 15 })

/-- The second of two new rows is read where the first has left the array lit. -/
def secondRow (seg p : Nat) (dev : List (Nat × BitVec 3)) (s : State) : State :=
  if s.mal.scanning then readRow seg (96 * seg + (p + 1) % 96) false dev s else s

/-- Where no row is to be repeated, two new rows are read. -/
theorem latchReadbackEvent_newRows (hscan : s.mal.scanning = true) (hslot : slotFn s.porch (16 * j + 15) = .readback)
    (hnone : s.mal.rbConfirm.filter (fun c => c.1 == seg) = []) :
    latchReadbackEvent seg j dev0 dev1 s =
      secondRow seg (s.mal.rbPtr.getD seg 0) dev1
        (readRow seg (96 * seg + s.mal.rbPtr.getD seg 0 % 96) false dev0 (readbackBegun seg j s)) := by
  have hbegun : (readbackBegun seg j s).mal.scanning = true := hscan
  unfold latchReadbackEvent
  rw [hscan, hslot, hnone]
  exact (if_neg (by decide)).trans (congrArg (secondRow seg (s.mal.rbPtr.getD seg 0) dev1) (if_pos hbegun))

end

/-- Settles O53: each row by the states in which it acts, and Strike by the number of segments that miss it. -/
theorem strikeAndWatchers : Obligations.StrikeAndWatchers := by
  intro m seg j segs dev0 dev1 s
  refine ⟨fun hdark => ⟨?strikeDark, ?hangDark, ?readbackDark⟩, fun hslot => ?otherSlot, fun hscan => ?strike,
    fun g hseg hscan hstim => ?hang, fun hlit => ⟨fun hl => ?noTimer, fun n hl hready hhits => ?takenOver, fun n hl hno => ?gong,
    fun n k l hl => ?severalTimers⟩, fun hdark => ?timersDark, fun hscan hslot hnone => ?readback⟩
  case strikeDark => exact next_settle (strikeEvent_dark hdark)
  case hangDark => exact next_settle (hangWatchEvent_dark hdark)
  case readbackDark => exact next_settle (latchReadbackEvent_dark hdark)
  case otherSlot => exact next_settle (latchReadbackEvent_otherSlot hslot)
  case strike =>
    intro A hmute hmallets ok T clear
    have hstrike := strikeEvent_unstimulated hscan ⟨hmute, hmallets⟩
    refine ⟨fun hl => ?allStruck, fun n hl => ?oneMisses, fun hl => ?severalMiss⟩
    case allStruck => exact next_settle (hstrike.trans (congrArg (watchStrike _ · _) hl))
    case oneMisses => exact next_settle (hstrike.trans (congrArg (watchStrike _ · _) hl))
    case severalMiss =>
      refine next_settle (hstrike.trans ((watchStrike_several hl).trans ?_))
      rw [List.any_eq_false.mpr (fun _ _ => Bool.false_ne_true)]
      rfl
  case hang => exact next_settle (hangWatchEvent_hangs hseg hscan hstim)
  case noTimer => exact next_settle (gongTimerEvent_none hl)
  case takenOver => exact next_settle ((gongTimerEvent_one hlit hl).trans (if_pos (Bool.and_eq_true_iff.mpr ⟨hready, hhits⟩)))
  case gong =>
    refine next_settle ((gongTimerEvent_one hlit hl).trans (if_neg (fun hand => ?_)))
    obtain ⟨hready, hhits⟩ := Bool.and_eq_true_iff.mp hand
    exact hno.elim (fun h => Bool.false_ne_true (h.symm.trans hready)) (fun h => Bool.false_ne_true (h.symm.trans hhits))
  case severalTimers => exact next_settle (gongTimerEvent_several hlit hl)
  case timersDark => exact next_settle (gongTimerEvent_dark hdark)
  case readback => exact next_settle (latchReadbackEvent_newRows hscan hslot hnone)

end Sys2Proof
end

section
/-!
Warm restart (R78, R79, R161, R420, R424, R586): what holds the Clapper restarting, and what its end replays.
-/
namespace Sys2Proof
open Sys2Proof.Machine
variable {s : State} {cause k : Nat}

/-- The Clapper is held restarting: what waits is counted and discarded, what was not answered is kept, and what was in execution
counts one more restart. -/
def clapperHeld (cause : Nat) (s : State) : State :=
  (s.onClap (fun c =>
      { c with restarting := true, cause := BitVec.ofNat 4 cause, evtDiscarded := c.evtDiscarded + c.evtQ.length, evtQ := [], irqHeld := !s.irqN,
               evtLost := c.evtLost || !c.evtQ.isEmpty, retained := c.retained ++ s.spi.again,
               held := c.held.map (fun l => { l with ctx := { l.ctx with replayed := true } }),
               ledger := c.ledger.map (fun e =>
                 if e.state = 0 ∧ (c.long.any (fun l => decide (l.ctx.ledger = some e.lseq))) = false then { e with restarts := e.restarts + 1 } else e) })).onSpi
    (fun p => { p with replies := [] })

/-- The restart has begun: the lost records are recorded, the cause and the warm count noted, SERVICE ended. -/
def restartBegun (cause : Nat) (s : State) : State :=
  endService ((recordLost s.clap.evtQ (clapperHeld cause s)).onSys (fun y =>
    { y with rstLast := BitVec.ofNat 4 cause, warmCount := if y.warmCount = 0xFFFF then y.warmCount else y.warmCount + 1 }))

/-- The CLAP source of a fatal error or of a watchdog expiry (R424). -/
def fatalSource (cause : Nat) : Nat := if cause = 4 then 7 else 6

theorem warmBegin_notRunning (h : s.clapRuns = false) : warmBegin cause s = s := by
  unfold warmBegin
  rw [h]
  rfl

/-- A fatal cause without a free dump slot: the event names no unit. -/
theorem warmBegin_noDump (hrun : s.clapRuns = true) (hfatal : (decide (cause = 4) || decide (cause = 5)) = true) (hslot : s.freeSlot = none) :
    warmBegin cause s = record bCLAP (fatalSource cause) noUnit (restartBegun cause s) := by
  unfold warmBegin
  rw [hrun, hfatal, hslot]
  rfl

/-- A fatal cause with a free dump slot: the slot is the event's unit, and the dump is written there. -/
theorem warmBegin_dump (hrun : s.clapRuns = true) (hfatal : (decide (cause = 4) || decide (cause = 5)) = true) (hslot : s.freeSlot = some k) :
    warmBegin cause s =
      (writeDump k cause (record bCLAP (fatalSource cause) (atUnit k) (restartBegun cause s))).onClap (fun c => { c with dumpDone := some k }) := by
  unfold warmBegin
  rw [hrun, hfatal, hslot]
  rfl

/-! The end of the restart (R161, R586). -/

/-- The Clapper runs again, and EVT WARM_RESTART precedes the replay. -/
def restartEnded (s : State) : State :=
  postEvent bCLAP 0 9 (BitVec.ofNat 8 s.clap.cause.toNat :: natLe 2 (Nat.min 65535 s.clap.evtDiscarded))
    (mendFloor (s.freeNext.onClap (fun c => { c with restarting := false, evtDiscarded := 0, dumpDone := none, retained := [] })))

/-- A dump that was written is reported. -/
def dumpReported (s : State) : State :=
  match s.clap.dumpDone with
  | some k => postEvent bCLAP 0 11 [BitVec.ofNat 8 k] (restartEnded s)
  | none => restartEnded s

/-- The Ledger is replayed, and what was retained runs. -/
def replayDone (ue : List Word) (s : State) : State :=
  s.clap.retained.foldl (fun s x => run7 x s) (s.clap.ledger.foldl (replayEntry ue) (dumpReported s))

theorem warmEnd_notRestarting {ue : List Word} (h : s.clap.restarting = false) : warmEnd ue s = s := by
  unfold warmEnd
  rw [h]
  rfl

/-- The credits that were held return after the replay (R122). -/
theorem warmEnd_restarting {ue : List Word} (h : s.clap.restarting = true) :
    warmEnd ue s =
      if (replayDone ue s).link.heldCredits = 0 then replayDone ue s
      else sendCredit 0 ((replayDone ue s).onLink (fun l => { l with ownLimit := modAt l.ownLimit 0 (· + l.heldCredits), heldCredits := 0 })) := by
  unfold warmEnd
  rw [h]
  rfl

/-- Settles O58: a running Clapper with and without a free dump slot, and the end of its restart. -/
theorem warmRestart : Obligations.WarmRestart := by
  intro s
  refine ⟨fun hrun => ⟨fun hslot => ⟨?watchdog, ?fatal⟩, fun k hslot => ⟨?watchdogDump, ?fatalDump⟩⟩,
    fun hrestart => ⟨fun hheld => ?noCredit, fun hheld => ?credit⟩, fun hstop => ⟨?noWatchdog, ?noFatal⟩, fun hrun => ?noRestart⟩
  case watchdog => exact next_settle (warmBegin_noDump hrun rfl hslot)
  case fatal => exact next_settle (warmBegin_noDump hrun rfl hslot)
  case watchdogDump => exact next_settle (warmBegin_dump hrun rfl hslot)
  case fatalDump => exact next_settle (warmBegin_dump hrun rfl hslot)
  case noCredit => exact next_settle ((warmEnd_restarting hrestart).trans (if_pos hheld))
  case credit => exact next_settle ((warmEnd_restarting hrestart).trans (if_neg hheld))
  case noWatchdog => exact next_settle (warmBegin_notRunning hstop)
  case noFatal => exact next_settle (warmBegin_notRunning hstop)
  case noRestart => exact next_settle (warmEnd_notRestarting hrun)

end Sys2Proof
end

section
/-!
Supplies, pins and STANDBY (R55, R67, R77, R78, R488, R565, R570 to R572, R581): each event by what its pins and supplies show.
-/
namespace Sys2Proof
open Sys2Proof.Machine
variable {st : Straps} {o : BootObs} {held : Bool} {i : TapInstr} {w : Supply} {s : State}

/-- A level that is high is not low. -/
theorem bnot_ne_true {b : Bool} (h : b = true) : (!b) ≠ true := ne_true_of_eq_false ((Bool.not_eq_false' b).mpr h)

/-! VAON (R55, R81). -/

/-- PD0 starts with VAON, in a cold reset. -/
def keeperStarted (s : State) : State :=
  coldReset (s.onSys (fun y => { y with vaon := true, keeper := 0, rstLast := 0, rstLastCold := 0, warmCount := 0, wakeEdge := false }))

theorem vaonApplyEvent_again (hv : s.sys.vaon = true) : vaonApplyEvent st o s = s := if_pos hv

theorem vaonApplyEvent_asleep (hv : s.sys.vaon = false) (hw : (keeperStarted s).sys.wake = false) :
    vaonApplyEvent st o s = standbyState (keeperStarted s) :=
  (if_neg (ne_true_of_eq_false hv)).trans (if_pos ((Bool.not_eq_true' _).mpr hw))

theorem vaonApplyEvent_awake (hv : s.sys.vaon = false) (hw : (keeperStarted s).sys.wake = true) :
    vaonApplyEvent st o s =
      if (sampleStraps st (keeperStarted s)).sys.rstN then coldBoot 0 o (sampleStraps st (keeperStarted s)) else sampleStraps st (keeperStarted s) :=
  (if_neg (ne_true_of_eq_false hv)).trans (if_neg (bnot_ne_true hw))

theorem vaonLossEvent_off (s : State) :
    (vaonLossEvent s).sys.st = .off ∧ (vaonLossEvent s).sys.vaon = false ∧ (vaonLossEvent s).sys.keeper = 0 := ⟨rfl, rfl, rfl⟩

/-! WAKE (R55, R77, R565). -/

/-- WAKE has risen, and the straps are sampled. -/
def woken (st : Straps) (s : State) : State := sampleStraps st (s.onSys (fun y => { y with wake := true }))

/-- A rising edge with RST_N high: remembered while STANDBY is being entered, a cold boot out of STANDBY. -/
theorem wakeRiseEvent_running (hv : s.sys.vaon = true) (hw : s.sys.wake = false) (hr : s.sys.rstN = true) :
    wakeRiseEvent st o s =
      if (woken st s).sys.standbyEntry then (woken st s).onSys (fun y => { y with wakeLatched := true })
      else if (woken st s).sys.st = .standby then coldBoot 1 o (coldReset (woken st s))
      else woken st s := by
  have hedge : ¬(!s.sys.vaon || s.sys.wake) = true := by simp [hv, hw]
  exact (if_neg hedge).trans (if_neg (bnot_ne_true hr))

/-- A rising edge under RST_N is noted. -/
theorem wakeRiseEvent_reset (hv : s.sys.vaon = true) (hw : s.sys.wake = false) (hr : s.sys.rstN = false) (hst : s.sys.st ≠ .standby) :
    wakeRiseEvent st o s = s.onSys (fun y => { y with wake := true, wakeEdge := true }) := by
  have hedge : ¬(!s.sys.vaon || s.sys.wake) = true := by simp [hv, hw]
  exact ((if_neg hedge).trans (if_pos ((Bool.not_eq_true' _).mpr hr))).trans (if_neg hst)

theorem wakeLowEvent_running (hr : s.sys.rstN = true) : wakeLowEvent s = standbyBegin (s.onSys (fun y => { y with wake := false })) :=
  if_pos hr

theorem standbyDone_entering (he : s.sys.standbyEntry = true) :
    standbyDone o s = if s.sys.wakeLatched then coldBoot 1 o (coldReset s) else standbyState s :=
  if_neg (bnot_ne_true he)

/-! RST_N (R78, R565, R572). -/

theorem rstLowEvent_powered (he : s.sys.standbyEntry = false) (hp : s.powered = true) :
    rstLowEvent s = coldReset (s.onSys (fun y => { y with rstN := false })) :=
  (if_neg (ne_true_of_eq_false he)).trans (if_pos hp)

/-- RST_N is released, and the supplies are back. -/
def released (s : State) : State := suppliesBack (s.onSys (fun y => { y with rstN := true }))

theorem rstReleaseEvent_powered (hr : s.sys.rstN = false) (hp : s.powered = true) :
    rstReleaseEvent st o s =
      if !s.sys.wake then standbyState (released s)
      else coldBoot 2 o (coldReset (if s.sys.wakeEdge then sampleStraps st (released s) else released s)) :=
  (if_neg (ne_true_of_eq_false hr)).trans (if_neg (bnot_ne_true hp))

/-! LIMP_N (R55, R67) and LPH_FLT_N (R488), which are control lands. -/

/-- The level of LIMP_N has been taken. -/
def limpTaken (held : Bool) (s : State) : State := s.onSys (fun y => { y with limpN := !held })

theorem limpLowEvent_monitored (hr : s.sys.rstN = true) (hl : s.lands = true) :
    limpLowEvent held s =
      if s.sys.st = .boot then enterState .gong ((gongLight 1 (limpTaken held s)).onSys (fun y => { y with gongFromBoot := true }))
      else enterGong 1 (limpTaken held s) :=
  if_neg (show ¬(!s.sys.rstN || !s.lands) = true by simp [hr, hl])

theorem limpLowEvent_noLands (hl : s.lands = false) : limpLowEvent held s = limpTaken held s :=
  if_pos (show (!s.sys.rstN || !s.lands) = true by simp [hl])

/-- The fault line of the phases keeps VLED off until the module is lit again. -/
theorem lphLowEvent_on (hf : s.sys.lphFltN = true) (hl : s.lands = true) (hp : s.pdIs 11 .on = true) :
    lphLowEvent s =
      record bPWR 3 noUnit (syncOwner ((s.onSys (fun y => { y with lphFltN := false })).onPwr (fun p => { p with offUntilLit := true }))) :=
  (if_neg (show ¬(decide (s.sys.lphFltN = false) || !s.lands) = true by simp [hf, hl])).trans (if_pos hp)

theorem lphLowEvent_noLands (hl : s.lands = false) : lphLowEvent s = s :=
  if_pos (show (decide (s.sys.lphFltN = false) || !s.lands) = true by simp [hl])

theorem lphHighEvent_lands (hl : s.lands = true) : lphHighEvent s = syncOwner (s.onSys (fun y => { y with lphFltN := true })) :=
  if_neg (bnot_ne_true hl)

theorem lphHighEvent_noLands (hl : s.lands = false) : lphHighEvent s = s := if_pos ((Bool.not_eq_true' _).mpr hl)

/-! The other supplies (R570, R572). -/

theorem supplyEvent_unpowered (hp : s.powered = false) : supplyEvent w s = s := if_pos ((Bool.not_eq_true' _).mpr hp)

theorem supplyEvent_vana (hp : s.powered = true) :
    supplyEvent .vana s = syncOwner (s.onSys (fun y => { y with vana := false, supplyLost := true })) :=
  if_neg (bnot_ne_true hp)

/-! The TAP (R581). -/

/-- The TAP takes no instruction without its lands, in SERVICE and under RST_N. -/
theorem tapEvent_held (h : s.powered = false ∨ s.lands = false ∨ s.sys.st = .service ∨ s.sys.rstN = false) : tapEvent i s = s := by
  refine if_pos (show (!s.powered || !s.lands || decide (s.sys.st = .service) || !s.sys.rstN) = true from ?_)
  rcases h with h | h | h | h <;> simp [h]

theorem tapEvent_taken (hp : s.powered = true) (hl : s.lands = true) (hst : s.sys.st ≠ .service) (hr : s.sys.rstN = true) :
    tapEvent i s = s.onSys (fun y => { y with tap := if (i = .extest ∨ i = .clamp) ∧ y.st ≠ .ready then .bypass else i }) :=
  if_neg (show ¬(!s.powered || !s.lands || decide (s.sys.st = .service) || !s.sys.rstN) = true by simp [hp, hl, hst, hr])

/-- Settles O60: one case for each pin and supply, by the levels that decide what follows. -/
theorem suppliesAndPins : Obligations.SuppliesAndPins := by
  intro st o held i s
  refine ⟨fun hv => ⟨fun hw => ?asleep, fun hw hr => ?coldBoot, fun hw hr => ?heldReset⟩, fun hv => ?again, ?vaonLoss,
    fun hv hw hr => ⟨fun he => ?remembered, fun he hst => ?bootsOut, fun he hst => ?awake⟩, fun hv hw hr hst => ?noted, fun hr => ?wakeLow,
    fun he => ?entryDone, fun he hp => ?rstLow, fun hr hp => ⟨fun hw hedge => ?releasedEdge, fun hw hedge => ?releasedBoot, fun hw => ?releasedStandby⟩,
    fun hr hl hst => ?limp, fun hr hl hst => ?limpBoot, fun hf hl hp => ?lphLow, fun hl => ?lphHigh, fun hl => ⟨?noLands, ?noLandsLimp⟩,
    fun hp => ?vana, fun hp => ⟨?vio, ?ledStage, ?coreStage⟩, fun w hp => ?unpowered, fun hp hl hst hr => ?tap, fun h => ?tapHeld⟩
  case asleep => exact next_settle (vaonApplyEvent_asleep hv hw)
  case coldBoot => exact next_settle ((vaonApplyEvent_awake hv hw).trans (if_pos hr))
  case heldReset => exact next_settle ((vaonApplyEvent_awake hv hw).trans (if_neg (ne_true_of_eq_false hr)))
  case again => exact next_settle (vaonApplyEvent_again hv)
  case vaonLoss => exact ⟨vaonLossEvent s, rfl, vaonLossEvent_off s⟩
  case remembered => exact next_settle ((wakeRiseEvent_running hv hw hr).trans (if_pos he))
  case bootsOut => exact next_settle (((wakeRiseEvent_running hv hw hr).trans (if_neg (ne_true_of_eq_false he))).trans (if_pos hst))
  case awake => exact next_settle (((wakeRiseEvent_running hv hw hr).trans (if_neg (ne_true_of_eq_false he))).trans (if_neg hst))
  case noted => exact next_settle (wakeRiseEvent_reset hv hw hr hst)
  case wakeLow => exact next_settle (wakeLowEvent_running hr)
  case entryDone => exact next_settle (standbyDone_entering he)
  case rstLow => exact next_settle (rstLowEvent_powered he hp)
  case releasedEdge =>
    refine next_settle (((rstReleaseEvent_powered hr hp).trans (if_neg (bnot_ne_true hw))).trans ?_)
    rw [if_pos hedge]
    rfl
  case releasedBoot =>
    refine next_settle (((rstReleaseEvent_powered hr hp).trans (if_neg (bnot_ne_true hw))).trans ?_)
    rw [if_neg (ne_true_of_eq_false hedge)]
    rfl
  case releasedStandby => exact next_settle ((rstReleaseEvent_powered hr hp).trans (if_pos ((Bool.not_eq_true' _).mpr hw)))
  case limp => exact next_settle ((limpLowEvent_monitored hr hl).trans (if_neg hst))
  case limpBoot => exact next_settle ((limpLowEvent_monitored hr hl).trans (if_pos hst))
  case lphLow => exact next_settle (lphLowEvent_on hf hl hp)
  case lphHigh => exact next_settle (lphHighEvent_lands hl)
  case noLands =>
    intro c hc
    simp only [List.mem_cons, List.not_mem_nil, or_false] at hc
    rcases hc with rfl | rfl | rfl
    · exact next_settle (lphLowEvent_noLands hl)
    · exact next_settle (lphHighEvent_noLands hl)
    · exact next_settle (tapEvent_held (.inr (.inl hl)))
  case noLandsLimp => exact next_settle (limpLowEvent_noLands hl)
  case vana => exact next_settle (supplyEvent_vana hp)
  case vio => exact next_settle (if_neg (bnot_ne_true hp))
  case ledStage => exact next_settle (if_neg (bnot_ne_true hp))
  case coreStage => exact next_settle (if_neg (bnot_ne_true hp))
  case unpowered => exact next_settle (supplyEvent_unpowered hp)
  case tap => exact next_settle (tapEvent_taken hp hl hst hr)
  case tapHeld => exact next_settle (tapEvent_held (h.imp_right .inr))

end Sys2Proof
end

section
/-!
A packet without credit (R123), and the rows in which a packet comes over the link.
-/
namespace Sys2Proof
open Sys2Proof.Machine
variable {cls : Nat} {raw pl : Bytes} {s : State}

/-- The rows in which a packet comes over the link: its class, not the row, says which block it is for. -/
def packetRows (raw : Bytes) : List Instr :=
  [.cmdPacket raw, .wr raw, .fen raw, .damperSet (.envex raw), .beamState (.envex raw), .safeReq (.envex raw),
   .sync (.envex raw), .followUp (.envex raw), .delayResp (.envex raw)]

theorem exec_packetRow {c : Instr} (hc : c ∈ packetRows raw) : exec c s = .next (settle (rxAny raw s)) := by
  simp only [packetRows, List.mem_cons, List.not_mem_nil, or_false] at hc
  rcases hc with rfl | rfl | rfl | rfl | rfl | rfl | rfl | rfl | rfl <;> rfl

/-- A link violation is noted in registers alone. -/
theorem linkViol_link (cls seq : Nat) (s : State) : (linkViol cls seq s).link = s.link := by simp [linkViol]

theorem cvCheck_link (u : Nat) (good : Bool) (s : State) : (cvCheck u good s).link = s.link := by simp

/-- A NAK does not take the packet that it answers. -/
theorem sendNak_expSeq (reason : Nat) (s : State) : (sendNak reason s).link.expSeq = s.link.expSeq := rfl

/-- Without credits nothing of the packet reaches a block. -/
theorem rxAny_noCredit (hW : Whole cls raw pl s)
    (hc : (s.link.ownLimit.getD (poolOf cls) 0 - s.link.ownUsed.getD (poolOf cls) 0).toNat < creditsOf pl.length) :
    rxAny raw s = record bLINK 7 noUnit (linkViol cls s.link.expSeq.toNat (sendNak 4 (cvCheck 0 true s))) := by
  unfold rxAny
  rw [linkRx_whole hW, if_pos hc]

/-- Settles O9: the credits decide before any block sees the packet, and a NAK and a violation leave the expected number. -/
theorem packetWithoutCredit : Obligations.PacketWithoutCredit := by
  intro cls raw pl s hW hc
  refine ⟨?unmoved, fun c hrow => ?discarded⟩
  case unmoved => rw [linkViol_link, sendNak_expSeq, cvCheck_link]
  case discarded => exact (exec_packetRow hrow).trans (next_settle (rxAny_noCredit hW hc))

end Sys2Proof
end

section
/-!
The registers LINK_CFG and LINK_CTRL (R135, R136, R584).
-/
namespace Sys2Proof
open Sys2Proof.Machine
variable {h : CmdHdr} {v : Word} {lanes : BitVec 4} {s : State}

/-- The fields of LINK_CFG lie in its low half. -/
theorem placeWord_linkCfg : placeWord 0x30000 v s = s.setReg 0x30000 ((s.reg 0x30000 &&& 0xFFFF0000) ||| (v &&& 0xFFFF)) := rfl

theorem writeWord_linkCfg :
    writeWord 0x30000 v s = linkEnableChanged (s.rfld 0x30000 0 1 == 1) (v.getLsbD 0) (placeWord 0x30000 v s) := rfl

/-- LINK_CTRL has no field that stays. -/
theorem writeWord_linkCtrl : writeWord 0x30004 v s = linkCtrl v s := rfl

theorem linkCtrl_retrain : linkCtrl 1 s = retrain s := rfl
theorem linkCtrl_recover : linkCtrl 2 s = recover s := rfl

/-- The lane mask alone, in bits 2 to 5. -/
theorem linkCtrl_unfence : linkCtrl (lanes.setWidth 32 <<< 2) s = unfenceLanes lanes s := by
  have hmask : fld (lanes.setWidth 32 <<< 2) 2 4 = lanes.toNat := by
    have hlt := lanes.isLt
    simp only [fld, bitsN, BitVec.toNat_shiftLeft, BitVec.toNat_setWidth, Nat.shiftLeft_eq]
    omega
  simp [linkCtrl, hmask]

/-- Accepting the packet changes no register word. -/
theorem writing_reg (a b : Nat) : (writing a h v s).reg b = s.reg b := by simp [writing, State.reg]

theorem writing_rfld (a b lo n : Nat) : (writing a h v s).rfld b lo n = s.rfld b lo n := by rw [State.rfld, writing_reg, State.rfld]

/-- Settles O36: what each word does once its write is accepted. -/
theorem linkRegisterRows : Obligations.LinkRegisterRows := by
  intro h v lanes s
  refine ⟨fun hW => ?enable, fun hW => ?retrain, fun hW => ?recover, fun hW => ?unfence⟩
  case enable =>
    refine next_wrote (by decide) hW ?_
    rw [writeWord_linkCfg, placeWord_linkCfg, writing_reg, writing_rfld]
  case retrain => exact next_wrote (by decide) hW (writeWord_linkCtrl.trans linkCtrl_retrain)
  case recover => exact next_wrote (by decide) hW (writeWord_linkCtrl.trans linkCtrl_recover)
  case unfence => exact next_wrote (by decide) hW (writeWord_linkCtrl.trans linkCtrl_unfence)

end Sys2Proof
end

section
/-!
The messages of bring-up and the gain of block lock (R88, R94 to R103, R121): a block goes through the checks of its lane, and its message
acts by the state of the link.
-/
namespace Sys2Proof
open Sys2Proof.Machine
variable {lane msg n : Nat} {b : BitVec 64} {s : State}

/-! One lane. -/

/-- A change of one lane that keeps something of every lane. -/
theorem lane_onLane_keeps {β : Type} {f : Lane → Lane} (g : Lane → β) (hg : ∀ l, g (f l) = g l) (m n : Nat) (s : State) :
    g ((onLane n f s).lane m) = g (s.lane m) := by
  unfold State.lane onLane modAt
  simp only [State.onLink_link, List.getD_eq_getElem?_getD, List.getElem?_set]
  split
  · rename_i hn
    subst hn
    split
    · rename_i hlt
      simp [hg, List.getElem?_eq_getElem hlt]
    · rename_i hge
      simp [List.getElem?_eq_none (Nat.not_lt.mp hge)]
  · rfl

/-- A change of the link that keeps its lanes. -/
theorem lane_onLink (s : State) (f : Link → Link) (hf : (f s.link).lanes = s.link.lanes) (m : Nat) : (s.onLink f).lane m = s.lane m :=
  congrArg (fun l => l.getD m default) hf

/-! A TRAIN block on its lane (R88, R94, R99). -/

/-- The rows of the TRAIN messages. -/
def trainRows (lane : Fin 4) (b : BitVec 64) : List Instr :=
  [.tsAdv lane b, .tsAck lane b, .speedReq lane b, .eqDone lane b, .linkUp lane b, .abort lane b]

/-- Each of them receives a TRAIN block and hands its message on. -/
theorem exec_trainRow {lane : Fin 4} {c : Instr} (hc : c ∈ trainRows lane b) :
    ∃ msg f, ∀ s, exec c s = .next (settle (trainRx lane b msg f s)) := by
  simp only [trainRows, List.mem_cons, List.not_mem_nil, or_false] at hc
  rcases hc with rfl | rfl | rfl | rfl | rfl | rfl <;> exact ⟨_, _, fun _ => rfl⟩

section
variable {f : State → State}

theorem trainRx_deaf (h : s.listens lane = false) : trainRx lane b msg f s = s := if_pos ((Bool.not_eq_true' _).mpr h)

theorem trainRx_badCrc (h : s.listens lane = true) (hb : blkOk b = false) : trainRx lane b msg f s = crcErr s :=
  (if_neg (bnot_ne_true h)).trans (if_pos ((Bool.not_eq_true' _).mpr hb))

theorem trainRx_heard (hT : Train b msg lane s) : trainRx lane b msg f s = f (heard lane b s) :=
  ((if_neg (bnot_ne_true hT.wired)).trans (if_neg (bnot_ne_true hT.crc))).trans (if_pos hT.fields)

end

/-! TS_ADV (R98, R101). -/

/-- What lane n advertises does not touch its lock. -/
theorem advertised_locked (m : Nat) : ((advertised lane b s).lane m).locked = (s.lane m).locked := by
  rw [advertised, lane_onLink, lane_onLane_keeps Lane.locked, heard, lane_onLane_keeps Lane.locked]
  · exact fun _ => rfl
  · exact fun _ => rfl
  · rfl

/-- On locked lane 0 it ends DETECT. -/
theorem tsAdvEvent_detect (hT : Train b 1 lane s) (hls : s.link.ls = .detect) (h0 : lane = 0) (hlock : (s.lane 0).locked = true) :
    tsAdvEvent lane b s = sendTrain 1 s.wired s.wired 1 ((advertised lane b s).onLink (fun l => { l with ls := .config })) :=
  (((trainRx_heard hT).trans (if_pos (.inl hls))).trans (if_pos hls)).trans (if_pos ⟨h0, (advertised_locked 0).trans hlock⟩)

/-- In CONFIG it is answered with the common set. -/
theorem tsAdvEvent_config (hT : Train b 1 lane s) (hls : s.link.ls = .config) :
    tsAdvEvent lane b s = sendTrain 2 (advertised lane b s).commonSet (advertised lane b s).commonSet 1 (advertised lane b s) := by
  have hnot : (heard lane b s).link.ls ≠ .detect := fun h => by rw [show s.link.ls = .detect from h] at hls; cases hls
  exact ((trainRx_heard hT).trans (if_pos (.inr hls))).trans (if_neg hnot)

/-! TS_ACK (R98, R101). -/

/-- One more TS_ACK of the common set on a lane. -/
def acked (lane : Nat) (b : BitVec 64) (s : State) : State := onLane lane (fun l => { l with acks := l.acks + 1 }) (heard lane b s)

/-- TS_ACK of the common set counts; the eighth on every lane of the set enters STEP. -/
theorem tsAckEvent_common (hT : Train b 2 lane s) (hls : s.link.ls = .config) (hset : BitVec.ofNat 4 (blkByte b 2 / 16) = (heard lane b s).commonSet) :
    tsAckEvent lane b s =
      if (heard lane b s).commonSet ≠ 0 ∧ (lanesOf (heard lane b s).commonSet).all (fun n => decide (8 ≤ ((acked lane b s).lane n).acks)) = true then
        onLanes (s.wired &&& ~~~(heard lane b s).commonSet) Lane.drop
          (useSet (heard lane b s).commonSet ((acked lane b s).onLink (fun l => { l with ls := .step, linkUpSent := false })))
      else acked lane b s :=
  ((trainRx_heard hT).trans (if_pos hls)).trans (if_pos hset)

/-! SPEED_REQ (R102). -/

/-- A grade that the attempt does not allow ends it, with ABORT and a violation. -/
theorem speedReqEvent_beyond (hT : Train b 3 lane s) (hls : s.link.ls = .step) (hg : blkByte b 3 / 16 = 0 ∨ s.link.cap.toNat < blkByte b 3 / 16) :
    speedReqEvent lane b s =
      endAttempt (record bLINK 7 noUnit (sendTrain 7 s.link.agreed s.link.agreed s.link.grade.toNat ((heard lane b s).bump 0x30068 0 16 1))) :=
  ((trainRx_heard hT).trans (if_pos hls)).trans (if_pos hg)

/-- A violation count leaves the link as it is. -/
theorem bump_link (a lo n k : Nat) (s : State) : (s.bump a lo n k).link = s.link := by simp

/-- SPEED_ACK has gone out: the grade is taken, and where it is new, lock has to be gained again. -/
def gradeTaken (g : Nat) (same : Prop) [Decidable same] (s : State) : State :=
  s.onLink (fun l => { l with grade := BitVec.ofNat 3 g, linkUpSent := true,
                              lanes := if same then l.lanes else l.lanes.map (fun x => { x with locked := false }) })

theorem gradeTaken_decide (g : Nat) (same : Prop) [Decidable same] (s : State) : gradeTaken g (decide same = true) s = gradeTaken g same s := by
  have hchoice : ∀ x y : List Lane, (if decide same = true then x else y) = if same then x else y :=
    fun _ _ => ite_congr (propext decide_eq_true_iff) (fun _ => rfl) (fun _ => rfl)
  unfold gradeTaken
  simp only [hchoice]

/-- A grade that the attempt allows is acknowledged and taken. -/
theorem speedReqEvent_allowed (hT : Train b 3 lane s) (hls : s.link.ls = .step) (h1 : 1 ≤ blkByte b 3 / 16) (hcap : blkByte b 3 / 16 ≤ s.link.cap.toNat) :
    speedReqEvent lane b s =
      tryAdapt (gradeTaken (blkByte b 3 / 16) ((heard lane b s).link.grade.toNat = blkByte b 3 / 16)
        (iter 17 (fun s => sendTrain 4 s.link.agreed s.link.agreed (blkByte b 3 / 16) s) (heard lane b s))) := by
  have hallowed : ¬(blkByte b 3 / 16 = 0 ∨ s.link.cap.toNat < blkByte b 3 / 16) := by omega
  refine (((trainRx_heard hT).trans (if_pos hls)).trans (if_neg hallowed)).trans ?_
  exact congrArg tryAdapt (gradeTaken_decide _ _ _)

/-! EQ_DONE, LINK_UP and ABORT (R98, R102, R103, R121). -/

theorem eqDoneEvent_adapt (hT : Train b 5 lane s) (hls : s.link.ls = .adapt) :
    eqDoneEvent lane b s = tryRejoin (tryLinkUp (onLane lane (fun l => { l with partnerReady := true }) (heard lane b s))) :=
  (trainRx_heard hT).trans (if_pos (.inl hls))

theorem linkUpEvent_linkUp (hT : Train b 6 lane s) (hls : s.link.ls = .linkUp) :
    linkUpEvent lane b s = tryActive ((heard lane b s).onLink (fun l => { l with linkUpGot := true })) := by
  have hheard : (heard lane b s).link.ls = .linkUp := hls
  refine (trainRx_heard hT).trans ?_
  simp only [hheard]

/-- The locked lanes of the set in RECOVERY. -/
def retrained (lane : Nat) (b : BitVec 64) (s : State) : BitVec 4 := (heard lane b s).lockedSet &&& (heard lane b s).link.agreed

theorem linkUpEvent_recovery (hT : Train b 6 lane s) (hls : s.link.ls = .recovery) (hset : retrained lane b s ≠ 0) :
    linkUpEvent lane b s =
      flush (resendAll (portChanged
        ((useSet (retrained lane b s) (onLanes (retrained lane b s) Lane.join
            (onLanes ((heard lane b s).link.agreed &&& ~~~(retrained lane b s)) Lane.drop (sendUp (retrained lane b s) (heard lane b s))))).onLink
          (fun l => { l with ls := .active, linkUpGot := true, stalls := 0 })))) := by
  have hheard : (heard lane b s).link.ls = .recovery := hls
  refine (trainRx_heard hT).trans ?_
  simp only [hheard]
  exact if_neg hset

/-- ABORT in any state of an attempt. -/
theorem abortEvent_bringing (hT : Train b 7 lane s) (hb : bringing s.link.ls = true) : abortEvent lane b s = endAttempt (heard lane b s) := by
  refine (trainRx_heard hT).trans ?_
  have hheard : bringing (heard lane b s).link.ls = true := hb
  split
  case h_6 hdetect hconfig hstep hadapt hup =>
    simp only [bringing, Bool.or_eq_true, beq_iff_eq] at hheard
    rcases hheard with (((h | h) | h) | h) | h
    · exact (hdetect h).elim
    · exact (hconfig h).elim
    · exact (hstep h).elim
    · exact (hadapt h).elim
    · exact (hup h).elim
  all_goals rfl

/-! Block lock (R96, R98, R100). -/

theorem lockGain_listens (inv : Bool) (h : s.listens lane = true) :
    lockGain lane inv s =
      tryUp (tryAdapt (onLane lane (fun l => { l with locked := true, invHdrs := [], polInv := if s.link.ls = .detect then inv else l.polInv }) s)) :=
  if_neg (bnot_ne_true h)

/-- Settles O40: one case for each message and each state of the link in which it acts. -/
theorem bringUpMessages : Obligations.BringUpMessages := by
  intro lane b inv s
  refine ⟨fun c hc => ⟨fun hdeaf => ?deaf, fun hl hb => ?badCrc⟩, fun hT hls h0 hlock => ?detect, fun hT hls => ?config,
    fun hT hls hset => ⟨fun hfew => ?counts, fun hne hall => ?step⟩, fun hT hls => ⟨fun hg => ?beyond, fun h1 hcap => ?allowed⟩,
    fun hT hls => ?eqDone, fun hT hls => ?linkUp, fun hT hls hset => ?recovered, fun hT hb => ?abort, fun hl => ?lock⟩
  case deaf =>
    obtain ⟨msg, f, hexec⟩ := exec_trainRow hc
    exact (hexec s).trans (next_settle (trainRx_deaf hdeaf))
  case badCrc =>
    obtain ⟨msg, f, hexec⟩ := exec_trainRow hc
    exact (hexec s).trans (next_settle (trainRx_badCrc hl hb))
  case detect => exact next_settle (tsAdvEvent_detect hT hls h0 hlock)
  case config => exact next_settle (tsAdvEvent_config hT hls)
  case counts =>
    refine next_settle ((tsAckEvent_common hT hls hset).trans (if_neg ?_))
    rintro ⟨hne, hall⟩
    exact hfew.elim hne (fun h => Bool.false_ne_true (h.symm.trans hall))
  case step => exact next_settle ((tsAckEvent_common hT hls hset).trans (if_pos ⟨hne, hall⟩))
  case beyond =>
    refine next_settle ?_
    rw [bump_link]
    exact speedReqEvent_beyond hT hls hg
  case allowed => exact next_settle (speedReqEvent_allowed hT hls h1 hcap)
  case eqDone => exact next_settle (eqDoneEvent_adapt hT hls)
  case linkUp => exact next_settle (linkUpEvent_linkUp hT hls)
  case recovered => exact next_settle (linkUpEvent_recovery hT hls hset)
  case abort => exact next_settle (abortEvent_bringing hT hb)
  case lock => exact next_settle (lockGain_listens inv hl)

end Sys2Proof
end

section
/-!
Control blocks of the running link (R94, R116 to R122): acknowledgements, credits and their timers.
-/
namespace Sys2Proof
open Sys2Proof.Machine
variable {sub : Nat} {b : BitVec 64} {f : State → State} {s : State}

/-! A LINKCTL block (R94). -/

/-- The rows of the LINKCTL messages. -/
def ctlRows (b : BitVec 64) : List Instr :=
  [.ack b, .nak b, .credit b, .laneDrop b, .laneSwitch b, .rejoin b, .rejoinAck b]

/-- Each of them receives a LINKCTL block and hands its message on. -/
theorem exec_ctlRow {c : Instr} (hc : c ∈ ctlRows b) : ∃ sub f, ∀ s, exec c s = .next (settle (ctlRx sub b f s)) := by
  simp only [ctlRows, List.mem_cons, List.not_mem_nil, or_false] at hc
  rcases hc with rfl | rfl | rfl | rfl | rfl | rfl | rfl <;> exact ⟨_, _, fun _ => rfl⟩

/-- The lanes carry blocks in every state of the link but two. -/
theorem onAir_of_ls {x : LinkState} (h : s.link.ls = x) (hdown : x ≠ .down) (hwait : x ≠ .refclkWait) : s.onAir = true := by
  simp [State.onAir, h, hdown, hwait]

theorem onAir_active (h : s.link.ls = .active) : s.onAir = true := onAir_of_ls h (by decide) (by decide)

theorem ctlRx_badCrc (ha : s.onAir = true) (hb : blkOk b = false) : ctlRx sub b f s = crcErr s :=
  (if_neg (bnot_ne_true ha)).trans (if_pos ((Bool.not_eq_true' _).mpr hb))

theorem ctlRx_good (hC : Ctl b sub) (ha : s.onAir = true) : ctlRx sub b f s = f s :=
  ((if_neg (bnot_ne_true ha)).trans (if_neg (bnot_ne_true hC.crc))).trans (if_pos hC.fields)

/-- Most messages act in ACTIVE only. -/
theorem ctlRx_active {g : State → State} (hC : Ctl b sub) (hls : s.link.ls = .active) :
    ctlRx sub b (fun s => if s.link.ls ≠ .active then s else g s) s = g s :=
  (ctlRx_good hC (onAir_active hls)).trans (if_neg (not_not_intro hls))

/-! ACK, NAK and CREDIT (R117, R118, R122). -/

/-- The states in which credits are taken. -/
theorem onAir_live (h : s.link.ls = .active ∨ s.link.ls = .linkUp ∨ s.link.ls = .recovery) : s.onAir = true := by
  rcases h with h | h | h <;> exact onAir_of_ls h (by decide) (by decide)

/-- A CREDIT whose limit lies ahead of the one in force. -/
theorem creditEvent_advances (hC : Ctl b 3) (hls : s.link.ls = .active ∨ s.link.ls = .linkUp ∨ s.link.ls = .recovery) (hpool : blkByte b 2 < 3)
    (hahead : (BitVec.ofNat 16 (fld b 24 16) - s.link.hostLimit.getD (blkByte b 2) 0).toNat < 32768) :
    creditEvent b s = flush (tryActive (s.onLink (fun l =>
      { l with hostLimit := l.hostLimit.set (blkByte b 2) (BitVec.ofNat 16 (fld b 24 16)), hostSeen := l.hostSeen.set (blkByte b 2) true }))) := by
  have hlive : ¬((decide (s.link.ls = .active) || decide (s.link.ls = .linkUp) || decide (s.link.ls = .recovery)) = false ∨ 3 ≤ blkByte b 2) := by
    have htrue : (decide (s.link.ls = .active) || decide (s.link.ls = .linkUp) || decide (s.link.ls = .recovery)) = true := by
      simpa [or_assoc] using hls
    rw [htrue]
    exact not_or.mpr ⟨by decide, Nat.not_le.mpr hpool⟩
  refine (ctlRx_good hC (onAir_live hls)).trans ?_
  exact (if_neg hlive).trans (if_neg (Nat.not_le.mpr hahead))

/-! The timers (R117 to R120, R122). -/

/-- The replay timeout acts where something is unacknowledged. -/
theorem replayTimeoutEvent_unacked (hls : s.link.ls = .active) (hr : s.link.retry ≠ []) : replayTimeoutEvent s = flush (replay s) :=
  if_pos ⟨hls, List.isEmpty_eq_false_iff.mpr hr⟩

/-- Settles O43: one case for each control block and each timer. -/
theorem ackAndCredit : Obligations.AckAndCredit := by
  intro b s
  refine ⟨fun ha hb c hc => ?badCrc, fun hC hls => ?ack, fun hC hls => ?nak, fun hC hls hpool hahead => ?credit, fun hls hdue => ?ackDue,
    fun hls => ?refresh, fun hls hr hst => ?replays, fun hls hr hst => ?stalled, fun hls => ?unfinished⟩
  case badCrc =>
    obtain ⟨sub, f, hexec⟩ := exec_ctlRow hc
    exact (hexec s).trans (next_settle (ctlRx_badCrc ha hb))
  case ack => exact next_settle (ctlRx_active hC hls)
  case nak => exact next_settle (ctlRx_active hC hls)
  case credit => exact next_settle (creditEvent_advances hC hls hpool hahead)
  case ackDue => exact next_settle (if_pos ⟨hls, hdue⟩)
  case refresh => exact next_settle (if_pos hls)
  case replays => exact next_settle ((replayTimeoutEvent_unacked hls hr).trans (congrArg flush (if_pos hst)))
  case stalled => exact next_settle ((replayTimeoutEvent_unacked hls hr).trans (congrArg flush (if_neg (Nat.not_lt.mpr hst))))
  case unfinished => exact next_settle (if_pos hls)

end Sys2Proof
end

section
/-!
Lanes that leave the set and come back (R88, R96, R97, R127 to R132, R410).
-/
namespace Sys2Proof
open Sys2Proof.Machine
variable {lane n gap : Nat} {b : BitVec 64} {s : State}

/-! Lost lock (R127, R132). -/

/-- Lane n has lost lock. -/
def unlocked (n : Nat) (s : State) : State := onLane n (fun l => { l with locked := false, ready := false, invHdrs := [] }) s

/-- Outside ACTIVE, and on a lane outside the set, it is only noted. -/
theorem dropLane_outside (h : s.link.ls ≠ .active ∨ s.link.agreed.getLsbD n = false) : dropLane n s = unlocked n s := by
  refine if_neg ?_
  rintro ⟨hls, hset⟩
  exact h.elim (fun hn => hn hls) (fun hn => Bool.false_ne_true (hn.symm.trans hset))

/-- The active lanes that are left to this side after a drop. -/
def leftActive (s : State) : BitVec 4 := s.link.active &&& s.lockedSet &&& s.link.agreed

/-- On a lane of the set in ACTIVE the drop is counted, and what is left decides. -/
theorem dropLane_active (hls : s.link.ls = .active) (hset : s.link.agreed.getLsbD n = true) :
    dropLane n s =
      let D := countDrop n (unlocked n s)
      if leftActive D = 0 then lastLane s.link.agreed D
      else (sendRow [4, BitVec.ofNat 8 D.lockedSet.toNat] D).onLink (fun l => { l with dropSent := true }) :=
  if_pos ⟨hls, hset⟩

/-! Invalid sync headers (R96, R410). -/

/-- The invalid headers of lane n that lie within the last 1,024 blocks, this one with them. -/
def headerAges (n gap : Nat) (s : State) : List Nat := 0 :: ((s.lane n).invHdrs.map (· + gap + 1)).filter (· < 1024)

/-- An invalid header on lane n has been counted. -/
def headerCounted (n gap : Nat) (s : State) : State :=
  onLane n (fun l => { l with invHdrs := headerAges n gap s }) (s.bump (0x30028 + 0x10 * n) 0 32 1)

/-- What drops the lane is its tally, or the 32nd of them while it is locked. -/
theorem laneErrEvent_listens (h : s.listens n = true) :
    laneErrEvent n gap s =
      let R := recordT bLINK 0 (atUnit n) (headerCounted n gap s)
      if R.2 = true ∨ (32 ≤ (headerAges n gap s).length ∧ ((headerCounted n gap s).lane n).locked = true) then dropLane n R.1 else R.1 := by
  refine (if_neg (bnot_ne_true h)).trans ?_
  simp only [Bool.or_eq_true, Bool.and_eq_true, decide_eq_true_eq]
  rfl

/-! LANE_DROP and LANE_SWITCH (R127, R128). -/

/-- The lanes that the partner and this side can still use. -/
def keptLanes (b : BitVec 64) (s : State) : BitVec 4 := BitVec.ofNat 4 (blkByte b 2) &&& s.lockedSet &&& s.link.agreed &&& ~~~s.fencedSet

theorem laneDropEvent_active (hC : Ctl b 4) (hls : s.link.ls = .active) :
    laneDropEvent b s =
      if keptLanes b s = 0 then enterRecovery s
      else switchTo (keptLanes b s) (activeOf (keptLanes b s)) ((lanesOf (s.link.agreed &&& ~~~keptLanes b s)).foldl (fun s n => countDrop n s) s) :=
  ctlRx_active hC hls

/-- The lanes that this side can use. -/
def ownLanes (s : State) : BitVec 4 := s.lockedSet &&& s.link.agreed &&& ~~~s.fencedSet

/-- LANE_SWITCH answers an own LANE_DROP with a set that this side can use. -/
def Answers (b : BitVec 64) (s : State) : Prop :=
  let a := BitVec.ofNat 4 (blkByte b 2)
  s.link.dropSent = true ∧ a ≠ 0 ∧ a &&& ~~~ownLanes s = 0 ∧ blkByte b 3 = (lanesOf a).length ∧ (lanesOf a).length ≠ 3

/-- The tests of the row are those of an answer. -/
theorem fits_iff {a : BitVec 4} (ha : a = BitVec.ofNat 4 (blkByte b 2)) :
    (s.link.dropSent && (decide (a ≠ 0) && decide (a &&& ~~~ownLanes s = 0) && decide (blkByte b 3 = (lanesOf a).length) &&
      decide ((lanesOf a).length ≠ 3))) = true ↔ Answers b s := by
  subst ha
  simp only [Answers, Bool.and_eq_true, decide_eq_true_eq, and_assoc]

/-- The exchange ends with a set in use and its active lanes; what else this side could use is dropped. -/
def endExchange (set a : BitVec 4) (s : State) : State := switchTo set a (onLanes (ownLanes s &&& ~~~set) Lane.drop s)

/-- Such an answer ends the exchange: with the lanes of this side where the width is theirs, else with those it names. -/
theorem laneSwitchEvent_answers (hC : Ctl b 5) (hls : s.link.ls = .active) (ha : Answers b s) :
    laneSwitchEvent b s =
      let a := BitVec.ofNat 4 (blkByte b 2)
      endExchange (if widthOf (ownLanes s) = (lanesOf a).length then ownLanes s else a) a s :=
  (ctlRx_active hC hls).trans (if_pos ((fits_iff rfl).mpr ha))

/-- Any other is ignored or not by the set in force. -/
theorem laneSwitchEvent_other (hC : Ctl b 5) (hls : s.link.ls = .active) (ha : ¬Answers b s) :
    laneSwitchEvent b s = if BitVec.ofNat 4 (blkByte b 2) = s.link.active then s else enterRecovery s :=
  (ctlRx_active hC hls).trans (if_neg (fun h => ha ((fits_iff rfl).mp h)))

/-! The rejoin hold (R130). -/

/-- The hold of lane n is over. -/
def heldOver (n : Nat) (s : State) : State := onLane n (fun l => { l with holdOver := true }) s

/-- The lanes that are offered. -/
def offered (s : State) : BitVec 4 := s.rejoinable &&& laneSet s (fun l => l.holdOver)

theorem rejoinHoldEvent_dropped (h : (s.lane n).dropped = true) :
    rejoinHoldEvent n s =
      if s.link.ls = .active ∧ s.autoRejoin = true ∧ offered (heldOver n s) ≠ 0 then
        sendLinkctl [6, BitVec.ofNat 8 (offered (heldOver n s)).toNat] (heldOver n s)
      else heldOver n s :=
  if_pos h

/-! ALIGN (R97). -/

/-- An ALIGN block of lane n arrives on it, and its CRC-8 holds. -/
structure Align (b : BitVec 64) (n : Nat) (s : State) : Prop where
  wired : s.listens n = true
  crc : blkOk b = true
  first : blkByte b 0 = 0x4B
  lane : blkByte b 1 = n

/-- In ACTIVE an ALIGN in tolerance names the set of the partner's stream. -/
def followAlign (b : BitVec 64) (s : State) : State :=
  let a := BitVec.ofNat 4 (blkByte b 2)
  if s.link.ls = .active ∧ (a = s.link.active ∨ a = activeOf (s.link.agreed ||| s.link.rejoinSet)) then s.onLink (fun l => { l with rxActive := a })
  else s

theorem alignEvent_heard {inTol : Bool} (hA : Align b n s) :
    alignEvent n b inTol s = if !inTol then dropLane n s else followAlign b s := by
  have hfields : ¬(blkByte b 0 ≠ 0x4B ∨ blkByte b 1 ≠ n) := not_or.mpr ⟨not_not_intro hA.first, not_not_intro hA.lane⟩
  exact ((if_neg (bnot_ne_true hA.wired)).trans (if_neg (bnot_ne_true hA.crc))).trans (if_neg hfields)

/-- In tolerance. -/
theorem alignEvent_inTol (hA : Align b n s) : alignEvent n b true s = followAlign b s := (alignEvent_heard hA).trans (if_neg Bool.false_ne_true)

/-- Settles O42: one case for each row, by what is left of the set. -/
theorem lanesLeaveAndRejoin : Obligations.LanesLeaveAndRejoin := by
  intro lane gap b s
  refine ⟨fun h => ?outside, fun hls hset => ⟨fun hleft => ?dropSent, fun hleft => ?lastLane⟩,
    fun hl => ⟨fun hlost => ?headerDrops, fun hkeep => ?headerNoted⟩,
    fun hC hls => ⟨fun hm => ?switches, fun hm => ?noneLeft⟩,
    fun hC hls => ⟨fun ha hw => ?ownWidth, fun ha hw => ?namedSet, fun ha hsame => ?inForce, fun ha hother => ?stray⟩,
    fun hls hsent => ?unanswered, fun hC hls => ?rejoin, fun hC hls => ?rejoinAck,
    fun hd => ⟨fun hls hauto hgo => ?offers, fun hnot => ?waits⟩,
    fun hl hb h0 h1 => ⟨?outOfTol, fun hls ha => ?follows, fun hls => ?alignIgnored⟩⟩
  case outside => exact next_settle (dropLane_outside h)
  case dropSent => exact next_settle ((dropLane_active hls hset).trans (if_neg hleft))
  case lastLane => exact next_settle ((dropLane_active hls hset).trans (if_pos hleft))
  case headerDrops => exact next_settle ((laneErrEvent_listens hl).trans (if_pos hlost))
  case headerNoted => exact next_settle ((laneErrEvent_listens hl).trans (if_neg hkeep))
  case switches => exact next_settle ((laneDropEvent_active hC hls).trans (if_neg hm))
  case noneLeft => exact next_settle ((laneDropEvent_active hC hls).trans (if_pos hm))
  case ownWidth => exact next_settle ((laneSwitchEvent_answers hC hls ha).trans (congrArg (endExchange · _ s) (if_pos hw)))
  case namedSet => exact next_settle ((laneSwitchEvent_answers hC hls ha).trans (congrArg (endExchange · _ s) (if_neg hw)))
  case inForce => exact next_settle ((laneSwitchEvent_other hC hls ha).trans (if_pos hsame))
  case stray => exact next_settle ((laneSwitchEvent_other hC hls ha).trans (if_neg hother))
  case unanswered => exact next_settle (if_pos ⟨hls, hsent⟩)
  case rejoin => exact next_settle (ctlRx_active hC hls)
  case rejoinAck => exact next_settle (ctlRx_active hC hls)
  case offers => exact next_settle ((rejoinHoldEvent_dropped hd).trans (if_pos ⟨hls, hauto, hgo⟩))
  case waits =>
    refine next_settle ((rejoinHoldEvent_dropped hd).trans (if_neg ?_))
    rintro ⟨hls, hauto, hgo⟩
    rcases hnot with hn | hn | hn
    · exact hn hls
    · exact Bool.false_ne_true (hn.symm.trans hauto)
    · exact hgo hn
  case outOfTol => exact next_settle ((alignEvent_heard ⟨hl, hb, h0, h1⟩).trans (if_pos rfl))
  case follows => exact next_settle ((alignEvent_inTol ⟨hl, hb, h0, h1⟩).trans (if_pos ⟨hls, ha⟩))
  case alignIgnored => exact next_settle ((alignEvent_inTol ⟨hl, hb, h0, h1⟩).trans (if_neg (fun h => hls h.1)))

end Sys2Proof
end

section
/-!
The adaptation qualifier and the eye monitor (R88, R105 to R108).
-/
namespace Sys2Proof
open Sys2Proof.Machine
variable {n trans one runs : Nat} {s : State}

/-- A change of one lane matters at that lane only. -/
theorem onLane_congr {f g : Lane → Lane} (h : f (s.lane n) = g (s.lane n)) : onLane n f s = onLane n g s :=
  congrArg (fun x => s.onLink (fun l => { l with lanes := l.lanes.set n x })) h

/-- Density and spread of a window reach a pair of thresholds (R106). -/
def windowMeets (trans one runs t u : Nat) : Bool := decide (t * 65536 ≤ trans * 256) && decide (u * runs ≤ one * 256)

/-- A lane at the end of its window: the thresholds of the next one, and the time that it has been frozen (R107). -/
def windowEnded (next : Word) (ns : Nat) (l : Lane) : Lane :=
  { l with qual := next, frozenNs := ns, frozenMs := BitVec.ofNat 16 (Nat.min 65535 (ns / 660000000)) }

/-- A lane freezes at the end of its window, for the k-th time. -/
def froze (next : Word) (coef : List Word) (k : BitVec 16) (l : Lane) : Lane :=
  { windowEnded next l.frozenNs l with coef := coef, frozen := true, goodWins := 0, freezes := k }

/-- A lane that has adapted in its window goes on with it, or freezes (R106). -/
def qualified (next : Word) (coef : List Word) (fine : Bool) (l : Lane) : Lane :=
  if fine then { windowEnded next l.frozenNs l with coef := coef, frozen := false, goodWins := 0 }
  else froze next coef (if l.freezes = 0xFFFF then l.freezes else l.freezes + 1) l

/-- A frozen lane thaws after the fourth good window in a row (R106). -/
def thawed (next : Word) (ns : Nat) (good : Bool) (l : Lane) : Lane :=
  if good then { windowEnded next ns l with frozen := decide (l.goodWins < 3), goodWins := if l.goodWins < 3 then l.goodWins + 1 else 0 }
  else { windowEnded next ns l with frozen := true, goodWins := 0 }

theorem adaptWindow_adapting (hf : (s.lane n).frozen = false) :
    adaptWindow n trans one runs s =
      onLane n (qualified (s.reg 0x30010) (freshCoef s) (windowMeets trans one runs (fld (s.lane n).qual 0 8) (fld (s.lane n).qual 16 8)))
        (s.onFreeIdx (· + 4)) := by
  have hlane : ((s.onFreeIdx (· + 4)).lane n) = s.lane n := rfl
  simp only [adaptWindow, hf, Bool.false_eq_true, if_false, hlane]
  refine onLane_congr ?_
  simp only [hlane, hf, Bool.false_eq_true, if_false, Nat.add_zero, qualified, froze, windowMeets, windowEnded]

theorem adaptWindow_frozen (hf : (s.lane n).frozen = true) :
    adaptWindow n trans one runs s =
      onLane n (thawed (s.reg 0x30010) ((s.lane n).frozenNs + windowLen s.link.grade.toNat)
        (windowMeets trans one runs (fld (s.lane n).qual 8 8) (fld (s.lane n).qual 24 8))) s := by
  simp only [adaptWindow, hf, if_true]
  refine onLane_congr ?_
  simp only [hf, if_true, thawed, windowMeets, windowEnded]
  split
  case isTrue hgood =>
    by_cases h3 : (s.lane n).goodWins < 3
    · rw [if_neg (by omega), if_pos h3, decide_eq_true h3]
    · rw [if_pos (by omega), if_neg h3, decide_eq_false h3]
  case isFalse hbad => rfl

/-- Settles O44: a window by whether its lane is frozen and whether it meets the lane's thresholds, and one pass of the eye monitor over the wired lanes. -/
theorem lineMonitors : Obligations.LineMonitors := by
  intro lane trans one runs hs ws s
  refine ⟨⟨fun hf hm => ?goesOn, fun hf hm hmax => ?freezes, fun hf hm => ?good, fun hf hm => ?bad⟩, fun hls => ?eye⟩
  case goesOn => exact next_settle ((adaptWindow_adapting hf).trans (onLane_congr (if_pos hm)))
  case freezes =>
    have hcount : froze (s.reg 0x30010) (freshCoef s) (if (s.lane lane).freezes = 0xFFFF then (s.lane lane).freezes else (s.lane lane).freezes + 1)
        (s.lane lane) = froze (s.reg 0x30010) (freshCoef s) ((s.lane lane).freezes + 1) (s.lane lane) :=
      congrArg (froze _ _ · _) (if_neg hmax)
    exact next_settle ((adaptWindow_adapting hf).trans (onLane_congr ((if_neg (ne_true_of_eq_false hm)).trans hcount)))
  case good => exact next_settle ((adaptWindow_frozen hf).trans (onLane_congr (if_pos hm)))
  case bad => exact next_settle ((adaptWindow_frozen hf).trans (onLane_congr (if_neg (ne_true_of_eq_false hm))))
  case eye => exact next_settle (if_neg (not_not_intro hls))

end Sys2Proof
end

section
/-!
Copies of safety messages (R361 to R372): a copy goes through the checks, and the comparator takes one that passes.
-/
namespace Sys2Proof
open Sys2Proof.Machine
variable {a x : Nat} {raw pl m : Bytes} {envex : Bool} {e : Pend} {s : State}

/-! What counting a checked packet leaves. -/

/-- A write at one key is not seen at another, whatever the map. -/
theorem spGet_spSet_ne {α : Type} [DecidableEq α] (d d' : α) (v : α) (hx : x ≠ a) (l : List (Nat × α)) : spGet d (spSet d' l a v) x = spGet d l x := by
  induction l with
  | nil =>
    unfold spSet
    split
    case isTrue => rfl
    case isFalse => exact if_neg hx
  | cons e t ih =>
    obtain ⟨k, w⟩ := e
    unfold spSet
    split
    case isTrue hbefore =>
      split
      case isTrue => rfl
      case isFalse => exact if_neg hx
    case isFalse =>
      split
      case isTrue hhere =>
        have hk : x ≠ k := hhere ▸ hx
        have hskip : spGet d ((k, w) :: t) x = spGet d t x := if_neg hk
        split
        case isTrue => exact hskip.symm
        case isFalse => exact (if_neg hx).trans hskip.symm
      case isFalse => simp only [spGet, ih]

theorem reg_setReg_ne (v : Word) (hx : x ≠ a) : (s.setReg a v).reg x = s.reg x := spGet_spSet_ne _ _ v hx _

theorem reg_bump_ne (lo n k : Nat) (hx : x ≠ a) : (s.bump a lo n k).reg x = s.reg x := reg_setReg_ne _ hx

/-- The check-value unit of CAN FD counts in its own register. -/
theorem cvCheck_reg (good : Bool) (hx : x ≠ 0xE0034) : (cvCheck 2 good s).reg x = s.reg x := by
  cases good with
  | true => rfl
  | false => exact reg_bump_ne 0 32 1 hx

theorem cvCheck_pathMode (good : Bool) : (cvCheck 2 good s).pathMode = s.pathMode :=
  congrArg (fun w => fld w 0 2) (cvCheck_reg good (by decide))

theorem cvCheck_safe (u : Nat) (good : Bool) : (cvCheck u good s).safe = s.safe := by simp

/-! The checks (R361). -/

/-- A copy has been checked, and counted by its check-value unit. -/
def checked (m : Bytes) (envex : Bool) (s : State) : State := cvCheck 2 (decide (smsgCheck m envex s ≠ 1)) s

section
variable (hp : s.pdIs 8 .on = true)
include hp

theorem smsgEvent_compared (h : smsgCheck m envex s = 0) :
    smsgEvent m envex s = touchDamper s.damper (compareCopy (copyOf m) envex (checked m envex s)) := by
  unfold smsgEvent checked
  simp only [hp, h, Bool.true_eq_false, if_false]
  rfl

/-- What the comparator leaves is what the copy leaves, but for a STILL that it ends. -/
theorem smsgEvent_leaves {t : State} (h : smsgCheck m envex s = 0) (ht : compareCopy (copyOf m) envex (checked m envex s) = t) :
    smsgEvent m envex s = touchDamper s.damper t := (smsgEvent_compared hp h).trans (congrArg (touchDamper s.damper) ht)

/-- A copy for the other side is only counted. -/
theorem smsgEvent_foreign (h : smsgCheck m envex s = 3) :
    smsgEvent m envex s = touchDamper s.damper ((checked m envex s).bump 0xD0098 0 32 1) := by
  unfold smsgEvent checked
  simp only [hp, h, Bool.true_eq_false, if_false]

theorem smsgEvent_refused (h0 : smsgCheck m envex s ≠ 0) (h3 : smsgCheck m envex s ≠ 3) :
    smsgEvent m envex s = touchDamper s.damper (refuseCopy (smsgCheck m envex s) m envex (checked m envex s)) := by
  unfold smsgEvent checked
  rw [if_neg (by rw [hp]; decide)]
  refine congrArg (touchDamper s.damper) ?_
  split
  case h_1 h => exact absurd h h0
  case h_2 h => exact absurd h h3
  case h_3 => rfl

end

/-! The comparator (R363). -/

section
variable {c : SmsgCopy}

/-- With one path in use a copy is verified at once. -/
theorem compareCopy_single (h : s.pathMode ≠ 0) :
    compareCopy c envex s = verify c false (s.onSafe (fun f => { f with seqOpen := Nat.max f.seqOpen (c.seq.toNat + 1) })) := if_pos h

/-- With both, the first copy of a number opens an entry. -/
theorem compareCopy_first (h : s.pathMode = 0) (hnone : s.safe.pend.find? (fun e => e.seq = c.seq) = none) :
    compareCopy c envex s = openPend c envex s := by
  unfold compareCopy
  rw [if_neg (not_not_intro h), hnone]

/-- The second is held against the first. -/
theorem compareCopy_second (h : s.pathMode = 0) (hsome : s.safe.pend.find? (fun e => e.seq = c.seq) = some e) :
    compareCopy c envex s = if e.body = c.body then verify c true (closePend e s) else mismatch e c s := by
  unfold compareCopy
  rw [if_neg (not_not_intro h), hsome]

end

/-! The rows. -/

/-- The rows of the safety messages: the type, not the row, says which message it is. -/
def safetyRows (src : SmsgSrc) : List Instr := [.damperSet src, .beamState src, .safeReq src]

theorem exec_safetyRow {src : SmsgSrc} {c : Instr} (hc : c ∈ safetyRows src) : exec c s = .next (settle (rxSmsg src s)) := by
  simp only [safetyRows, List.mem_cons, List.not_mem_nil, or_false] at hc
  rcases hc with rfl | rfl | rfl <;> rfl

/-- Class 5 goes to the safety block (R110). -/
theorem rxAny_smsg (hF : Framed 5 raw pl s) : rxAny raw s = smsgEvent pl true (received 5 pl s) := by
  unfold rxAny
  rw [linkRx_framed hF]
  rfl

theorem rxSmsg_can (hon : s.canOn = true) : rxSmsg (.can m) s = smsgEvent m false s := if_pos hon

/-- An expired skew window closes its entry. -/
theorem skewTimeoutEvent_pending {seq : Word} (h : s.safe.pend.find? (fun e => e.seq = seq) = some e) : skewTimeoutEvent seq s = expirePend e s := by
  unfold skewTimeoutEvent
  rw [h]

/-- Settles O46: the checks decide first, then the paths in use, then what the comparator holds. -/
theorem safetyCopies : Obligations.SafetyCopies := by
  refine ⟨fun raw pl s hF hp c hc => ?envex, fun m s hon hp c hc => ?can, fun seq e s he => ?skew⟩
  case envex =>
    have hrow : exec c s = .next (settle (smsgEvent pl true (received 5 pl s))) := (exec_safetyRow hc).trans (next_settle (rxAny_smsg hF))
    refine ⟨fun h => ?compared, fun h => ?foreign, fun h0 h3 => ?refused⟩
    case compared => exact hrow.trans (next_settle (smsgEvent_compared hp h))
    case foreign => exact hrow.trans (next_settle (smsgEvent_foreign hp h))
    case refused => exact hrow.trans (next_settle (smsgEvent_refused hp h0 h3))
  case can =>
    have hrow : exec c s = .next (settle (smsgEvent m false s)) := (exec_safetyRow hc).trans (next_settle (rxSmsg_can hon))
    have hpath : (checked m false s).pathMode = s.pathMode := cvCheck_pathMode _
    have hsafe : (checked m false s).safe = s.safe := cvCheck_safe 2 _
    refine ⟨fun h hone => ?single, fun h hdual hnone => ?first, fun e h hdual hsome => ⟨fun heq => ?equal, fun hne => ?different⟩,
      fun h => ?foreign, fun h0 h3 => ?refused⟩
    case single => exact hrow.trans (next_settle (smsgEvent_leaves hp h (compareCopy_single (hpath ▸ hone))))
    case first => exact hrow.trans (next_settle (smsgEvent_leaves hp h (compareCopy_first (hpath.trans hdual) (hsafe ▸ hnone))))
    case equal =>
      exact hrow.trans (next_settle (smsgEvent_leaves hp h ((compareCopy_second (hpath.trans hdual) (hsafe ▸ hsome)).trans (if_pos heq))))
    case different =>
      exact hrow.trans (next_settle (smsgEvent_leaves hp h ((compareCopy_second (hpath.trans hdual) (hsafe ▸ hsome)).trans (if_neg hne))))
    case foreign => exact hrow.trans (next_settle (smsgEvent_foreign hp h))
    case refused => exact hrow.trans (next_settle (smsgEvent_refused hp h0 h3))
  case skew => exact next_settle (skewTimeoutEvent_pending he)

end Sys2Proof
end

section
/-!
Commands that fail a check (R147 to R154, R160, R165, R166, R535): what steps 2 to 9 make of a packet, one lemma for each outcome.
-/
namespace Sys2Proof
open Sys2Proof.Machine
variable {op : Nat} {h : CmdHdr} {ps : Bytes} {p : CmdPkt} {e : LedgerEntry} {s : State} {r : Res}

theorem hostCmd_deaf (hh : s.hears h.path = false) : hostCmd op h ps s = s := by simp [hostCmd, hh]

/-- Settling takes what waits in the queue; upkeep follows. -/
theorem settle_eq (s : State) : settle s = upkeep (drain s) := by
  unfold settle settleWith settleNow upkeep
  rfl

/-- A packet that the Clapper takes goes through steps 2 to 11 at once. -/
theorem hostCmd_taken (hT : Takes s) (hh : s.hears h.path = true) :
    hostCmd op h ps s = follow s.clap.long.length (process (pktOf op h ps s) s) := by
  rw [hostCmd, if_pos hh, settle_eq, drain_arrive hT, if_pos rfl, follow]

/-! Step 2 (R141, R144): the length. -/

theorem pktOf_bad : (pktOf op h ps s).bad = if 4132 < ps.length then some 0xFFFF else none := rfl

theorem pktOf_sound (hl : ps.length ≤ 4132) : (pktOf op h ps s).bad = none := by rw [pktOf_bad, if_neg (Nat.not_lt.mpr hl)]

theorem process_bad (hb : p.bad.isSome = true) : process p s = turnAway p 0x11 s := by rw [process, if_pos hb]

/-! Steps 3 and 4 (R533 to R536): the lockout and the authentication. -/

theorem process_locked (hb : p.bad = none) (ha : s.authRefused p = some 0x1A) : process p s = turnAway p 0x1A s := by
  simp [process, hb, ha]

theorem process_unauthentic (hb : p.bad = none) (ha : s.authRefused p = some 0x15) :
    process p s = turnAway p 0x15 (authFail p.path 0 p.slot.toNat (record bCLAP 2 noUnit s)) := by
  simp [process, hb, ha]

/-! Steps 5 and 6 (R152, R155, R160): the number, the unit and the Ledger. -/

theorem process_authentic (hb : p.bad = none) (ha : s.authRefused p = none) :
    process p s =
      if p.seq.toNat ≤ (s.lastSeq p).toNat then seqRefused p s
      else if s.unitBusy p || (journals p.opcode.toNat && !s.ledgerRoom p) then turnAway p 0x17 s
      else accept p s := by
  simp only [process, hb, ha]
  rfl

theorem process_used (hb : p.bad = none) (ha : s.authRefused p = none) (hu : p.seq.toNat ≤ (s.lastSeq p).toNat) :
    process p s = seqRefused p s := by
  rw [process_authentic hb ha, if_pos hu]

theorem process_busy (hb : p.bad = none) (ha : s.authRefused p = none) (hf : (s.lastSeq p).toNat < p.seq.toNat)
    (hw : s.unitBusy p = true ∨ (journals p.opcode.toNat = true ∧ s.ledgerRoom p = false)) : process p s = turnAway p 0x17 s := by
  rw [process_authentic hb ha, if_neg (Nat.not_le.mpr hf), if_pos (by simpa using hw)]

theorem process_fresh (hb : p.bad = none) (ha : s.authRefused p = none) (hf : (s.lastSeq p).toNat < p.seq.toNat)
    (hu : s.unitBusy p = false) (hr : journals p.opcode.toNat = true → s.ledgerRoom p = true) : process p s = accept p s := by
  rw [process_authentic hb ha, if_neg (Nat.not_le.mpr hf), if_neg (by simpa [hu] using hr)]

/-! A number that has been used (R152): what the newest Ledger entry of the same space and number says. -/

/-- The newest Ledger entry with the packet's space and number. -/
def entryFor (p : CmdPkt) (s : State) : Option LedgerEntry :=
  s.clap.ledger.reverse.find? (fun e => sameSpace e.pkt p && e.pkt.seq == p.seq)

theorem seqRefused_unknown (he : entryFor p s = none) : seqRefused p s = turnAway p 0x16 (record bCLAP 4 noUnit s) := by
  rw [entryFor] at he
  rw [seqRefused, he]

theorem seqRefused_other (he : entryFor p s = some e) (hc : cmdCrc e.pkt ≠ cmdCrc p) :
    seqRefused p s = turnAway p 0x16 (violation p 0x16 0xFFFFFFFF (record bCLAP 4 noUnit s)) := by
  rw [entryFor] at he
  simp [seqRefused, he, hc]

theorem seqRefused_running (he : entryFor p s = some e) (hc : cmdCrc e.pkt = cmdCrc p) (h0 : e.state = 0) :
    seqRefused p s = sendReply p p.path 1 0xFFFF [] true .none s := by
  rw [entryFor] at he
  simp [seqRefused, he, hc, h0]

theorem seqRefused_complete (he : entryFor p s = some e) (hc : cmdCrc e.pkt = cmdCrc p) (h0 : e.state ≠ 0) :
    seqRefused p s = sendReply p p.path (if e.status = 0 then 2 else e.status) e.detail e.data true (.reply e.lseq) s := by
  rw [entryFor] at he
  simp [seqRefused, he, hc, h0]

/-! Steps 7 to 9 (R149, R165, R166). -/

theorem takeSeq_ledgerSeq (p : CmdPkt) (s : State) : (takeSeq p s).clap.ledgerSeq = s.clap.ledgerSeq := by
  unfold takeSeq onSlot
  split <;> rfl

theorem pktOf_opcode (ho : op < 65536) : (pktOf op h ps s).opcode.toNat = op := ctx_op ho

/-- Acceptance uses the number and writes the entry of a journalled row; steps 7 to 11 run on what it leaves. -/
theorem accept_pktOf (ho : op < 65536) : accept (pktOf op h ps s) s = run7 (ctxOf op h ps s) (taken op h ps s) := by
  have ha : accept (pktOf op h ps s) s =
      if journals op then
        run7 ⟨pktOf op h ps s, (journal (pktOf op h ps s) (takeSeq (pktOf op h ps s) s)).2, false, none⟩
          (journal (pktOf op h ps s) (takeSeq (pktOf op h ps s) s)).1
      else run7 ⟨pktOf op h ps s, none, false, none⟩ (takeSeq (pktOf op h ps s) s) := by
    rw [accept, pktOf_opcode ho]
    rfl
  rw [ha]
  cases hj : journals op with
  | false => simp [ctxOf, entryOf, taken, hj]
  | true => simp [ctxOf, entryOf, taken, hj, journal, takeSeq_ledgerSeq]

theorem run7_refused {c : Ctx} (hr : check79 c s = some r) : run7 c s = finish c r s := by
  rw [run7, hr]

/-- Settles O7: each check that fails ends the steps of the packet with its own answer. -/
theorem refusedCommands : Obligations.RefusedCommands := by
  intro c op h ps s hc ho p F
  refine ⟨fun hdeaf => ?deaf, fun hh hT => ?hears⟩
  case deaf => rw [hc, hostCmd_deaf hdeaf]
  have hrun : ∀ t, process p s = t → exec c s = .next (F t) := fun t ht => by rw [hc, hostCmd_taken hT hh, ht]
  refine ⟨fun hl => ?long, fun hl => ?sized⟩
  case long => exact hrun _ (process_bad (by rw [pktOf_bad, if_pos hl]; rfl))
  have hb : p.bad = none := pktOf_sound hl
  have hop : p.opcode.toNat = op := pktOf_opcode ho
  refine ⟨fun ha => ?lockout, fun ha => ?authFail, fun ha hu => ⟨fun he => ?replay, fun e he => ⟨fun hne => ?other, fun heq h0 => ?running,
    fun heq h0 => ?complete⟩⟩, fun ha hf hw => ?busy, fun r ha hf hu hroom hr => ?step79⟩
  case lockout => exact hrun _ (process_locked hb ha)
  case authFail => exact hrun _ (process_unauthentic hb ha)
  case replay => exact hrun _ ((process_used hb ha hu).trans (seqRefused_unknown he))
  case other => exact hrun _ ((process_used hb ha hu).trans (seqRefused_other he hne))
  case running => exact hrun _ ((process_used hb ha hu).trans (seqRefused_running he heq h0))
  case complete => exact hrun _ ((process_used hb ha hu).trans (seqRefused_complete he heq h0))
  case busy => exact hrun _ (process_busy hb ha hf (by rwa [hop]))
  case step79 =>
    exact hrun _ ((process_fresh hb ha hf hu (by rwa [hop])).trans ((accept_pktOf ho).trans (run7_refused hr)))

end Sys2Proof
end

section
/-!
The reply of a command that succeeds, in a state where nothing is pending (R142, R150, R156, R162), and the system queries (R167, R168).
-/
namespace Sys2Proof
open Sys2Proof.Machine
variable {op : Nat} {h : CmdHdr} {ps : Bytes} {s t : State} {r : Res}

/-! What follows a reply that leaves nothing pending. -/

/-- A reply that reports no failure writes no record of a refusal (R143). -/
theorem finish_success (c : Ctx) (hr : r.status < 0x10) (t : State) : finish c r t = finish0 c r t := by
  have hviol : r.status ≠ 0x14 := by omega
  have href : ¬(0x10 ≤ r.status ∧ leNat (r.data.take 4) ≠ 0xFFFFFFFF) := fun hf => Nat.not_le.mpr hr hf.1
  unfold finish
  dsimp only
  rw [if_neg hviol, if_neg href]

/-- In a calm state nothing follows the reply of a command that succeeds. -/
theorem replied_calm (op : Nat) (h : CmdHdr) (ps : Bytes) (s : State) (hr : r.status < 0x10) (hC : Calm t) :
    replied op h ps s r t = finish0 (ctxOf op h ps s) r t ∧ Calm (replied op h ps s r t) := by
  have hviol : r.status ≠ 0x14 := by omega
  have hcalm : Calm (finish (ctxOf op h ps s) r t) := finish_calm _ hviol hC
  rw [replied, follow_calm _ hcalm]
  exact ⟨finish_success _ hr t, hcalm⟩

/-- Settles O12: in a calm state the answer is the completion record and the reply packet, and these leave the rest. -/
theorem repliesLeaveTheRest : Obligations.RepliesLeaveTheRest := by
  intro op h ps s t r hr hC
  obtain ⟨hR, hcalm⟩ := replied_calm op h ps s hr hC
  rw [hR] at hcalm ⊢
  simp [hcalm]

/-! The system queries: their rows are not journalled, so acceptance only uses the number (R148, R152). -/

theorem taken_now : (taken op h ps s).now = s.now := by simp [State.now, State.tabor]

theorem taken_epoch : (taken op h ps s).epoch = s.epoch := by simp [State.epoch, State.tabor]

theorem taken_ledgerSeq_unjournalled (hj : journals op = false) : (taken op h ps s).clap.ledgerSeq = s.clap.ledgerSeq := by
  simp only [taken, hj, Bool.false_eq_true, if_false]
  exact takeSeq_ledgerSeq _ _

theorem taken_release : (taken op h ps s).release = s.release := by
  simp [State.release, imgRelease, imgDelivered, imgNum, imgByte]

theorem infoRecord_taken (hj : journals op = false) : infoRecord (taken op h ps s) = infoRecord s := by
  simp [infoRecord, taken_release, taken_ledgerSeq_unjournalled hj]

theorem opBody_ping (hl : ps.length ≤ 64) :
    opBody 0x001 (bodyCtx (ctxOf 0x001 h ps s)) t = (t, .done (okData (ps ++ natLe 8 t.now ++ leOf 2 t.epoch)) .none) := by
  have hsize : ¬64 < ps.length := Nat.not_lt.mpr hl
  simp only [opBody, bodyPing, bctx_params, hsize, if_false]
  rfl

/-- Settles O14: the three rows are neither journalled nor long, and their bodies answer from the state as it is. -/
theorem systemQueriesReply : Obligations.SystemQueriesReply := by
  intro h ps s
  refine ⟨fun hA => ?nop, fun hA hl => ?ping, fun hA => ?getInfo⟩
  case nop => exact next_replied hA (by decide) rfl (.inl rfl)
  case ping =>
    have hbody := opBody_ping (h := h) (s := s) (t := taken 0x001 h ps s) hl
    rw [taken_now, taken_epoch] at hbody
    exact next_replied hA (by decide) hbody (.inl rfl)
  case getInfo =>
    have hbody : opBody 0x002 (bodyCtx (ctxOf 0x002 h [] s)) (taken 0x002 h [] s) = didData (infoRecord s) (taken 0x002 h [] s) := by
      rw [← infoRecord_taken (op := 0x002) (h := h) (ps := []) rfl]
      rfl
    exact next_replied hA (by decide) hbody (.inl rfl)

end Sys2Proof
end

section
/-!
SCHEDULE_AT (R173, R454): what its body makes of parameters of their form, and a target that has passed.
-/
namespace Sys2Proof
open Sys2Proof.Machine
variable {op : Nat} {h : CmdHdr} {ps : Bytes} {s t : State}

/-- How many epochs ago the epoch of a SCHEDULE_AT was its Tabor's. -/
def epochsBack (ps : Bytes) (t : State) : Nat := ((t.tabor (numAt ps 0 1)).epoch - u16At ps 2).toNat

/-- The parameters name a Tabor, an epoch that it still knows and a command that may be embedded, and the reserved bytes are 0. -/
structure ScheduleForm (ps : Bytes) (t : State) : Prop where
  size : 16 ≤ ps.length
  tabor : numAt ps 0 1 < 4
  resv : byteAt ps 1 = 0
  local3 : numAt ps 0 1 = 3 → epochsBack ps t = 0
  known : epochsBack ps t < (t.tabor (numAt ps 0 1)).offs.length
  embeds : mayEmbed (numAt ps 12 2) = true
  resvEnd : numAt ps 14 2 = 0

/-- The time less the offset of its epoch: the target in the Tabor's own count. -/
def scheduleTarget (ps : Bytes) (t : State) : Int := (numAt ps 4 8 : Int) - (t.tabor (numAt ps 0 1)).offs.getD (epochsBack ps t) 0

/-- What waits: the Tabor, its target, the embedded command, and whether the target has passed. -/
def scheduleKind (late : Bool) (ps : Bytes) (t : State) : LongKind :=
  .schedule (numAt ps 0 1) (scheduleTarget ps t).toNat (u16At ps 12) (ps.drop 16) late

/-- With parameters of their form, only the number of those that wait may refuse. -/
theorem opBody_scheduleAt (hF : ScheduleForm ps t) :
    opBody 0x502 (bodyCtx (ctxOf 0x502 h ps s)) t =
      if 16 ≤ t.scheduled then no (refuse0 0x20) t
      else (t, .later (scheduleKind (decide (scheduleTarget ps t < ((t.tabor (numAt ps 0 1)).ns : Int))) ps t)) := by
  have hsize : ¬ps.length < 16 := Nat.not_lt.mpr hF.size
  have htabor : ¬4 ≤ numAt ps 0 1 := Nat.not_le.mpr hF.tabor
  have hepoch : ¬((numAt ps 0 1 = 3 ∧ epochsBack ps t ≠ 0) ∨ (t.tabor (numAt ps 0 1)).offs.length ≤ epochsBack ps t) := by
    rintro (⟨h3, hback⟩ | hold)
    · exact hback (hF.local3 h3)
    · exact Nat.not_le.mpr hF.known hold
  have hembeds : ¬mayEmbed (numAt ps 12 2) = false := by simp [hF.embeds]
  rw [epochsBack] at hepoch
  unfold opBody bodyScheduleAt
  simp only [bctx_params, hsize, htabor, hF.resv, hepoch, hembeds, hF.resvEnd, ne_eq, not_true_eq_false, if_false]
  rfl

/-- A journalled command whose target has passed enters the queue behind its PENDING, under the number of its Ledger entry. -/
theorem conclude_passed {n g : Nat} {o : BitVec 16} {q : Bytes} (hj : journals op = true) :
    conclude (ctxOf op h ps s) (.later (.schedule n g o q true)) t =
      enqueueDue (s.clap.ledgerSeq + 1) true
        (sendPending (ctxOf op h ps s) (t.onClap (fun c => { c with long := c.long ++ [⟨ctxOf op h ps s, .schedule n g o q true⟩] }))) := by
  have hl : (ctxOf op h ps s).ledger = some (s.clap.ledgerSeq + 1) := if_pos hj
  simp only [conclude, hl]

/-- Settles O29: the count of those that wait refuses first, then the target decides between waiting and the queue. -/
theorem scheduleAtConvertsItsTime : Obligations.ScheduleAtConvertsItsTime := by
  intro h ps s hA T n t back hsize htabor hresv hlocal hknown hembeds hend target k
  have hbody := opBody_scheduleAt (h := h) (s := s) (t := T) ⟨hsize, htabor, hresv, hlocal, hknown, hembeds, hend⟩
  refine ⟨fun hfull => ?full, fun hroom hahead => ?waits, fun hroom hpassed => ?late⟩
  case full => exact next_replied hA (by decide) (hbody.trans (if_pos hfull)) (.inr (by decide))
  case waits =>
    have hnot : decide (scheduleTarget ps T < ((T.tabor (numAt ps 0 1)).ns : Int)) = false := decide_eq_false (Int.not_lt.mpr hahead)
    rw [if_neg (Nat.not_le.mpr hroom), hnot] at hbody
    exact next_started hA (by decide) hbody (by simp [k])
  case late =>
    have hyes : decide (scheduleTarget ps T < ((T.tabor (numAt ps 0 1)).ns : Int)) = true := decide_eq_true hpassed
    rw [if_neg (Nat.not_le.mpr hroom), hyes] at hbody
    refine congrArg Host.Outcome.next ?_
    rw [hostCmd_admitted hA (by decide), hbody, scheduleKind, conclude_passed rfl]
    rfl

end Sys2Proof
end

section
/-!
CAL_RUN (R172, R460, R478): what its body makes of parameters of their form, and the start of each unit's run.
-/
namespace Sys2Proof
open Sys2Proof.Machine
variable {h : CmdHdr} {ps : Bytes} {s t : State} {top st coef step win : Nat} {tc : Int}

/-- The parameters name a unit and a mode that exist, and the reserved bytes are 0; `top` is the unit's largest index. -/
structure CalForm (ps : Bytes) (top : Nat) : Prop where
  size : 4 ≤ ps.length
  unit : calIndexMax (numAt ps 0 1) = some top
  mode : calMode (numAt ps 0 1) (numAt ps 1 1) = true
  resv2 : numAt ps 2 1 = 0
  resv3 : numAt ps 3 1 = 0

/-- The status with which the unit's condition refuses the run, for the index that it would take (log entry 41). -/
def calRefusal (ps : Bytes) (top : Nat) (t : State) : Option Nat :=
  calState (numAt ps 0 1) (numAt ps 1 1) (Config.calIndex t.freeIdx ps % (top + 1)) t

/-- The run of unit u with index i, in mode m and with the parameters of an UPDATE. -/
def calStart (u m i coef step : Nat) (tc : Int) (win : Nat) (t : State) : State × Ans :=
  if u = 0 then (if t.link.active.getLsbD i then dropLane i t.freeNext else t.freeNext, .later (.calLane i))
  else if u = 1 then (t.freeNext, .later (.calSlice i))
  else if u = 2 then (t, .later (.calHk (t.hk.updates + 16)))
  else if u = 5 then (t, .later .calXo)
  else if m = 0 then didData (calBytes 4 0 ((baseline t).calRec 4 0)) (baseline t)
  else (agingUpdate coef step tc win t, .later .calGain)

theorem opBody_calRun_refused (hF : CalForm ps top) (hs : calRefusal ps top t = some st) :
    opBody 0x400 (bodyCtx (ctxOf 0x400 h ps s)) t = no (refuse0 st) t := by
  have hsize : ¬ps.length < 4 := Nat.not_lt.mpr hF.size
  rw [calRefusal] at hs
  unfold opBody bodyCalRun
  simp only [bctx_params, hsize, hF.unit, hF.mode, hF.resv2, hF.resv3, hs, ne_eq, not_true_eq_false, Bool.true_eq_false, if_false]

/-- The four bytes alone, or an UPDATE with expert values: what the parameters may hold beyond them (R475, R478). -/
def CalTail (h : CmdHdr) (ps : Bytes) (s : State) : Prop :=
  ps.length = 4 ∨ (numAt ps 0 1 = 4 ∧ numAt ps 1 1 = 1 ∧ ps.length = 9 ∧ expertOf h s = true)

theorem opBody_calRun_starts (hF : CalForm ps top) (hs : calRefusal ps top t = none) (hT : CalTail h ps s)
    (hu : updateParams ps = .ok (coef, step, tc, win)) :
    opBody 0x400 (bodyCtx (ctxOf 0x400 h ps s)) t =
      calStart (numAt ps 0 1) (numAt ps 1 1) (Config.calIndex t.freeIdx ps % (top + 1)) coef step tc win t := by
  have hsize : ¬ps.length < 4 := Nat.not_lt.mpr hF.size
  have hlong : ¬(ps.length ≠ 4 ∧ (numAt ps 0 1 ≠ 4 ∨ numAt ps 1 1 ≠ 1)) := by
    rcases hT with h4 | ⟨hu4, hm1, -, -⟩
    · exact fun hn => hn.1 h4
    · exact fun hn => hn.2.elim (absurd hu4) (absurd hm1)
  have hlen : ¬(ps.length ≠ 4 ∧ ps.length ≠ 9) := by
    rcases hT with h4 | ⟨-, -, h9, -⟩
    · exact fun hn => hn.1 h4
    · exact fun hn => hn.2 h9
  have hexpert : ¬(ps.length = 9 ∧ expertOf h s = false) := by
    rcases hT with h4 | ⟨-, -, -, he⟩
    · exact fun hn => by omega
    · exact fun hn => Bool.false_ne_true (hn.2.symm.trans he)
  rw [calRefusal] at hs
  unfold opBody bodyCalRun
  simp only [bctx_params, bctx_expert, hsize, hF.unit, hF.mode, hF.resv2, hF.resv3, hs, hlong, hlen, hexpert, hu, ne_eq, not_true_eq_false,
    Bool.true_eq_false, if_false]
  rfl

/-- The parameters of an UPDATE that gives none (R475). -/
theorem updateParams_standard (h4 : ps.length = 4) : updateParams ps = .ok (328, 13, -15, 20) := if_pos h4

/-- A unit's condition refuses with BAD_STATE or FENCED, which are failures. -/
theorem calState_failure {u m i : Nat} (hs : calState u m i t = some st) : 0x10 ≤ st := by
  have hst : st = 0x12 ∨ st = 0x30 := by
    unfold calState at hs
    dsimp only at hs
    (repeat' split at hs) <;> simp_all
  omega

/-- Settles O26: the unit's condition refuses first, then the unit and the mode say which run starts. -/
theorem calRunByUnit : Obligations.CalRunByUnit := by
  intro h ps s top hA T u m i hsize hunit hmode hr2 hr3
  have hF : CalForm ps top := ⟨hsize, hunit, hmode, hr2, hr3⟩
  refine ⟨fun st hst => ?refused, fun hst h4 => ?standard,
    fun hst (hu : numAt ps 0 1 = 4) (hm : numAt ps 1 1 = 1) h9 he coef step tc win hupd => ?expert⟩
  case refused => exact next_replied hA (by decide) (opBody_calRun_refused hF hst) (.inr (calState_failure hst))
  case standard =>
    have hbody := opBody_calRun_starts (h := h) (s := s) hF hst (.inl h4) (updateParams_standard h4)
    refine ⟨fun (hu : numAt ps 0 1 = 0) => ?lane, fun (hu : numAt ps 0 1 = 1) => ?slice, fun (hu : numAt ps 0 1 = 2) => ?hk,
      fun (hu : numAt ps 0 1 = 5) => ?crystal, fun (hu : numAt ps 0 1 = 4) (hm : numAt ps 1 1 = 0) => ?baseline,
      fun (hu : numAt ps 0 1 = 4) (hm : numAt ps 1 1 = 1) => ?update⟩
    case lane => rw [hu] at hbody; exact next_started hA (by decide) hbody (by simp)
    case slice => rw [hu] at hbody; exact next_started hA (by decide) hbody (by simp)
    case hk => rw [hu] at hbody; exact next_started hA (by decide) hbody (by simp)
    case crystal => rw [hu] at hbody; exact next_started hA (by decide) hbody (by simp)
    case baseline => rw [hu, hm] at hbody; exact next_repliedLong hA (by decide) hbody rfl (Nat.zero_lt_succ _)
    case update => rw [hu, hm] at hbody; exact next_started hA (by decide) hbody (by simp)
  case expert =>
    have hbody := opBody_calRun_starts (h := h) (s := s) hF hst (.inr ⟨hu, hm, h9, he⟩) hupd
    rw [hu, hm] at hbody
    exact next_started hA (by decide) hbody (by simp)

end Sys2Proof
end

section
/-!
LIGHT_ON (R58, R169, R267, R293, R375): what starting the light sets, and what the change of state after it leaves.
-/
namespace Sys2Proof
open Sys2Proof.Machine
variable {h : CmdHdr} {f : Byte} {s t : State}

/-- The frame code of LIGHT_ON is set where its length is not 0 (R452). -/
def lightFrameCode (f : Byte) (t : State) : State := (fCode f.toNat).elim t (fun k => setFrameCode k t)

/-- Scanning starts with fresh governor and current factors, and without a Damper set. -/
def lightStarted (t : State) : State := safeLightOn (freshLight (startScan t))

/-- READY is left for LIT, or for DEGRADED with a cause in force; SERVICE stays. -/
def lightEntered (t : State) : State := if t.sys.st = .ready then enterLit t else syncOwner (litEntered t)

/-- The light is scanned, with nothing left of what was shown before. -/
structure FreshLight (t : State) : Prop where
  scanning : t.mal.scanning = true
  stopDue : t.mal.stopDue = false
  gongSegs : t.mal.gongSegs = 0
  gov : t.pix.gov = 65536
  setA : t.safe.setA = none
  setB : t.safe.setB = none
  beamAdb : t.safe.beamAdb = false

/-! What the start sets. -/

theorem lightStarted_fresh (t : State) : FreshLight (lightStarted t) := by
  constructor <;> simp [lightStarted, safeLightOn, armRefresh, freshLight, startScan]

theorem lightStarted_sys (t : State) : (lightStarted t).sys = t.sys := by
  simp [lightStarted, safeLightOn, armRefresh, freshLight, startScan]

theorem lightStarted_causes (t : State) : (lightStarted t).safe.causes = t.safe.causes := by
  simp [lightStarted, safeLightOn, armRefresh, freshLight, startScan]

/-! What entering a state leaves. -/

theorem FreshLight.enterState (hF : FreshLight t) (n : DevState) : FreshLight (enterState n t) := by
  obtain ⟨hscan, hstop, hsegs, hgov, ha, hb, hbeam⟩ := hF
  constructor <;> simpa

theorem FreshLight.syncOwner (hF : FreshLight t) : FreshLight (syncOwner t) := by
  obtain ⟨hscan, hstop, hsegs, hgov, ha, hb, hbeam⟩ := hF
  constructor <;> simpa

theorem FreshLight.litEntered (hF : FreshLight t) : FreshLight (litEntered t) :=
  ⟨hF.scanning, hF.stopDue, hF.gongSegs, hF.gov, hF.setA, hF.setB, hF.beamAdb⟩

theorem FreshLight.enterLit (hF : FreshLight t) : FreshLight (enterLit t) := by
  have hlit := hF.litEntered.enterState .lit
  unfold Machine.enterLit
  dsimp only
  split
  · exact hlit
  · exact hlit.enterState .degraded

theorem FreshLight.lightEntered (hF : FreshLight t) : FreshLight (lightEntered t) := by
  unfold Sys2Proof.lightEntered
  split
  · exact hF.enterLit
  · exact hF.litEntered.syncOwner

/-- LIT, or DEGRADED while a cause is in force (R375). -/
theorem enterLit_st (t : State) : (enterLit t).sys.st = if t.safe.causes = 0 then .lit else .degraded := by
  have hcauses : (enterState .lit (litEntered t)).safe.causes = t.safe.causes := by simp [litEntered]
  unfold enterLit
  dsimp only
  rw [hcauses]
  split <;> simp

/-! The body. -/

theorem opBody_lightOn (hl : t.lightForbidden = false) (hf : f = 0 ∨ f = 10 ∨ f = 20 ∨ f = 40 ∨ f = 80) :
    opBody 0x100 (bodyCtx (ctxOf 0x100 h [f] s)) t =
      if (lightFrameCode f t).sys.st = .gong then no (refuse0 0x12) (lightFrameCode f t)
      else (lightEntered (lightStarted (lightFrameCode f t)), .later .lightOn) := by
  unfold opBody bodyLightOn
  simp only [bctx_params, hl, Bool.false_eq_true, if_false]
  rcases hf with rfl | rfl | rfl | rfl | rfl <;> rfl

/-- Settles O16: the frame code decides between GONG and the start of the light, and the light that starts stays as it is. -/
theorem lightOnStartsScanning : Obligations.LightOnStartsScanning := by
  intro h f s hA hl hf T A X E
  have hbody := opBody_lightOn (h := h) (s := s) (t := T) (taken_lightForbidden.trans hl) hf
  have hE : lightEntered (lightStarted A) = E := by rw [lightEntered, lightStarted_sys]; rfl
  obtain ⟨hscan, hstop, hsegs, hgov, ha, hb, hbeam⟩ := hE ▸ (lightStarted_fresh A).lightEntered
  refine ⟨fun hgong => ?gong, fun hgong => ?starts, hscan, hstop, hsegs, hgov, ha, hb, hbeam, fun hready => ?state⟩
  case gong => exact next_replied hA (by decide) (hbody.trans (if_pos hgong)) (.inr (by decide))
  case starts => exact next_started hA (by decide) (hbody.trans ((if_neg hgong).trans (congrArg (·, Ans.later .lightOn) hE))) (by simp)
  case state =>
    have hlit : E = enterLit (lightStarted A) := if_pos hready
    rw [hlit, enterLit_st, lightStarted_causes]

end Sys2Proof
end

section
/-!
What every step keeps (R185, R187, R196, R199, R202, R523, R540): each command answers with a next state, and what Sound says is part of
what every command keeps.
-/
namespace Sys2Proof
open Sys2Proof.Machine
variable {h : CmdHdr} {ps : Bytes} {s t : State}

/-- No command ends in a fault or a refusal: every row has its effect. -/
theorem exec_next (c : Instr) (s : State) : ∃ t, exec c s = .next t := by
  cases c <;> exact ⟨_, rfl⟩

theorem Machine.Keeps.sound (hk : Keeps s t) (hS : Sound s) : Sound t where
  store := hk.store hS.store
  images := hk.images hS.images
  commits := hk.commits hS.commits
  slots := hk.slots.trans hS.slots
  bufs := hk.bufs hS.bufs
  fences := hk.fences hS.fences

/-- A step keeps what Keeps says, from the state without the command that it takes from the queue. -/
theorem step_keeps (h : step s = .next t) : Keeps { s with pending := t.pending } t := by
  cases hp : s.pending with
  | nil =>
    have hk : Keeps s t := Host.Outcome.next.inj ((step_idle hp).symm.trans h) ▸ Keeps.of_core (tick_core s) Keeps.rfl'
    rw [hk.pending]
    exact hk
  | cons c rest =>
    have hk : Keeps { s with pending := rest } t := exec_keeps c _ t ((step_front hp).symm.trans h)
    rw [hk.pending]
    exact hk

/-- The queue of waiting commands does not enter into Sound. -/
theorem Sound.withPending (hS : Sound s) (q : List Instr) : Sound { s with pending := q } :=
  ⟨hS.store, hS.images, hS.commits, hS.slots, hS.bufs, hS.fences⟩

/-- Settles O4: Sound is part of what every command and every tick keeps. -/
theorem stepsKeepSound : Obligations.StepsKeepSound := by
  refine ⟨fun c s => ?command, fun s t hS h => (step_keeps h).sound (hS.withPending _)⟩
  obtain ⟨t, ht⟩ := exec_next c s
  have hk := exec_keeps c s t ht
  exact ⟨t, ht, hk.pending, hk.sound⟩

/-! The bound of the commit queue (R202). -/

/-- A COMMIT needs room in the commit queue (R155, R202). -/
theorem unitBusy_commit (hq : 4 ≤ s.store.queue.length) : s.unitBusy (pktOf 0x206 h ps s) = true := by
  have hop : (pktOf 0x206 h ps s).opcode.toNat = 0x206 := pktOf_opcode (by decide)
  simp [State.unitBusy, hop, hq]

/-- A packet that is turned away uses no number: it may be sent again under the same one (R202). -/
theorem turnAway_lastSeq (p q : CmdPkt) (st : Nat) (s : State) : (turnAway q st s).lastSeq p = s.lastSeq p := by
  simp [State.lastSeq, turnAway]

/-- Settles O8: the bound is part of what every step keeps, and a full queue makes the unit of COMMIT busy. -/
theorem commitQueueHoldsFour : Obligations.CommitQueueHoldsFour := by
  refine ⟨fun s t hq h => (step_keeps h).commits hq, fun h ps s hh hT hl ha hf hq => ⟨?busy, turnAway_lastSeq _ _ _ _⟩⟩
  have hbusy : process (pktOf 0x206 h ps s) s = turnAway (pktOf 0x206 h ps s) 0x17 s :=
    process_busy (pktOf_sound hl) ha hf (.inl (unitBusy_commit (Nat.le_of_eq hq.symm)))
  exact congrArg Host.Outcome.next ((hostCmd_taken hT hh).trans (congrArg _ hbusy))

end Sys2Proof
end

section
/-!
Buffers and fences by command (R183 to R186, R196, R197, R210): what each body makes of parameters of its form.
-/
namespace Sys2Proof
open Sys2Proof.Machine
variable {h : CmdHdr} {ps : Bytes} {n t : Byte} {s T : State} {g i : Nat}

/-! BUF_ALLOC (R183 to R185). -/

/-- Granules that a number of bytes takes (R184). -/
def granulesFor (size : Nat) : Nat := (size + granule - 1) / granule

/-- The lowest free index (R185). -/
def freeIndex (T : State) : Option Nat := (List.range 256).find? (fun i => !(T.buf i).live)

/-- A buffer of a number of bytes from granule g on: the generation of its index stays (R185, R186). -/
def allocated (g size : Nat) (b : Buf) : Buf :=
  { b with live := true, start := g, grans := granulesFor size, extent := (size + 3) / 4 * 4, pendFree := false, snoop := 0, next := 0, acc := 0 }

/-- What BUF_ALLOC asks for: four bytes, 1 to 16,777,216 bytes of memory. -/
structure AllocForm (ps : Bytes) : Prop where
  size : ps.length = 4
  low : 1 ≤ numAt ps 0 4
  high : numAt ps 0 4 ≤ 16777216

/-- The size check of BUF_ALLOC lets it pass. -/
theorem AllocForm.passes (hF : AllocForm ps) : ¬(numAt ps 0 4 < 1 ∨ 16777216 < numAt ps 0 4) := by
  obtain ⟨-, hlow, hhigh⟩ := hF
  omega

theorem opBody_bufAlloc_placed (hF : AllocForm ps) (hg : T.firstFit (granulesFor (numAt ps 0 4)) = some g) (hi : freeIndex T = some i) :
    opBody 0x200 (bodyCtx (ctxOf 0x200 h ps s)) T =
      didData (leOf 2 (BitVec.ofNat 16 (i + 256 * (T.buf i).gen.toNat)) ++ natLe 4 (storeBase + granule * g))
        (onBuf i (fun _ => allocated g (numAt ps 0 4) (T.buf i)) T) := by
  rw [granulesFor] at hg
  rw [freeIndex] at hi
  unfold opBody bodyBufAlloc
  simp only [bctx_params, hF.size, hF.passes, hg, hi, ne_eq, not_true_eq_false, if_false, Nat.mul_comm granule g]
  rfl

theorem opBody_bufAlloc_full (hF : AllocForm ps) (hn : T.firstFit (granulesFor (numAt ps 0 4)) = none ∨ freeIndex T = none) :
    opBody 0x200 (bodyCtx (ctxOf 0x200 h ps s)) T = no (refuse0 0x20) T := by
  rw [granulesFor, freeIndex] at hn
  unfold opBody bodyBufAlloc
  simp only [bctx_params, hF.size, hF.passes, ne_eq, not_true_eq_false, if_false]
  rcases hn with hn | hn
  · rw [hn]
  · rw [hn]
    cases T.firstFit ((numAt ps 0 4 + granule - 1) / granule) <;> rfl

/-! BUF_FREE (R185, R210). -/

theorem opBody_bufFree_stale (h2 : ps.length = 2) (hc : T.current (u16At ps 0) = none) :
    opBody 0x201 (bodyCtx (ctxOf 0x201 h ps s)) T = no (refuse 0x14 0 0xFFFFFFFF) T := by
  unfold opBody bodyBufFree
  simp only [bctx_params, h2, hc, ne_eq, not_true_eq_false, if_false]

theorem opBody_bufFree_current (h2 : ps.length = 2) (hc : T.current (u16At ps 0) = some i) :
    opBody 0x201 (bodyCtx (ctxOf 0x201 h ps s)) T =
      if (T.buf i).pendFree || T.referred (u16At ps 0) then (onBuf i (fun b => { b with pendFree := true }) T, .done { ok with status := 3 } .none)
      else did (releaseBuf i T) := by
  unfold opBody bodyBufFree
  simp only [bctx_params, h2, hc, ne_eq, not_true_eq_false, if_false]

/-- Settles O19: a free run and a free index decide an allocation, the handle and what refers to its buffer a release. -/
theorem bufferCommands : Obligations.BufferCommands := by
  intro h ps s
  refine ⟨fun hA h4 hlo hhi => ⟨fun g i hg hi => ?placed, fun hn => ?full⟩,
    fun hA h2 => ⟨fun hc => ?stale, fun i hc => ⟨fun hr => ?deferred, fun hr => ?released⟩⟩⟩
  case placed => exact next_replied hA (by decide) (opBody_bufAlloc_placed ⟨h4, hlo, hhi⟩ hg hi) (.inl rfl)
  case full => exact next_replied hA (by decide) (opBody_bufAlloc_full ⟨h4, hlo, hhi⟩ hn) (.inl rfl)
  case stale => exact next_replied hA (by decide) (opBody_bufFree_stale h2 hc) (.inl rfl)
  case deferred => exact next_replied hA (by decide) ((opBody_bufFree_current h2 hc).trans (if_pos hr)) (.inl rfl)
  case released =>
    exact next_replied hA (by decide) ((opBody_bufFree_current h2 hc).trans (if_neg (ne_true_of_eq_false hr))) (.inl rfl)

/-! FENCE_ARM and FENCE_SIGNAL (R196, R197). -/

theorem taken_fence {op : Nat} (k : Nat) : (taken op h ps s).fence k = s.fence k := by simp [State.fence]

theorem taken_signalFence {op : Nat} (k : Nat) :
    signalFence k (taken op h ps s) =
      setFence k { s.fence k with st := .signalled, since := (s.tabor 2).count } (taken op h ps s) := by
  simp [signalFence, taken_fence, State.tabor]

theorem opBody_fenceArm (hn : n.toNat < 64) :
    opBody 0x204 (bodyCtx (ctxOf 0x204 h [n, t] s)) T =
      if T.fenceQueued n.toNat then no (badParam 0) T
      else did (setFence n.toNat ⟨.armed, if t = 0 then 3 else t.toNat, 0⟩ T) := by
  have hfirst : numAt [n, t] 0 1 = n.toNat := numAt_one _ 0
  have hsecond : numAt [n, t] 1 1 = t.toNat := numAt_one _ 1
  have hzero : t.toNat = 0 ↔ t = 0 := (BitVec.toNat_eq (x := t) (y := 0)).symm
  have hrange : ¬64 ≤ n.toNat := Nat.not_le.mpr hn
  unfold opBody bodyFenceArm
  simp only [bctx_params, hfirst, hsecond, hzero, hrange, List.length_cons, List.length_nil, ne_eq, not_true_eq_false, if_false]

theorem opBody_fenceSignal (hn : n.toNat < 64) :
    opBody 0x205 (bodyCtx (ctxOf 0x205 h [n] s)) T =
      if (T.fence n.toNat).st = .armed then did (signalFence n.toNat T)
      else if (T.fence n.toNat).st = .timedOut then no (refuse0 0x19) (setFence n.toNat fenceFree T)
      else no (badParam 0) T := by
  have hfirst : numAt [n] 0 1 = n.toNat := numAt_one _ 0
  have hrange : ¬64 ≤ n.toNat := Nat.not_le.mpr hn
  unfold opBody bodyFenceSignal
  simp only [bctx_params, hfirst, hrange, List.length_cons, List.length_nil, ne_eq, not_true_eq_false, if_false]
  cases (T.fence n.toNat).st <;> rfl

/-- Settles O21: the queue decides whether a fence may be armed, its state what a signal does. -/
theorem fenceCommands : Obligations.FenceCommands := by
  intro h n t s hn
  refine ⟨fun hA => ⟨fun hq => ?armed, fun hq => ?waitedFor⟩,
    fun hA => ⟨fun (hst : (s.fence n.toNat).st = .armed) => ?signalled, fun (hst : (s.fence n.toNat).st = .timedOut) => ?freed,
      fun (hst : (s.fence n.toNat).st = .free ∨ (s.fence n.toNat).st = .signalled) => ?refused⟩⟩
  case armed => exact next_replied hA (by decide) ((opBody_fenceArm hn).trans (if_neg (ne_true_of_eq_false hq))) (.inl rfl)
  case waitedFor => exact next_replied hA (by decide) ((opBody_fenceArm hn).trans (if_pos hq)) (.inl rfl)
  all_goals
    have hbody := opBody_fenceSignal (h := h) (s := s) (T := taken 0x205 h [n] s) hn
    rw [taken_fence, taken_signalFence] at hbody
  case signalled => exact next_replied hA (by decide) (hbody.trans (if_pos hst)) (.inl rfl)
  case freed =>
    rw [hst] at hbody
    exact next_replied hA (by decide) hbody (.inl rfl)
  case refused =>
    rcases hst with hst | hst
    all_goals
      rw [hst] at hbody
      exact next_replied hA (by decide) hbody (.inl rfl)

end Sys2Proof
end

section
/-!
The commands that write the shadow (R192 to R195, R243) and COMMIT (R199, R200, R202, R585, R588).
-/
namespace Sys2Proof
open Sys2Proof.Machine
variable {h : CmdHdr} {ps : Bytes} {g k : Byte} {s T : State}

/-! LAYER_SET, LAYER_GROUP and WRITEBACK_SET. -/

/-- What LAYER_SET asks for before the record: a layer that exists, and reserved bytes of 0. -/
structure LayerForm (ps : Bytes) : Prop where
  size : ps.length = 36
  layer : numAt ps 0 1 < 8
  resv : findIdx? (fun x => x != 0) (sliceB ps 1 3) = none

/-- The eight words of a layer record. -/
def recordWords (b : Bytes) : List Word := (List.range 8).map (fun k => u32At b (4 * k))

theorem opBody_layerSet_refused {off st : Nat} (hF : LayerForm ps) (hb : recBad (numAt ps 0 1) (ps.drop 4) (expertOf h s) T = some (off, st)) :
    opBody 0x202 (bodyCtx (ctxOf 0x202 h ps s)) T = no (refuse st (off + 4) (lyAddr (numAt ps 0 1) (off / 4))) T := by
  have hlayer : ¬8 ≤ numAt ps 0 1 := Nat.not_le.mpr hF.layer
  unfold opBody bodyLayerSet
  simp only [bctx_params, bctx_expert, hF.size, hlayer, hF.resv, hb, ne_eq, not_true_eq_false, if_false]

theorem opBody_layerSet_written (hF : LayerForm ps) (hb : recBad (numAt ps 0 1) (ps.drop 4) (expertOf h s) T = none) :
    opBody 0x202 (bodyCtx (ctxOf 0x202 h ps s)) T =
      did (onShadow (fun m => putRec m (numAt ps 0 1) (recordWords (ps.drop 4))) T) := by
  have hlayer : ¬8 ≤ numAt ps 0 1 := Nat.not_le.mpr hF.layer
  unfold opBody bodyLayerSet
  simp only [bctx_params, bctx_expert, hF.size, hlayer, hF.resv, hb, ne_eq, not_true_eq_false, if_false]
  rfl

/-- The word of the group masks after layers have joined a group: they leave every other one (R195). -/
def groupWord (g k : Byte) (m : ShMap) : Word :=
  BitVec.ofNat 32 (leNat (((groupsOf m).map (fun x => x &&& ~~~k)).set g.toNat k))

theorem opBody_layerGroup (hg : g.toNat < 4) :
    opBody 0x203 (bodyCtx (ctxOf 0x203 h [g, k] s)) T = did (onShadow (fun m => shPut m 0x60060 (groupWord g k m)) T) := by
  have hgroup : numAt [g, k] 0 1 = g.toNat := numAt_one _ 0
  have hrange : ¬4 ≤ g.toNat := Nat.not_le.mpr hg
  unfold opBody bodyLayerGroup
  simp only [bctx_params, hgroup, hrange, List.length_cons, List.length_nil, ne_eq, not_true_eq_false, if_false]
  rfl

/-- The four words of the write-back route that a record gives (R243). -/
def putRoute (ps : Bytes) (m : ShMap) : ShMap :=
  shPut (shPut (shPut (shPut m 0x60030 (BitVec.ofNat 32 (numAt ps 0 2))) 0x60034 (BitVec.ofNat 32 (numAt ps 4 2)))
    0x60038 (BitVec.ofNat 32 (numAt ps 8 4))) 0x6003C (BitVec.ofNat 32 (numAt ps 12 2))

theorem opBody_writebackSet (h16 : ps.length = 16) (hr : firstBad (routeRules ps) = none) (he : byteAt ps 1 = 0 ∨ expertOf h s = true) :
    opBody 0x207 (bodyCtx (ctxOf 0x207 h ps s)) T = did (onShadow (putRoute ps) T) := by
  have hexpert : ¬(byteAt ps 1 ≠ 0 ∧ expertOf h s = false) := by
    rintro ⟨hne, hno⟩
    exact he.elim hne (by simp [hno])
  unfold opBody bodyWritebackSet
  simp only [bctx_params, bctx_expert, h16, hr, hexpert, ne_eq, not_true_eq_false, if_false]
  rfl

/-- Settles O20: the field checks decide whether the record reaches the shadow; a group mask and a route reach it as they are. -/
theorem layerCommandsWriteShadow : Obligations.LayerCommandsWriteShadow := by
  intro h ps s
  refine ⟨fun hA h36 hn hr => ⟨fun hb => ?written, fun off st hb => ?refused⟩, fun g k hA hg => ?group, fun hA h16 hr he => ?route⟩
  case written => exact next_replied hA (by decide) (opBody_layerSet_written ⟨h36, hn, hr⟩ hb) (.inl rfl)
  case refused => exact next_replied hA (by decide) (opBody_layerSet_refused ⟨h36, hn, hr⟩ hb) (.inl rfl)
  case group => exact next_replied hA (by decide) (opBody_layerGroup hg) (.inl rfl)
  case route => exact next_replied hA (by decide) (opBody_writebackSet h16 hr he) (.inl rfl)

/-! COMMIT. -/

theorem opBody_commit (hq : T.store.queue.length < 4) :
    opBody 0x206 (bodyCtx (ctxOf 0x206 h [0] s)) T =
      (commitCheck T.commitSh T).elim
        (didData (leOf 4 (s.clap.ledgerSeq + 1)) (acceptCommit (s.clap.ledgerSeq + 1) T))
        (fun e => no (refuse e.1 0xFFFF e.2) T) := by
  have hroom : ¬4 ≤ T.store.queue.length := Nat.not_le.mpr hq
  have hzero : byteAt [0] 0 = 0 := rfl
  have hledger : entryOf 0x206 s = some (s.clap.ledgerSeq + 1) := if_pos rfl
  unfold opBody bodyCommit
  simp only [bctx_params, bctx_ledger, hroom, hzero, hledger, List.length_cons, List.length_nil, ne_eq, not_true_eq_false, if_false,
    Option.getD_some]
  cases commitCheck T.commitSh T <;> rfl

/-- The entry that an accepted commit appends (R199). -/
def commitEntry (l : Word) (T : State) : QEntry :=
  { lseq := l, sh := T.commitSh, tabs := T.store.openGens,
    changed := changedOf ((T.store.queue.getLast?.map (·.sh)).getD T.store.committed) T.commitSh,
    latched := false, waiting := 0, age := 0, lateAny := false, since := (T.tabor 2).count }

/-- The Layer Store after an accepted commit: its entry is queued, its shadow written back and the open generations closed; the stored
tables and a STILL that ends leave it alone (R200, R585, R588). -/
theorem acceptCommit_store (l : Word) (T : State) :
    (acceptCommit l T).store =
      { T.store with queue := T.store.queue ++ [commitEntry l T], shadow := T.commitSh, openGens := [] } := by
  unfold acceptCommit
  dsimp only
  split <;> simp [storeTabs_store, commitEntry]

/-- Settles O22, with the timing words that the commit takes as log entry 37 says: a full queue has been turned away before,
so that the validation decides between the entry and the refusal. -/
theorem commitQueuesTheShadow : Obligations.CommitQueuesTheShadow := by
  intro h s hA hq T l
  have hstore : T.store = s.store := by simp [T]
  have hbody := opBody_commit (h := h) (s := s) (T := T) (by rw [hstore]; exact hq)
  refine ⟨fun hok => ?accepted, fun st a hbad => ?refused⟩
  case accepted =>
    rw [hok] at hbody
    refine ⟨next_replied hA (by decide) hbody (.inl rfl), ?_⟩
    rw [acceptCommit_store, hstore]
    exact ⟨rfl, rfl, rfl, commitEntry l T, rfl, rfl, rfl, congrArg Store.openGens hstore, rfl⟩
  case refused =>
    rw [hbad] at hbody
    exact next_replied hA (by decide) hbody (.inl rfl)

end Sys2Proof
end

section
/-!
FRAME_RECORD_GET, FLOOR_GET and ROLL_MAP_READ (R213, R214, R258, R334): what each body reads for parameters of its form.
-/
namespace Sys2Proof
open Sys2Proof.Machine
variable {h : CmdHdr} {ps : Bytes} {s T : State} {r : FrameRec}

/-! FRAME_RECORD_GET: its row is not journalled, and acceptance leaves the records and the kept factors as they are. -/

theorem taken_findRec {op : Nat} (n : Word) : (taken op h ps s).findRec n = s.findRec n := by simp [State.findRec]

/-- What FRAME_RECORD_GET asks for: a part that exists, and no frame on show where none is shown (R214). -/
structure RecordForm (ps : Bytes) (T : State) : Prop where
  size : ps.length = 5
  part : numAt ps 4 1 ≤ 3
  shown : ¬(u32At ps 0 = 0xFFFFFFFF ∧ (T.sys.st = .ready ∨ T.sys.st = .gong))

theorem opBody_frameRecordGet_unknown (hF : RecordForm ps T) (hr : T.findRec (u32At ps 0) = none) :
    opBody 0x208 (bodyCtx (ctxOf 0x208 h ps s)) T = no (badParam 0) T := by
  have hpart : ¬3 < numAt ps 4 1 := Nat.not_lt.mpr hF.part
  unfold opBody bodyFrameRecordGet
  simp only [bctx_params, hF.size, hpart, hF.shown, hr, ne_eq, not_true_eq_false, if_false]

theorem opBody_frameRecordGet_found (hF : RecordForm ps T) (hr : T.findRec (u32At ps 0) = some r) :
    opBody 0x208 (bodyCtx (ctxOf 0x208 h ps s)) T =
      if numAt ps 4 1 = 0 then didData (recBytes r) T
      else (T.pwr.kept.find? (fun k => k.1 = r.derGen)).elim (no (badParam 4) T)
        (fun k => didData (recBytes r ++ derBytes k.2.1 (3072 * (numAt ps 4 1 - 1)) 3072) T) := by
  have hpart : ¬3 < numAt ps 4 1 := Nat.not_lt.mpr hF.part
  unfold opBody bodyFrameRecordGet
  simp only [bctx_params, hF.size, hpart, hF.shown, hr, ne_eq, not_true_eq_false, if_false]
  cases T.pwr.kept.find? (fun k => k.1 = r.derGen) <;> rfl

/-! FLOOR_GET and ROLL_MAP_READ: a run of tiles. -/

/-- What a query of tiles asks for: 1 to `most` tiles that exist. -/
structure TileForm (most : Nat) (ps : Bytes) : Prop where
  size : ps.length = 4
  first : numAt ps 0 2 < 9216
  least : 1 ≤ numAt ps 2 2
  most : numAt ps 2 2 ≤ most
  last : numAt ps 0 2 + numAt ps 2 2 ≤ 9216

/-- Neither check of a query of tiles refuses it. -/
theorem TileForm.passes {most : Nat} (hF : TileForm most ps) :
    ¬9216 ≤ numAt ps 0 2 ∧ ¬(numAt ps 2 2 < 1 ∨ most < numAt ps 2 2 ∨ 9216 < numAt ps 0 2 + numAt ps 2 2) := by
  obtain ⟨-, hfirst, hleast, hmost, hlast⟩ := hF
  omega

theorem opBody_floorGet (hF : TileForm 2048 ps) :
    opBody 0x300 (bodyCtx (ctxOf 0x300 h ps s)) T =
      didData ((List.range (numAt ps 2 2)).flatMap (fun i => natLe 2 (floorAt T.store.tabs (numAt ps 0 2 + i)))) T := by
  obtain ⟨hfirst, hrange⟩ := hF.passes
  unfold opBody bodyFloorGet
  simp only [bctx_params, hF.size, hfirst, hrange, ne_eq, not_true_eq_false, if_false]

theorem opBody_rollMapRead (hF : TileForm 56 ps) :
    opBody 0x605 (bodyCtx (ctxOf 0x605 h ps s)) T =
      didData ((List.range (numAt ps 2 2)).flatMap (fun i => rollEntry T (numAt ps 0 2 + i))) T := by
  obtain ⟨hfirst, hrange⟩ := hF.passes
  unfold opBody bodyRollMapRead
  simp only [bctx_params, hF.size, hfirst, hrange, ne_eq, not_true_eq_false, if_false]

/-- Settles O23: the record and the factors that are kept decide what FRAME_RECORD_GET returns; the other two read their tiles. -/
theorem lightPathQueriesReply : Obligations.LightPathQueriesReply := by
  intro h ps s
  refine ⟨fun hA h5 hpart hshown => ?record, fun hA h4 hfirst hlow hhigh hlast => ?floor, fun hA h4 hfirst hlow hhigh hlast => ?roll⟩
  case record =>
    intro T
    have hF : RecordForm ps T := ⟨h5, hpart, by rw [show T.sys = s.sys from taken_sys]; exact hshown⟩
    have hpwr : T.pwr = s.pwr := by simp [T]
    refine ⟨fun hr => ?unknown, fun r hr => ?found⟩
    case unknown => exact next_replied hA (by decide) (opBody_frameRecordGet_unknown hF ((taken_findRec _).trans hr)) (.inl rfl)
    case found =>
      have hbody := opBody_frameRecordGet_found (h := h) (s := s) hF ((taken_findRec _).trans hr)
      rw [hpwr] at hbody
      refine ⟨fun h0 => ?whole, fun h0 => ⟨fun hk => ?lost, fun k hk => ?factors⟩⟩
      case whole => exact next_replied hA (by decide) (hbody.trans (if_pos h0)) (.inl rfl)
      case lost =>
        rw [if_neg h0, hk] at hbody
        exact next_replied hA (by decide) hbody (.inl rfl)
      case factors =>
        rw [if_neg h0, hk] at hbody
        exact next_replied hA (by decide) hbody (.inl rfl)
  case floor =>
    have hbody := opBody_floorGet (h := h) (s := s) (T := taken 0x300 h ps s) ⟨h4, hfirst, hlow, hhigh, hlast⟩
    rw [show (taken 0x300 h ps s).store = s.store by simp] at hbody
    exact next_replied hA (by decide) hbody (.inl rfl)
  case roll => exact next_replied hA (by decide) (opBody_rollMapRead ⟨h4, hfirst, hlow, hhigh, hlast⟩) (.inl rfl)

end Sys2Proof
end

section
/-!
Bands of a frame (R212, R217, R218, R242, R253, R254, R262, R271), the gain rebuild (R260) and zeroed granules (R184): what each row
does, with the order in which what is wrong with a band is handled.
-/
namespace Sys2Proof
open Sys2Proof.Machine
variable {lane band : Nat} {j : Job} {o : BandObs} {q : ProcObs} {s c : State}

/-! BAND_COMPOSED. -/

/-- Clean Flat Cache tiles of the band whose words are uncorrectable (R242). -/
def badTiles (band : Nat) (j : Job) (o : BandObs) (c : State) : List Nat :=
  if j.fcOn then o.fcUe.filter (fun t => decide (t / 96 = band) && c.tileClean t) else []

/-- A tile whose cached values are lost is dirty and recorded (R242). -/
def loseTile (c : State) (t : Nat) : State :=
  record bCARL 5 (atUnit t) (c.onCarl (fun x => { x with fcClean := spSet false x.fcClean t false }))

/-- What happens to a band when no bank of the Layer Store fails: its residue is judged first, then the line buffer, then the Flat Cache. -/
def composedBand (lane band : Nat) (j : Job) (o : BandObs) (c : State) : State :=
  if o.residueBad || c.hasStim bCARL 0 lane then residueFault lane band (c.hasStim bCARL 0 lane) (dropStim bCARL 0 lane c)
  else if o.lbUe && (zOrder j.sh).any (fun l => decide (l.1 < 2)) then record bCARL 6 (atUnit lane) c
  else if badTiles band j o c ≠ [] then (badTiles band j o c).foldl loseTile c
  else passBand lane band c

theorem bandComposedEvent_idle (hj : s.carl.job = none) : bandComposedEvent lane o s = s := by
  unfold bandComposedEvent
  rw [hj]
  rfl

theorem bandComposedEvent_bank {b : Fin 4} (hj : s.carl.job = some j) (hl : j.lanes.getD lane none = some band) (hb : o.bankUe = some b) :
    bandComposedEvent lane o s =
      issueBands (bankError b ((bandCe j o s).hasStim bSTORE 1 b) (dropStim bSTORE 1 b (bandCe j o s))) := by
  unfold bandComposedEvent
  simp only [hj, hl, hb, Option.bind_some, Option.map_some]

theorem bandComposedEvent_noBank (hj : s.carl.job = some j) (hl : j.lanes.getD lane none = some band) (hb : o.bankUe = none)
    (hs : ∀ b, (bandCe j o s).hasStim bSTORE 1 b = false) : bandComposedEvent lane o s = composedBand lane band j o (bandCe j o s) := by
  have hbank : (List.range 4).find? (fun b => (bandCe j o s).hasStim bSTORE 1 b &&
      (zOrder j.sh).any (fun l => (bandCe j o s).inBank (fld (lyHandle l.2) 0 8) b)) = none :=
    List.find?_eq_none.mpr (fun b _ => by simp [hs])
  unfold bandComposedEvent
  simp only [hj, hl, hb, hbank, Option.bind_some, Option.map_some]
  rfl

/-! BAND_PROCESSED. -/

/-- Gain words of the band that are uncorrectable (R254). -/
def badGains (band : Nat) (q : ProcObs) : List Nat := q.gainUe.filter (fun p => decide (p / 12288 = band))

theorem bandProcessedEvent_idle (hj : s.carl.job = none) : bandProcessedEvent band q s = s := by
  unfold bandProcessedEvent
  rw [hj]

/-- A band that has been composed and not yet processed: without a gain word lost it is done, else the loss is recorded, and with it a
failing read of MRAM at the first pixel's factory gain (R254, log entry 57). -/
theorem bandProcessedEvent_composed (hj : s.carl.job = some j) (ho : j.outs.any (fun e => e.1 == band) = true)
    (hw : j.words.any (fun e => e.1 == band) = false) :
    bandProcessedEvent band q s =
      if badGains band q = [] then bandDone j band q (eccCorrected q.gainCe bPIX 3 0x80078 s)
      else if q.mramUe then
        record bNVM 1 (withVal (0x200000 + (badGains band q).headD 0 * 10 / 8)) (record bPIX 4 noUnit (eccCorrected q.gainCe bPIX 3 0x80078 s))
      else record bPIX 4 noUnit (eccCorrected q.gainCe bPIX 3 0x80078 s) := by
  unfold bandProcessedEvent
  simp only [hj, ho, hw, Bool.not_true, Bool.or_false, Bool.false_eq_true, if_false, ne_eq, ite_not]
  rfl

/-! GAIN_REBUILD_DONE. -/

theorem gainRebuildDoneEvent_running (hr : s.pix.rebuild = true) :
    gainRebuildDoneEvent s = s.onPix (fun p => { p with rebuild := false, rebuilt := true }) := if_pos hr

/-- Settles O54: the order in which a band's faults are handled, and what each row does without a frame in work. -/
theorem bandsOfAFrame : Obligations.BandsOfAFrame := by
  refine ⟨fun lane o j band s hj hl => ⟨fun b hb => ?bank, fun hb hs => ?noBank⟩,
    fun band o j s hj ho hw => ⟨fun hu => ?done, fun p r hu => ?lost⟩,
    fun lane o band q s hj => ⟨next_settle (bandComposedEvent_idle hj), next_settle (bandProcessedEvent_idle hj)⟩,
    fun start s => ⟨fun hr => next_settle (gainRebuildDoneEvent_running hr), rfl⟩⟩
  case bank => exact next_settle (bandComposedEvent_bank hj hl hb)
  case noBank =>
    have hband := bandComposedEvent_noBank hj hl hb hs
    refine ⟨fun hbad => ?residue, fun hr hst hlb hv => ?lineBuffer, fun hr hst hlb hue => ?passes, fun t hr hst hlb hue => ?tile⟩
    case residue => exact next_settle (hband.trans (if_pos (by simpa using hbad)))
    case lineBuffer =>
      rw [composedBand, hr, hst, hlb, hv] at hband
      exact next_settle hband
    case passes =>
      rw [composedBand, hr, hst, hlb, badTiles, hue] at hband
      exact next_settle hband
    case tile =>
      rw [composedBand, hr, hst, hlb, badTiles, hue] at hband
      exact next_settle hband
  case done => exact next_settle ((bandProcessedEvent_composed hj ho hw).trans (if_pos hu))
  case lost =>
    have hband := bandProcessedEvent_composed (q := o) hj ho hw
    rw [badGains, hu] at hband
    refine ⟨fun hm => ?gain, fun hm => ?mram⟩
    all_goals
      rw [hm] at hband
      exact next_settle hband

end Sys2Proof
end

section
/-!
KEEPOUT_SET (R229, R231, R383, R585): the rectangles become a new generation of the table, stored in both configuration copies, which waits
for the next latch.
-/
namespace Sys2Proof
open Sys2Proof.Machine
variable {h : CmdHdr} {ps : Bytes} {s T : State}

/-! What saving, issuing and accepting leave. -/

/-- Storing the configuration writes what is in force and both copies (R462). -/
theorem saveCfg_data (f : CfgData → CfgData) (s : State) :
    (saveCfg f s).nvm.cur = f s.nvm.cur ∧ (saveCfg f s).nvm.cfgA.data = f s.nvm.cur ∧ (saveCfg f s).nvm.cfgB.data = f s.nvm.cur := by
  simp [saveCfg]

/-- The generation of a stored table is counted in MRAM: the device state and the Layer Store stay (R588). -/
theorem issueGen_frame {id : Nat} (hid : id ≠ tTIMING) (s : State) :
    (issueGen id s).1.sys = s.sys ∧ (issueGen id s).1.store = s.store := by
  rw [issueGen, if_neg hid]
  exact ⟨rfl, rfl⟩

theorem taken_locked {op : Nat} : (taken op h ps s).locked = s.locked := by simp [State.locked, State.rfld, State.reg]

/-! The table that is stored. -/

/-- The rectangles that a KEEPOUT_SET carries. -/
def rectWords (ps : Bytes) : List (BitVec 64) := (List.range (numAt ps 0 1)).map (fun i => BitVec.ofNat 64 (numAt ps (4 + 8 * i) 8))

/-- The version of the keep-out table that has these rectangles from entry 0 on, and the generation g. -/
def keepoutVer (g : Word) (ws : List (BitVec 64)) : TabVer := ws.zipIdx.foldl (fun v e => tabPut tKEEPOUT v e.2 e.1) ⟨g, []⟩

/-- The command of Ledger number l stores a version of the keep-out table, which waits for the next latch (R585). -/
def keepoutStored (l : Word) (v : TabVer) (s : State) : State :=
  (saveCfg (fun d => { d with tabs := { d.tabs with keepout := v }, keepSeq := some l }) s).onStore (fun t => { t with keepNext := some (l, v) })

/-- Storing the table leaves the tables in force and the device state (R585). -/
theorem keepoutStored_frame (l : Word) (v : TabVer) (s : State) :
    (keepoutStored l v s).sys = s.sys ∧ (keepoutStored l v s).store.tabs = s.store.tabs := by
  simp [keepoutStored]

/-- The table is stored in what is in force and in both copies (R462). -/
theorem keepoutStored_nvm (l : Word) (v : TabVer) (s : State) :
    (keepoutStored l v s).nvm.cur.tabs.keepout = v ∧ (keepoutStored l v s).nvm.cfgA.data.tabs.keepout = v ∧
      (keepoutStored l v s).nvm.cfgB.data.tabs.keepout = v := by
  obtain ⟨hcur, hcfgA, hcfgB⟩ := saveCfg_data (fun d => { d with tabs := { d.tabs with keepout := v }, keepSeq := some l }) s
  exact ⟨congrArg (·.tabs.keepout) hcur, congrArg (·.tabs.keepout) hcfgA, congrArg (·.tabs.keepout) hcfgB⟩

/-- What KEEPOUT_SET leaves: a new generation of the table is stored. -/
def keepoutSaved (l : Word) (ps : Bytes) (T : State) : State :=
  keepoutStored l (keepoutVer (issueGen tKEEPOUT T).2 (rectWords ps)) (issueGen tKEEPOUT T).1

theorem keepoutSaved_frame (l : Word) (ps : Bytes) (T : State) :
    (keepoutSaved l ps T).sys = T.sys ∧ (keepoutSaved l ps T).store.tabs = T.store.tabs := by
  obtain ⟨hsys, hstore⟩ := issueGen_frame (id := tKEEPOUT) (by decide) T
  obtain ⟨hsavedSys, hsavedTabs⟩ := keepoutStored_frame l (keepoutVer (issueGen tKEEPOUT T).2 (rectWords ps)) (issueGen tKEEPOUT T).1
  exact ⟨hsavedSys.trans hsys, hsavedTabs.trans (congrArg Store.tabs hstore)⟩

/-! The body of KEEPOUT_SET. -/

/-- What KEEPOUT_SET asks for: up to 16 rectangles that lie on the canvas, and reserved bytes of 0 (R229). -/
structure KeepoutForm (ps : Bytes) : Prop where
  most : numAt ps 0 1 ≤ 16
  size : ps.length = 4 + 8 * numAt ps 0 1
  resv : numAt ps 1 3 = 0
  rects : ∀ w ∈ rectWords ps, keepBad w = none

/-- No rectangle is refused when each of them lies on the canvas. -/
theorem findSome?_keepBad {ws : List (BitVec 64)} (hws : ∀ w ∈ ws, keepBad w = none) :
    ws.zipIdx.findSome? (fun e => (keepBad e.1).map (fun _ => 4 + 8 * e.2)) = none := by
  refine List.findSome?_eq_none_iff.mpr (fun e he => ?_)
  rw [hws e.1 (List.fst_mem_of_mem_zipIdx he)]
  rfl

/-- Rectangles of that form outside the safety lock are stored; STILL begins its exit. -/
theorem opBody_keepoutSet (hF : KeepoutForm ps) (hk : T.locked = false) :
    opBody 0x301 (bodyCtx (ctxOf 0x301 h ps s)) T =
      didData (leOf 4 (issueGen tKEEPOUT T).2)
        (if T.sys.st = .still then startStillExit (keepoutSaved ((entryOf 0x301 s).getD 0) ps T)
        else keepoutSaved ((entryOf 0x301 s).getD 0) ps T) := by
  obtain ⟨hmost, hsize, hresv, hrects⟩ := hF
  have hbad := findSome?_keepBad hrects
  rw [← (keepoutSaved_frame ((entryOf 0x301 s).getD 0) ps T).1]
  rw [rectWords] at hbad
  unfold opBody bodyKeepoutSet
  simp only [bctx_params, bctx_ledger, Nat.not_lt.mpr hmost, Nat.not_lt.mpr (Nat.le_add_right 4 _), hresv, hsize, hk, hbad, ne_eq,
    not_true_eq_false, Bool.false_eq_true, if_false]
  rfl

/-- Settles O24: the body stores the version, and storing leaves the table in force as it is. -/
theorem keepoutSetStoresTable : Obligations.KeepoutSetStoresTable := by
  rintro h ps s _ hA rfl hmost hsize hresv hlock ws hrects T A v E
  have hbody := opBody_keepoutSet (h := h) (s := s) (T := T) ⟨hmost, hsize, hresv, hrects⟩ (taken_locked.trans hlock)
  have hsys : T.sys = s.sys := taken_sys
  have hstore : T.store = s.store := by simp [T]
  rw [hsys] at hbody
  have htabs : E.store.tabs = T.store.tabs := (keepoutSaved_frame ((entryOf 0x301 s).getD 0) ps T).2
  rw [hstore] at htabs
  exact ⟨next_replied hA (by decide) hbody (.inl rfl), htabs, keepoutStored_nvm _ _ _⟩

end Sys2Proof
end

section
/-!
Register rows that return units to service (R220, R308, R340, R493, R584): the units named join those whose BIST runs.
-/
namespace Sys2Proof
open Sys2Proof.Machine
variable {h : CmdHdr} {v : Word} {s : State}

theorem writeWord_carlCtrl : writeWord 0x60000 v s = carlUnfence v (placeWord 0x60000 v s) := rfl
theorem writeWord_malletCtrl : writeWord 0x90000 v s = malletUnfence v (placeWord 0x90000 v s) := rfl
theorem writeWord_senseSlc : writeWord 0xA0004 v s = sliceUnfence v (placeWord 0xA0004 v s) := rfl

/-- The slice that a word with the unfence bit names starts its BIST (R340). -/
theorem sliceUnfence_set (hv : v.getLsbD 7 = true) : sliceUnfence v s = startBist [.slice (Fin.ofNat 65 (v.toNat % 128))] s := by
  have hfld : fld v 0 7 = v.toNat % 128 := by simp [fld, bitsN]
  rw [sliceUnfence, if_pos hv, hfld]

/-- Without the unfence bit the word is stored and starts nothing. -/
theorem sliceUnfence_clear (hv : v.getLsbD 7 = false) : sliceUnfence v s = s := if_neg (ne_true_of_eq_false hv)

/-- Bit 2 of PWR_CTRL returns the digital VLED controller at once (R493). -/
theorem pwrCtrl_unfence : pwrCtrl 4 s = syncOwner (s.onPwr (fun p => { p with fenced := false })) := rfl

/-- Settles O37: what each unfence word does once its write is accepted. -/
theorem unfenceRegisterRows : Obligations.UnfenceRegisterRows := by
  intro h v s
  refine ⟨fun hW => ?lanes, fun hW => ?mallets, fun hW hv => ?slice, fun hW hv => ?noSlice, fun hW => ?vled⟩
  case lanes => exact next_wrote (by decide) hW writeWord_carlCtrl
  case mallets => exact next_wrote (by decide) hW writeWord_malletCtrl
  case slice => exact next_wrote (by decide) hW (writeWord_senseSlc.trans (sliceUnfence_set hv))
  case noSlice => exact next_wrote (by decide) hW (writeWord_senseSlc.trans (sliceUnfence_clear hv))
  case vled => exact next_wrote (by decide) hW (writeWord_pwrCtrl.trans pwrCtrl_unfence)

end Sys2Proof
end

section
/-!
HK_SEQ_SET, CV_CONFIG, CV_SCAN and CV_RESULT (R343, R348, R515, R519, R520): what each body makes of parameters of its form.
-/
namespace Sys2Proof
open Sys2Proof.Machine
variable {op : Nat} {h : CmdHdr} {ps : Bytes} {u : Byte} {s T : State}

/-! Acceptance changes nothing that the four bodies ask for. -/

theorem takeSeq_cv (p : CmdPkt) (s : State) : (takeSeq p s).cv = s.cv := by
  unfold takeSeq onSlot
  split <;> rfl

/-- A row that is not journalled writes no Ledger entry, so acceptance disturbs no scan (R517). -/
theorem taken_cv_unjournalled (hj : journals op = false) : (taken op h ps s).cv = s.cv := by
  rw [taken, hj]
  exact takeSeq_cv _ _

/-- The power domains are part of what acceptance leaves. -/
theorem taken_pdIs (d : Nat) (p : PdCond) : (taken op h ps s).pdIs d p = s.pdIs d p := by
  rw [State.pdIs, taken_sys, State.pdIs]

/-! HK_SEQ_SET. -/

/-- The entries of a sequence of n conversions (R343). -/
def seqWords (n : Nat) (ps : Bytes) : List (BitVec 64) := (List.range n).map (fun i => BitVec.ofNat 64 (numAt ps (4 + 8 * i) 8))

/-- What HK_SEQ_SET asks for before the rules of the entries: 1 to 16 of them, and reserved bytes of 0. -/
structure SeqForm (ps : Bytes) : Prop where
  least : 1 ≤ numAt ps 0 1
  most : numAt ps 0 1 ≤ 16
  size : ps.length = 4 + 8 * numAt ps 0 1
  resv : findIdx? (fun x => x != 0) (sliceB ps 1 3) = none

/-- Outside the safety lock the rules of R343 to R345 decide whether the sequence waits for the next repetition. -/
theorem opBody_hkSeqSet (hF : SeqForm ps) (hk : T.hkLocked (seqWords (numAt ps 0 1) ps) = false) :
    opBody 0x606 (bodyCtx (ctxOf 0x606 h ps s)) T =
      (seqBad (seqWords (numAt ps 0 1) ps) (expertOf h s) T).elim (did (hkNext (seqWords (numAt ps 0 1) ps) T))
        (fun e => no (refuse e.1 e.2 0xFFFFFFFF) T) := by
  obtain ⟨hleast, hmost, hsize, hresv⟩ := hF
  have hheader : ¬4 + 8 * numAt ps 0 1 < 4 := by omega
  have hcount : ¬(numAt ps 0 1 < 1 ∨ 16 < numAt ps 0 1) := by omega
  rw [seqWords] at hk ⊢
  unfold opBody bodyHkSeqSet
  simp only [bctx_params, bctx_expert, hheader, hcount, hresv, hsize, hk, ne_eq, not_true_eq_false, Bool.false_eq_true, if_false]
  cases seqBad ((List.range (numAt ps 0 1)).map (fun i => BitVec.ofNat 64 (numAt ps (4 + 8 * i) 8))) (expertOf h s) T <;> rfl

/-! CV_CONFIG. -/

/-- What CV_CONFIG asks for: CV5 with a share of 0 to 7 or CV3 with its snoop on or off, and reserved bytes of 0 (R519). -/
structure ConfigForm (ps : Bytes) : Prop where
  size : ps.length = 8
  value : numAt ps 0 1 = 5 ∧ numAt ps 1 1 < 8 ∨ numAt ps 0 1 = 3 ∧ numAt ps 1 1 < 2
  resv : findIdx? (fun b => b ≠ 0) (ps.drop 2) = none

/-- The snoop of CV3 is switched, and off it invalidates what every buffer has running (R519). -/
def snoopSwitched (v : Nat) (T : State) : State :=
  if v = 0 then forN 256 0 snoopInvalid (T.setFld 0xE0000 0 1 v) else T.setFld 0xE0000 0 1 v

theorem opBody_cvConfig (hF : ConfigForm ps) :
    opBody 0x700 (bodyCtx (ctxOf 0x700 h ps s)) T =
      if numAt ps 0 1 = 5 then did (T.setFld 0xE0000 1 3 (numAt ps 1 1)) else did (snoopSwitched (numAt ps 1 1) T) := by
  obtain ⟨h8, hvalue, hresv⟩ := hF
  have hsize : ¬ps.length ≠ 8 := not_not_intro h8
  have hunit : ¬(numAt ps 0 1 ≠ 3 ∧ numAt ps 0 1 ≠ 5) := by omega
  have hrange : ¬((numAt ps 0 1 = 3 ∧ 2 ≤ numAt ps 1 1) ∨ 8 ≤ numAt ps 1 1) := by omega
  unfold opBody bodyCvConfig snoopSwitched
  simp only [bctx_params, hsize, hunit, hrange, hresv, if_false]

/-! CV_SCAN. -/

/-- What CV_SCAN asks for in both spaces: a whole number of words, at least one, and a polynomial that exists (R515). -/
structure ScanForm (ps : Bytes) : Prop where
  size : ps.length = 10
  start : numAt ps 1 4 % 4 = 0
  words : numAt ps 5 4 % 4 = 0
  least : 4 ≤ numAt ps 5 4
  poly : numAt ps 9 1 ≤ 3

/-- The scan that CV_SCAN asks for, in a buffer where it is one of the Layer Store. -/
def scanBegun (ps : Bytes) (buf : Nat) (T : State) : State :=
  T.onCv (fun v => { v with scan := some ⟨numAt ps 0 1, numAt ps 1 4, numAt ps 5 4, numAt ps 9 1, buf, false, false⟩ })

/-- No check before the range refuses a scan of that form. -/
theorem ScanForm.passes (hF : ScanForm ps) : ¬(numAt ps 5 4 % 4 ≠ 0 ∨ numAt ps 5 4 < 4) ∧ ¬3 < numAt ps 9 1 := by
  obtain ⟨-, -, hwords, hleast, hpoly⟩ := hF
  omega

/-- A range of MRAM is scanned where it ends within MRAM and holds no key (R515). -/
theorem opBody_cvScan_mram (hF : ScanForm ps) (h1 : numAt ps 0 1 = 1) :
    opBody 0x701 (bodyCtx (ctxOf 0x701 h ps s)) T =
      if 0x800000 < numAt ps 1 4 + numAt ps 5 4 ∨ (numAt ps 1 4 < keyHi ∧ keyLo < numAt ps 1 4 + numAt ps 5 4) then
        no (accessViol (numAt ps 1 4)) T
      else (scanBegun ps 0 T, .later .scan) := by
  obtain ⟨hlength, hpoly⟩ := hF.passes
  rw [scanBegun]
  unfold opBody bodyCvScan
  simp only [bctx_params, hF.size, h1, hF.start, hlength, hpoly, Nat.lt_irrefl, Nat.one_ne_zero, false_and, ne_eq, not_true_eq_false, if_false, if_true]

/-- A range of the Layer Store is scanned where a live buffer holds it (R515). -/
theorem opBody_cvScan_store (hF : ScanForm ps) (h0 : numAt ps 0 1 = 0) (hpd : T.pdIs 7 .on = true) :
    opBody 0x701 (bodyCtx (ctxOf 0x701 h ps s)) T =
      (T.bufOf (numAt ps 1 4) (numAt ps 5 4)).elim (no (accessViol (numAt ps 1 4)) T) (fun i => (scanBegun ps i T, .later .scan)) := by
  obtain ⟨hlength, hpoly⟩ := hF.passes
  have hspace : ¬1 < 0 := by decide
  have hpowered : ¬(True ∧ T.pdIs 7 .on = false) := by simp [hpd]
  unfold opBody bodyCvScan scanBegun
  simp only [bctx_params, hF.size, h0, hF.start, hlength, hpoly, hspace, hpowered, Nat.zero_ne_one, ne_eq, not_true_eq_false, if_false]
  cases T.bufOf (numAt ps 1 4) (numAt ps 5 4) <;> rfl

/-! CV_RESULT. -/

/-- The flags of a unit's record: those of CV5 tell of a disturbed and of an aborted scan (R520). -/
def unitFlags (u : Byte) (v : Cv) : Nat :=
  if u = 5 then bit01 (v.scan.getD v.last).disturbed + 2 * bit01 (v.scan.isNone && v.lastAborted) else 0

/-- The record of a check-value unit (R520). -/
def unitRecord (u : Byte) (v : Cv) : Bytes :=
  let x := v.units.getD u.toNat default
  [u, BitVec.ofNat 8 (unitFlags u v), 0, 0] ++ natLe 4 x.a ++ natLe 4 x.b ++ leOf 4 x.c ++ leOf 4 x.d ++ leOf 8 x.t ++ leOf 2 x.epoch ++ zeros 2

theorem opBody_cvResult (hu : u.toNat < 6) :
    opBody 0x702 (bodyCtx (ctxOf 0x702 h [u] s)) T = answer (okData (unitRecord u T.cv)) T := by
  have hunit : numAt [u] 0 1 = u.toNat := numAt_one _ 0
  have hrange : ¬6 ≤ u.toNat := Nat.not_le.mpr hu
  have hbyte : BitVec.ofNat 8 u.toNat = u := by simp
  have hcv5 : u.toNat = 5 ↔ u = 5 := (BitVec.toNat_eq (x := u) (y := 5)).symm
  unfold opBody bodyCvResult unitRecord unitFlags
  simp only [bctx_params, hunit, hrange, hbyte, hcv5, List.length_cons, List.length_nil, ne_eq, not_true_eq_false, if_false]

/-- Settles O31: the checks of the body decide between the effect and its refusal, and what they ask for stands as acceptance found it. -/
theorem hkAndCvCommands : Obligations.HkAndCvCommands := by
  intro h ps s
  refine ⟨fun n hA hn hlow hhigh hsize hresv => ?hkSeqSet, fun hA h8 hresv => ⟨fun hu hv => ?share, fun hu hv => ?snoopOn, fun hu hv => ?snoopOff⟩,
    fun hA h10 => ?cvScan, fun u hA hu => ?cvResult⟩
  case hkSeqSet =>
    subst hn
    intro T q hlock
    have hbody := opBody_hkSeqSet (h := h) (s := s) ⟨hlow, hhigh, hsize, hresv⟩ hlock
    refine ⟨fun (hbad : seqBad (seqWords _ ps) _ T = none) => ?waits, fun st o (hbad : seqBad (seqWords _ ps) _ T = some (st, o)) => ?refused⟩
    all_goals
      rw [hbad] at hbody
      exact next_replied hA (by decide) hbody (.inl rfl)
  case share => exact next_replied hA (by decide) ((opBody_cvConfig ⟨h8, .inl ⟨hu, hv⟩, hresv⟩).trans (if_pos hu)) (.inl rfl)
  case snoopOn =>
    have hbody := opBody_cvConfig (h := h) (s := s) (T := taken 0x700 h ps s) ⟨h8, .inr ⟨hu, by omega⟩, hresv⟩
    rw [hu, if_neg (by decide), hv, snoopSwitched, if_neg Nat.one_ne_zero] at hbody
    exact next_replied hA (by decide) hbody (.inl rfl)
  case snoopOff =>
    have hbody := opBody_cvConfig (h := h) (s := s) (T := taken 0x700 h ps s) ⟨h8, .inr ⟨hu, by omega⟩, hresv⟩
    rw [hu, if_neg (by decide), hv, snoopSwitched, if_pos rfl] at hbody
    exact next_replied hA (by decide) hbody (.inl rfl)
  case cvScan =>
    intro T st n go hst hn hleast hpoly
    have hF : ScanForm ps := ⟨h10, hst, hn, hleast, hpoly⟩
    refine ⟨fun h1 hend hkey => ?mram, fun h1 hout => ?outside, fun h0 hpd => ?store⟩
    case mram =>
      have hrange : ¬(0x800000 < st + n ∨ (st < keyHi ∧ keyLo < st + n)) := by
        rw [keyHi, keyLo]
        omega
      exact next_started hA (by decide) ((opBody_cvScan_mram hF h1).trans (if_neg hrange)) (by simp)
    case outside =>
      have hrange : 0x800000 < st + n ∨ (st < keyHi ∧ keyLo < st + n) := by
        rw [keyHi, keyLo]
        omega
      exact next_replied hA (by decide) ((opBody_cvScan_mram hF h1).trans (if_pos hrange)) (.inr (show 0x10 ≤ 0x14 by decide))
    case store =>
      have hbody := opBody_cvScan_store (h := h) (s := s) hF h0 ((taken_pdIs 7 .on).trans hpd : T.pdIs 7 .on = true)
      refine ⟨fun i (hi : T.bufOf (numAt ps 1 4) (numAt ps 5 4) = some i) => ?held, fun (hi : T.bufOf (numAt ps 1 4) (numAt ps 5 4) = none) => ?nowhere⟩
      case held =>
        rw [hi] at hbody
        exact next_started hA (by decide) hbody (by simp)
      case nowhere =>
        rw [hi] at hbody
        exact next_replied hA (by decide) hbody (.inr (show 0x10 ≤ 0x14 by decide))
  case cvResult =>
    intro T x flags
    have hT : T.cv = s.cv := taken_cv_unjournalled rfl
    have hflags : unitFlags u s.cv = flags := by simp only [flags, unitFlags, hT]
    have hbody := opBody_cvResult (h := h) (s := s) (T := T) hu
    rw [hT, unitRecord, hflags] at hbody
    exact next_replied hA (by decide) hbody (.inl rfl)

end Sys2Proof
end

section
/-!
Sensing (R319, R321, R326, R335, R337, R338): the capture with PD10 on and off, the conversions of a beat, and the spare's fit.
-/
namespace Sys2Proof
open Sys2Proof.Machine
variable {strobe comply : List (BitVec 1536)} {codes : List (List Nat)} {refs ue : List Nat} {beats : List SpareBeat} {s : State}

/-! SENSE_CAPTURE (R319, R321). -/

/-- What each segment sensed in this beat shows, and the compliance bits of its columns. -/
def captured (strobe comply : List (BitVec 1536)) (s : State) : State :=
  let segs := selN 8 (fun n => s.sense.sensed.getLsbD n)
  s.onSense (fun e =>
    { e with kinds := segs.map (fun n => (n, (List.range 1536).map (fun pc => s.kindAt n (96 * n + s.sense.row) pc (strobe.getD n 0)))),
             comply := segs.map (fun n => (n, comply.getD n 0)) })

theorem senseCaptureEvent_on (hpd : s.pdIs 10 .on = true) : senseCaptureEvent strobe comply s = captured strobe comply s := by
  rw [senseCaptureEvent, hpd]
  rfl

theorem senseCaptureEvent_off (hpd : s.pdIs 10 .on = false) : senseCaptureEvent strobe comply s = s := by
  rw [senseCaptureEvent, hpd]
  rfl

/-! SLICE_FIT (R338). -/

/-- The calibration of the spare ends with the cycle: result 2 where the spare has failed in it (R338, R341). -/
def spareCalDone (t : State) : State := calDoneAll (fun k => decide (k = .calSlice 64)) (if t.sense.spareMode = 2 then 2 else 1) t

theorem sliceFitEvent_idle (hs : s.shadowing = false) : sliceFitEvent beats s = s := by
  rw [sliceFitEvent, hs]
  rfl

/-- A slice that gets no correction ends its own calibration with result 2 (R338). -/
theorem sliceFitEvent_shadowing (hs : s.shadowing = true) :
    sliceFitEvent beats s =
      if (sliceFit beats s).2 then spareCalDone (sliceFit beats s).1
      else calDoneAll (fun k => decide (k = .calSlice s.sense.spareOn)) 2 (spareCalDone (sliceFit beats s).1) := by
  rw [sliceFitEvent, hs]
  rfl

/-- Settles O55: PD10 decides the capture, the spare's shadowing the fit; a classification always uses its capture up. -/
theorem sensing : Obligations.Sensing := by
  intro strobe comply codes refs ue low high pairs s
  refine ⟨fun hpd => ?captures, fun hpd => ?noCapture, ?classifies, fun hs => ⟨fun hr => ?corrected, fun hr => ?uncorrected⟩, fun hs => ?noFit⟩
  case captures => exact next_settle (senseCaptureEvent_on hpd)
  case noCapture => exact next_settle (senseCaptureEvent_off hpd)
  case classifies => rfl
  case corrected => exact next_settle ((sliceFitEvent_shadowing hs).trans (if_pos hr))
  case uncorrected => exact next_settle ((sliceFitEvent_shadowing hs).trans (if_neg (ne_true_of_eq_false hr)))
  case noFit => exact next_settle (sliceFitEvent_idle hs)

end Sys2Proof
end

section
/-!
Housekeeping (R344), the light budget (R346, R376, R377), the domains (R429, R430, R483) and the end of BIST (R74).
-/
namespace Sys2Proof
open Sys2Proof.Machine
variable {codes : List Nat} {d : Nat} {s : State}

/-! HK_REPETITION (R344). -/

/-- The conversions of a repetition that has begun: the entries whose divider divides its number take the codes in order. -/
def repetitionRun (codes : List Nat) (t : State) : State :=
  let run := (t.hk.seq.zipIdx).filter (fun e => decide (t.hk.rep % hkDiv e.1 = 0))
  ((run.zip (codes ++ List.replicate 16 0)).foldl (fun s e => hkConvert e.1.2 e.1.1 e.2 s) t).onHk (fun h => { h with rep := h.rep + 1 })

theorem hkRepetition_runs (hr : s.hk.running = true) (hpd : s.pdIs 10 .on = true) :
    Machine.hkRepetition codes s = repetitionRun codes (hkStart s) := by
  rw [Machine.hkRepetition, hr, hpd]
  rfl

theorem hkRepetition_idle (hidle : s.hk.running = false ∨ s.pdIs 10 .on = false) : Machine.hkRepetition codes s = s :=
  if_pos (by simpa using hidle)

/-! LIGHT_BUDGET_CHECK (R346, R376, R377). -/

/-- The mean current of each segment over its beats, with their number: 0 without any (R346, log entry 64). -/
def meansWritten (s : State) : State :=
  s.onHk (fun h => { h with iseg := (List.range 8).map (fun n =>
    BitVec.ofNat 32 (Nat.min 65535 (rheN (sumL (s.frameMeans n)) (16 * Nat.max 1 (s.frameMeans n).length)) + (s.frameMeans n).length * 65536)) })

/-- The segments of the frame that has ended are judged in turn (R376). -/
def budgetJudged (s : State) : State :=
  (s.safe.lbFrame.zipIdx).foldl (fun s e => budgetSeg e.2 e.1 s) (s.onSafe (fun f => { f with lbFailed := 0, lbSkipped := 0, lbFrame := [] }))

/-- The means are written in every case; PD8 and a frame to judge decide the rest, and 16 clean frames of every segment clear cause 6. -/
theorem lightBudgetEvent_eq :
    lightBudgetEvent s =
      if s.pdIs 8 .on = false ∨ s.safe.lbFrame = [] then meansWritten s
      else if (budgetJudged (meansWritten s)).safe.lbClean.all (fun n => decide (16 ≤ n)) then clearCause 6 (budgetJudged (meansWritten s))
      else budgetJudged (meansWritten s) := by
  have hskip : (!s.pdIs 8 .on || s.safe.lbFrame.isEmpty) = true ↔ s.pdIs 8 .on = false ∨ s.safe.lbFrame = [] := by simp
  exact ite_congr (propext hskip) (fun _ => rfl) (fun _ => rfl)

/-! POWER_GOOD and DOMAIN_SW (R429, R430, R483). -/

theorem powerGoodEvent_wanted (hp : s.powered = true) (hw : s.sys.pdWant.getD d .off = .on) (hoff : s.pdIs d .on = false) :
    powerGoodEvent d s = stillDone (syncStb (s.onSys (fun y => { y with pd := y.pd.set d .on }))) := by
  rw [powerGoodEvent, hp, hw, hoff]
  rfl

/-- The domain that misses its commanded condition: one that should be on is off, and the failure is recorded (R430, R483). -/
def domainFailed (d : Nat) (s : State) : State :=
  record bSYS 1 (atUnit d) (if s.sys.pdWant.getD d .off = .on then s.onSys (fun y => { y with pd := y.pd.set d .off }) else s)

/-- The units of a failed domain count as failing BIST (log entry 83). -/
theorem domainSwEvent_failed (hp : s.powered = true) (hd : d ≠ 0) :
    domainSwEvent d s =
      (pdUnits d).foldl (fun s u => bistFailed u s)
        (if pdUnits d = [] then domainFailed d s else (domainFailed d s).onSys (fun y => { y with bistFail := true })) := by
  have hacts : ¬(!s.powered || d == 0) = true := by simp [hp, hd]
  unfold domainSwEvent domainFailed
  rw [if_neg hacts]
  simp only [List.isEmpty_iff]

/-- Settles O57: each row by what lets it act; the end of BIST needs no condition of its own. -/
theorem housekeepingAndDomains : Obligations.HousekeepingAndDomains := by
  intro codes d fails s
  refine ⟨fun hr hpd => ?repetition, fun hidle => ?noRepetition, ⟨fun hskip => ?means, fun hpd hframe => ?judged⟩,
    fun hp hw hoff => ?powerGood, fun hp hd => ?domain, ?bist⟩
  case repetition => exact next_settle (hkRepetition_runs hr hpd)
  case noRepetition => exact next_settle (hkRepetition_idle hidle)
  case means => exact next_settle (lightBudgetEvent_eq.trans (if_pos hskip))
  case judged =>
    have hjudges : ¬(s.pdIs 8 .on = false ∨ s.safe.lbFrame = []) := by simp [hpd, hframe]
    exact next_settle (lightBudgetEvent_eq.trans (if_neg hjudges))
  case powerGood => exact next_settle (powerGoodEvent_wanted hp hw hoff)
  case domain => exact next_settle (domainSwEvent_failed hp hd)
  case bist => rfl

end Sys2Proof
end

section
/-!
SAFETY_POLICY_SET, DEGRADE_LIMIT_SET and SAFETY_STATUS (R374, R382, R383, R384): what each body makes of parameters of its form, behind the
safety lock.
-/
namespace Sys2Proof
open Sys2Proof.Machine
variable {h : CmdHdr} {ps : Bytes} {s T : State}

/-- The lock bit of a policy record (R382, R383). -/
def policyLock (ps : Bytes) : Bool := decide (numAt ps 1 1 / 2 % 2 = 1)

/-- What R382 asks for before the ranges: a lock that stands is not set again, right 6 to change it, right 0 for a record that leaves it or
names expert values, and a packet that may name them. -/
structure PolicyGrant (h : CmdHdr) (ps : Bytes) (s T : State) : Prop where
  size : ps.length = 48
  lock : ¬(policyLock ps = true ∧ T.locked = true)
  lockRight : policyLock ps ≠ T.locked → T.hasRight (slotOf 0x302 h ps s) 6 = true
  policyRight : policyLock ps = T.locked ∨ (expertOf h s = true ∧ (policyExpert ps).isSome = true) → T.hasRight (slotOf 0x302 h ps s) 0 = true
  expert : expertOf h s = true ∨ policyExpert ps = none

/-- Neither the lock nor a right refuses the record. -/
theorem PolicyGrant.passes (hG : PolicyGrant h ps s T) :
    (policyLock ps && T.locked) = false ∧
      (policyLock ps != T.locked && !T.hasRight (slotOf 0x302 h ps s) 6) = false ∧
      ((policyLock ps == T.locked || (expertOf h s && (policyExpert ps).isSome)) && !T.hasRight (slotOf 0x302 h ps s) 0) = false := by
  obtain ⟨-, hlock, hright6, hright0, -⟩ := hG
  refine ⟨Bool.eq_false_iff.mpr (by simpa using hlock), ?changes, ?policy⟩
  case changes => simpa [Bool.and_eq_false_imp] using hright6
  case policy => simpa [Bool.and_eq_false_imp] using hright0

/-- No value of the record is refused as an expert value. -/
theorem PolicyGrant.noExpert (hG : PolicyGrant h ps s T) : (if expertOf h s then none else policyExpert ps) = none :=
  ite_eq_left_iff.mpr (fun hplain => hG.expert.resolve_left hplain)

/-- A record that passes lock, rights and expert values is stored unless one of its values is bad (R382). -/
theorem opBody_safetyPolicySet (hG : PolicyGrant h ps s T) :
    opBody 0x302 (bodyCtx (ctxOf 0x302 h ps s)) T =
      (policyBad ps T).elim (did (setPolicy ps T)) (fun off => no (badParam off) T) := by
  obtain ⟨hlock, hright6, hright0⟩ := hG.passes
  have hexpert := hG.noExpert
  rw [policyLock] at hlock hright6 hright0
  unfold opBody bodySafetyPolicySet
  simp only [bctx_params, bctx_slot, bctx_expert, hG.size, hlock, hright6, hright0, hexpert, ne_eq, not_true_eq_false, Bool.false_eq_true, if_false]
  cases policyBad ps T <;> rfl

/-- DEGRADE_LIMIT is written while the lock is open (R374, R383). -/
theorem opBody_degradeLimitSet_open (h4 : ps.length = 4) (hk : T.locked = false) (hlow : 100 ≤ numAt ps 0 4) (hhigh : numAt ps 0 4 ≤ 60000) :
    opBody 0x303 (bodyCtx (ctxOf 0x303 h ps s)) T = did (storeReg 0xD0018 (BitVec.ofNat 32 (numAt ps 0 4)) T) := by
  have hrange : ¬(numAt ps 0 4 < 100 ∨ 60000 < numAt ps 0 4) := by omega
  unfold opBody bodyDegradeLimitSet
  simp only [bctx_params, h4, hk, hrange, ne_eq, not_true_eq_false, Bool.false_eq_true, if_false]

/-- The closed lock refuses it whatever its value (R383). -/
theorem opBody_degradeLimitSet_closed (h4 : ps.length = 4) (hk : T.locked = true) :
    opBody 0x303 (bodyCtx (ctxOf 0x303 h ps s)) T = no (refuse 0x14 0 0xD0018) T := by
  unfold opBody bodyDegradeLimitSet
  simp only [bctx_params, h4, hk, ne_eq, not_true_eq_false, if_false, if_true]

theorem opBody_safetyStatus : opBody 0x304 (bodyCtx (ctxOf 0x304 h [] s)) T = didData (safetyRecord T) T := by
  unfold opBody bodySafetyStatus
  simp only [bctx_params, List.length_nil, ne_eq, not_true_eq_false, if_false]

/-- Settles O25: acceptance leaves the lock as it is, and each body is then decided by its own checks. -/
theorem safetyCommands : Obligations.SafetyCommands := by
  intro h ps s
  refine ⟨fun hA h48 => ?policy, fun hA h4 => ?limit, fun hA => next_replied hA (by decide) opBody_safetyStatus (.inl rfl)⟩
  case policy =>
    intro T lock slot hlock hright6 hright0 hexpert
    have hk : T.locked = s.locked := taken_locked
    rw [← hk] at hlock hright6 hright0
    have hbody := opBody_safetyPolicySet (T := T) ⟨h48, hlock, hright6, hright0, hexpert⟩
    refine ⟨fun hgood => ?stored, fun off hbad => ?refused⟩
    case stored => exact next_replied hA (by decide) (hbody.trans (by rw [hgood]; rfl)) (.inl rfl)
    case refused => exact next_replied hA (by decide) (hbody.trans (by rw [hbad]; rfl)) (.inl rfl)
  case limit =>
    intro T v
    refine ⟨fun hopen hlow hhigh => ?stored, fun hclosed => ?refused⟩
    case stored => exact next_replied hA (by decide) (opBody_degradeLimitSet_open h4 (taken_locked.trans hopen) hlow hhigh) (.inl rfl)
    case refused => exact next_replied hA (by decide) (opBody_degradeLimitSet_closed h4 (taken_locked.trans hclosed)) (.inl rfl)

end Sys2Proof
end

section
/-!
The refresh timer, the limit of DEGRADED, the crystal window and a due SCHEDULE_AT (R370, R374, R433, R454, R473, R478).
-/
namespace Sys2Proof
open Sys2Proof.Machine
variable {ppb : Int} {seq : Word} {l : LongCmd} {n g : Nat} {op : BitVec 16} {ps : Bytes} {late : Bool} {s : State}

theorem refreshToEvent_armed (ha : s.safe.refreshArmed = true) (hms : s.refreshMs ≠ 0) :
    refreshToEvent s = addCause 3 (record bSAFE 9 noUnit s) :=
  if_pos ⟨ha, hms⟩

theorem degLimitEvent_degraded (hst : s.sys.st = .degraded) : degLimitEvent s = enterGong 4 (record bSAFE 13 noUnit s) := if_pos hst

/-! XTAL_WINDOW (R433, R473). -/

/-- An accepted window: its deviation holds, and it joins the history of the last 16. -/
def xtalTaken (ppb : Int) (s : State) : State :=
  s.onTab (fun b =>
    { b with xtalPpb := ppb, ratioValid := true, xtalHist := (ppb :: b.xtalHist).take 16, xtalCount := b.xtalCount + 1, xtalLast := s.stamp })

/-- While the history is not full, every window is accepted. -/
theorem xtalWindow_filling (hh : s.tab.xtalHist.length < 16) : xtalWindow ppb s = xtalTaken ppb s :=
  if_pos (Bool.or_eq_true_iff.mpr (.inl (decide_eq_true hh)))

/-- On the reference clock and with power, an accepted window ends a crystal run: the count of windows has moved (R478). -/
theorem xtalEvent_filling (hc : s.tab.onCrystal = false) (hp : s.powered = true) (hh : s.tab.xtalHist.length < 16) :
    xtalEvent ppb s = calDoneAll (fun k => decide (k = .calXo)) 1 (xtalTaken ppb s) := by
  have hmeasures : ¬(s.tab.onCrystal || !s.powered) = true := by simp [hc, hp]
  have hcounted : ¬(xtalTaken ppb s).tab.xtalCount = s.tab.xtalCount := Nat.succ_ne_self _
  simp only [xtalEvent, if_neg hmeasures, xtalWindow_filling hh, if_neg hcounted]

theorem xtalEvent_nothing (hn : s.tab.onCrystal = true ∨ s.powered = false) : xtalEvent ppb s = s :=
  if_pos (by simpa using hn)

/-! SCHEDULE_AT_DUE (R454). -/

/-- A command that waits for its target enters the queue unless it stands there already. -/
theorem scheduleDue_found (hl : s.clap.long.find? (fun l => l.ctx.ledger = some seq) = some l) (hk : l.kind = .schedule n g op ps late) :
    scheduleDue seq s =
      if s.clap.queue.any (fun q => q.what = .due seq) then s else enqueueDue seq (late || decide (g + 100000 < (s.tabor n).ns)) s := by
  unfold scheduleDue
  rw [hl]
  dsimp only
  rw [hk]

/-- Settles O48: each row by what lets it act, and a short history accepts every crystal window. -/
theorem timeDrivenEvents : Obligations.TimeDrivenEvents := by
  intro ppb seq s
  refine ⟨fun ha hms => ?refresh, fun hst => ?limit, fun hc hp hh => ?window, fun hn => ?noWindow,
    fun l n g op ps late hl hk => ⟨fun hq => ?enters, fun hq => ?waits⟩⟩
  case refresh => exact next_settle (refreshToEvent_armed ha hms)
  case limit => exact next_settle (degLimitEvent_degraded hst)
  case window => exact next_settle (xtalEvent_filling hc hp hh)
  case noWindow => exact next_settle (xtalEvent_nothing hn)
  case enters => exact next_settle ((scheduleDue_found hl hk).trans (if_neg (ne_true_of_eq_false hq)))
  case waits => exact next_settle ((scheduleDue_found hl hk).trans (if_pos hq))

end Sys2Proof
end

section
/-!
Register rows of the fault registers and of CAN_CFG (R396, R397, R400, R411, R416, R428, R429, R584).
-/
namespace Sys2Proof
open Sys2Proof.Machine
variable {b src param stim k off : Nat} {h : CmdHdr} {v : Word} {s : State}

/-- The last 256 bytes of a block are its fault registers (R400). -/
theorem writeWord_flt (hlo : 0xFF00 ≤ off) (hhi : off < 0x10000) : writeWord (0x10000 * b + off) v s = fltPut b off v s := by
  have hblk : (0x10000 * b + off) / 0x10000 = b := by omega
  have hoff : (0x10000 * b + off) % 0x10000 = off := by omega
  have hflt : isFlt (0x10000 * b + off) = true := decide_eq_true (hoff.symm ▸ hlo)
  rw [writeWord, hflt, if_pos rfl, hblk, hoff]

theorem fltPut_stat : fltPut b 0xFF00 v s = clearStat b v s := rfl

/-! FLT_INJECT (R409, R428, R429). -/

theorem fltPut_inject :
    fltPut b 0xFF28 v s =
      if v.getLsbD 6 then (if v.getLsbD 5 then injectStimulus b (fld v 0 5) (fld v 16 16) s else injectRecord b (fld v 0 5) s) else s := rfl

/-- The fields of a word of FLT_INJECT lie side by side. -/
theorem toNat_injectWord (hsrc : src < 32) (hstim : stim < 2) (hparam : param < 65536) :
    (injectWord src param stim).toNat = src + 32 * stim + 64 + 65536 * param := by
  rw [injectWord, BitVec.toNat_ofNat]
  omega

/-- Its go bit is set, and it names its source, its stimulus bit and its parameter. -/
theorem injectWord_fields (hsrc : src < 32) (hstim : stim < 2) (hparam : param < 65536) :
    (injectWord src param stim).getLsbD 6 = true ∧ (injectWord src param stim).getLsbD 5 = decide (stim = 1) ∧
      fld (injectWord src param stim) 0 5 = src ∧ fld (injectWord src param stim) 16 16 = param := by
  simp only [fld, bitsN, BitVec.getLsbD, Nat.testBit_eq_decide_div_mod_eq, toNat_injectWord hsrc hstim hparam, decide_eq_true_eq, decide_eq_decide]
  omega

/-- The stimulus bit decides between a record and a stimulus. -/
theorem writeWord_inject (hsrc : src < 32) (hstim : stim < 2) (hparam : param < 65536) :
    writeWord (0x10000 * b + 0xFF28) (injectWord src param stim) s = if stim = 1 then injectStimulus b src param s else injectRecord b src s := by
  obtain ⟨hgo, hbit, hname, harg⟩ := injectWord_fields hsrc hstim hparam
  rw [writeWord_flt (by decide) (by decide), fltPut_inject, if_pos hgo, hbit, hname, harg]
  simp only [decide_eq_true_eq]

/-! FLT_TALLY_CFGk (R411). -/

/-- A tally with new N and W, and without the events that it has counted. -/
def tallySet (v : Word) (y : Tally) : Tally := { y with n := v.toNat / 32 % 256, wMs := v.toNat / 8192 % 16384, hist := [] }

theorem fltPut_tally (hk : k < 4) : fltPut b (0xFF30 + 8 * k) v s = onFlts b (fun f => { f with tallies := modAt f.tallies k (tallySet v) }) s := by
  have hslot : (0xFF30 + 8 * k - 0xFF30) / 8 = k := by omega
  unfold fltPut
  split
  case h_7 => rw [hslot]; rfl
  all_goals omega

/-! CAN_CFG (R396, R397). -/

/-- The word acts on the state before it, so that a change of the enable is seen. -/
theorem writeWord_canCfg : writeWord 0x40000 v s = writeCanCfg v s := rfl

/-- Settles O39: each row's word falls on one fault register of its block, or on CAN_CFG. -/
theorem faultAndCanRegisterRows : Obligations.FaultAndCanRegisterRows := by
  intro h v b src k param s
  refine ⟨fun hW => ?clear, fun hW => ?record, fun hW => ?stimulus, fun hW => ?tally, fun hW => ⟨?enable, ?recover⟩⟩
  case clear => exact next_wrote (by omega) hW ((writeWord_flt (by decide) (by decide)).trans fltPut_stat)
  case record =>
    exact next_wrote (by omega) hW ((writeWord_inject (stim := 0) (param := 0) src.isLt (by decide) (by decide)).trans (if_neg (by decide)))
  case stimulus => exact next_wrote (by omega) hW ((writeWord_inject src.isLt (by decide) param.isLt).trans (if_pos rfl))
  case tally =>
    refine next_wrote (by omega) hW ?_
    rw [Nat.add_assoc]
    exact (writeWord_flt (by omega) (by omega)).trans (fltPut_tally k.isLt)
  case enable => exact next_wrote (by decide) hW writeWord_canCfg
  case recover => exact next_wrote (by decide) hW writeWord_canCfg

end Sys2Proof
end

section
/-!
CAN FD (R387 to R399): what a frame received brings by its identifier, the transmit queue, and the error counters.
-/
namespace Sys2Proof
open Sys2Proof.Machine
variable {id : Nat} {d : Byte} {rest data b : Bytes} {e : CanErr} {s t : State}

/-! A frame is received without error (R387, R389). -/

/-- Only the receive error counter and the free values move. -/
theorem canRxGood_frame (s : State) :
    (canRxGood s).sys = s.sys ∧ (canRxGood s).regs = s.regs ∧ (canRxGood s).can.reasm = s.can.reasm := by
  unfold canRxGood
  split
  case isTrue => exact ⟨rfl, rfl, rfl⟩
  case isFalse =>
    split
    case isTrue => exact ⟨rfl, rfl, rfl⟩
    case isFalse => simp

theorem canRxGood_side (s : State) : (canRxGood s).side = s.side := by
  obtain ⟨-, hregs, -⟩ := canRxGood_frame s
  rw [State.side, State.rfld, State.reg, hregs]
  rfl

theorem canRxGood_canBase (s : State) : (canRxGood s).canBase = s.canBase := by
  obtain ⟨hsys, hregs, -⟩ := canRxGood_frame s
  rw [State.canBase, State.rfld, State.reg, hsys, hregs]
  rfl

/-- One bit names the side (R389). -/
theorem side_lt (s : State) : s.side < 2 := Nat.mod_lt _ (by decide)

section
variable (hon : s.canOn = true)
include hon

/-- Offset 1 carries time messages (R392). -/
theorem rxCan_time (hid : id = s.canBase + 1) : rxCan id data s = tsyMsg 2 data false (canRxGood s) := by
  have hoff : id - s.canBase = 1 := by omega
  have hrange : ¬(id < s.canBase ∨ 16 ≤ 1) := by omega
  have hsent : ¬(1 = 4 + s.side ∨ 1 = 6 + s.side ∨ 1 = 8 + s.side) := by omega
  simp only [rxCan, canRx, hon, Bool.not_true, Bool.false_eq_true, if_false, canRxGood_canBase, canRxGood_side, hoff, hrange, hsent, if_true]

/-- A frame under an identifier of this side's own answers is recorded (R389). -/
theorem rxCan_own (hid : id = s.canBase + 4 + s.side) : rxCan id data s = record bCAN 5 noUnit (canRxGood s) := by
  have hside := side_lt s
  have hoff : id - s.canBase = 4 + s.side := by omega
  have hrange : ¬(id < s.canBase ∨ 16 ≤ 4 + s.side) := by omega
  simp only [rxCan, canRx, hon, Bool.not_true, Bool.false_eq_true, if_false, canRxGood_canBase, canRxGood_side, hoff, hrange, true_or, if_true]

/-- A fragment under the identifier of this side's commands leaves what the reassembly makes of it; a completed packet goes on in its own
length (R390). -/
theorem rxCan_cmd {o : Option Bytes} (hid : id = s.canBase + 2 + s.side) (hfrag : fragmentRx id data (canRxGood s) = (t, o)) :
    rxCan id data s = o.elim t (fun b => rxCmd .can 0 (b.take (carriedLen (2 + s.side) t.sys.profileL b)) t) := by
  have hside := side_lt s
  have hoff : id - s.canBase = 2 + s.side := by omega
  have hrange : ¬(id < s.canBase ∨ 16 ≤ 2 + s.side) := by omega
  have hsent : ¬(2 + s.side = 4 + s.side ∨ 2 + s.side = 6 + s.side ∨ 2 + s.side = 8 + s.side) := by omega
  have htime : ¬2 + s.side = 1 := by omega
  have hsafety : ¬2 + s.side = 0 := by omega
  simp only [rxCan, canRx, hon, Bool.not_true, Bool.false_eq_true, if_false, canRxGood_canBase, canRxGood_side, hoff, hrange, hsent, htime,
    hsafety, or_true, if_true, hfrag]
  cases o with
  | none => rfl
  | some b => rfl

end

/-! Fragments (R391). -/

/-- Index 0 under an identifier begins anew: no discard has been recorded there, and nothing is under reassembly. -/
def begun (id : Nat) (s : State) : State :=
  (s.onCan (fun c => { c with broken := c.broken.filter (· != id) })).onCan (fun c => { c with reasm := c.reasm.filter (fun x => x.id != id) })

/-- The first fragment of a packet is the whole of it, or opens a reassembly. -/
theorem fragmentRx_first (hnone : s.can.reasm.find? (fun r => r.id == id) = none) (hidx : d.toNat % 16 = 0) (hlast : d.toNat / 16 ≤ 8) :
    fragmentRx id (d :: rest) s =
      if 0 < d.toNat / 16 then ((begun id s).onCan (fun c => { c with reasm := ⟨id, 1, d.toNat / 16, rest⟩ :: c.reasm }), none)
      else (begun id s, some rest) := by
  have hhead : numAt (d :: rest) 0 1 = d.toNat := numAt_one (d :: rest) 0
  unfold fragmentRx
  simp only [hhead, hnone, hidx, hlast]
  rfl

theorem reasmTimeoutEvent_pending (h : s.can.reasm.any (fun r => r.id == id) = true) : reasmTimeoutEvent id s = reasmFail id s := if_pos h

/-! Transmission (R161, R394). -/

section
variable {p : CanTx} {more : List CanTx} {f g : Bytes} {fs : List Bytes}

theorem txTimeoutEvent_withdraws (hq : s.can.txq = p :: more) :
    txTimeoutEvent s = record bCAN 4 noUnit ((s.onCan (fun c => { c with txq := more })).bump 0x40014 16 16 1) := by
  rw [txTimeoutEvent, hq]

/-- The front frame f of the queue has been sent, which leaves q. -/
def frameSent (p : CanTx) (f : Bytes) (q : List CanTx) (s : State) : State :=
  s.onCan (fun c => { c with sent := c.sent ++ [(s.canBase + p.off, f)], txErr := c.txErr - 1, txq := q })

/-- A packet whose last frame has been sent is delivered. -/
theorem canTxCompleteEvent_last (hq : s.can.txq = p :: more) (hon : s.canOn = true) (hf : p.frames = [f]) (ht : p.tsy = none) :
    canTxCompleteEvent s = markDelivered p.tag (frameSent p f more s) := by
  simp only [canTxCompleteEvent, hq, hon, hf, ht]
  rfl

theorem canTxCompleteEvent_more (hq : s.can.txq = p :: more) (hon : s.canOn = true) (hf : p.frames = f :: g :: fs) (ht : p.tsy = none) :
    canTxCompleteEvent s = frameSent p f ({ p with frames := g :: fs } :: more) s := by
  simp only [canTxCompleteEvent, hq, hon, hf, ht]
  rfl

end

/-! Errors on the bus and bus-off (R387, R396, R399). -/

theorem busOffEvent_on (hon : s.canOn = true) :
    busOffEvent s = record bCAN 2 noUnit (s.onCan (fun c => { c with busOff := true, recovering := s.rfld 0x40000 1 1 == 1, reasm := [] })) :=
  if_neg (bnot_ne_true hon)

theorem busOffRecoveredEvent_started (hoff : s.can.busOff = true) (hrec : s.can.recovering = true) :
    busOffRecoveredEvent s = flush (s.onCan (fun c => { c with busOff := false, recovering := false, txErr := 0, rxErr := 0 })) :=
  if_pos (Bool.and_eq_true_iff.mpr ⟨hoff, hrec⟩)

/-- The transmit error counter as an error of kind e raises it. -/
def txRaised (e : CanErr) (s : State) : Nat := s.can.txErr + (errCounts e).1
/-- The receive error counter as it raises it. -/
def rxRaised (e : CanErr) (s : State) : Nat := s.can.rxErr + (errCounts e).2

/-- The counters are held in eight bits. -/
def errCounted (e : CanErr) (s : State) : State :=
  s.onCan (fun c => { c with txErr := Nat.min 255 (txRaised e s), rxErr := Nat.min 255 (rxRaised e s) })

/-- A counter reaches 96. -/
abbrev Warns (e : CanErr) (s : State) : Prop := (s.can.txErr < 96 ∧ 96 ≤ txRaised e s) ∨ (s.can.rxErr < 96 ∧ 96 ≤ rxRaised e s)

/-- Both counters lie below 128 until one reaches it. -/
abbrev TurnsPassive (e : CanErr) (s : State) : Prop :=
  s.can.txErr < 128 ∧ s.can.rxErr < 128 ∧ (128 ≤ txRaised e s ∨ 128 ≤ rxRaised e s)

def warnNoted (e : CanErr) (s : State) : State := if Warns e s then record bCAN 0 noUnit (errCounted e s) else errCounted e s

def passiveNoted (e : CanErr) (s : State) : State := if TurnsPassive e s then record bCAN 1 noUnit (warnNoted e s) else warnNoted e s

/-- 256 of the transmit counter, which its eight bits do not hold, is bus-off. -/
theorem canErrorEvent_on (hon : s.canOn = true) :
    canErrorEvent e s = if 256 ≤ txRaised e s then busOffEvent (passiveNoted e s) else passiveNoted e s := by
  rw [canErrorEvent, if_neg (bnot_ne_true hon)]
  simp only [Bool.or_eq_true, Bool.and_eq_true, decide_eq_true_eq, and_assoc]
  rfl

/-- An error raises one counter at most, by 8 at most (ISO 11898-1, log entry 98). -/
theorem errCounts_le (e : CanErr) : (errCounts e).1 ≤ 8 ∧ (errCounts e).2 ≤ 8 ∧ ((errCounts e).1 = 0 ∨ (errCounts e).2 = 0) := by
  cases e <;> decide

/-- Settles O49: a frame received by its identifier, a fragment by its index, the transmit queue by its front, an error by what it makes the
counters reach. -/
theorem canEvents : Obligations.CanEvents := by
  intro id d rest data sending special s G
  obtain ⟨hsys, -, hreasm⟩ := canRxGood_frame s
  refine ⟨fun hon hid hnone hd => ?single, fun hon hid hnone hidx hmore hlast => ?opens, fun hany => ?timeout, fun hon hid => ?time,
    fun hon hid => ?own, fun hon => ?busOff, fun hoff hrec => ?recovered, fun p more hq => ⟨?withdraws, fun f hon hf ht => ?sentLast,
    fun f g fs hon hf ht => ?sentMore⟩, fun hon => ?errors⟩
  case single =>
    have hfrag := (fragmentRx_first (d := d) (rest := rest) (s := G) (hreasm ▸ hnone) (by omega) (by omega)).trans (if_neg (by omega))
    have hprofile : (begun id.toNat G).sys.profileL = s.sys.profileL := congrArg Sys.profileL hsys
    exact next_settle ((rxCan_cmd hon hid hfrag).trans (by rw [hprofile]; rfl))
  case opens =>
    have hfrag := (fragmentRx_first (rest := rest) (s := G) (hreasm ▸ hnone) hidx hlast).trans (if_pos hmore)
    exact next_settle (rxCan_cmd hon hid hfrag)
  case timeout => exact next_settle (reasmTimeoutEvent_pending hany)
  case time => exact next_settle (rxCan_time hon hid)
  case own => exact next_settle (rxCan_own hon hid)
  case busOff => exact next_settle (busOffEvent_on hon)
  case recovered => exact next_settle (busOffRecoveredEvent_started hoff hrec)
  case withdraws => exact next_settle (txTimeoutEvent_withdraws hq)
  case sentLast => exact next_settle (canTxCompleteEvent_last hq hon hf ht)
  case sentMore => exact next_settle (canTxCompleteEvent_more hq hon hf ht)
  case errors =>
    obtain ⟨htx, hrx, hone⟩ := errCounts_le (CanErr.of sending special)
    have hevent := canErrorEvent_on (e := CanErr.of sending special) hon
    unfold passiveNoted warnNoted Warns TurnsPassive txRaised rxRaised at hevent
    refine ⟨fun ht hr => ?counted, fun ht hr h96 => ?warns, fun ht hr ht' hr' h128 => ?passive, fun ht ht' h256 => ?off⟩
    case counted => exact next_settle (hevent.trans ((if_neg (by omega)).trans ((if_neg (by omega)).trans (if_neg (by omega)))))
    case warns => exact next_settle (hevent.trans ((if_neg (by omega)).trans ((if_neg (by omega)).trans (if_pos (by omega)))))
    case passive =>
      exact next_settle (hevent.trans ((if_neg (by omega)).trans ((if_pos (by omega)).trans (congrArg (record bCAN 1 noUnit) (if_neg (by omega))))))
    case off => exact next_settle (hevent.trans ((if_pos (by omega)).trans (congrArg busOffEvent ((if_neg (by omega)).trans (if_neg (by omega))))))

end Sys2Proof
end

section
/-!
Recording an event (R402, R403, R407, R408): what a block holds, queues and marks of an event, and its place among the blocks.
-/
namespace Sys2Proof
open Sys2Proof.Machine
variable {a b src t : Nat} {x : FltArg} {e : FltEvent} {h : FltHeld} {f : FltBlock} {s : State}

/-! The blocks. -/

theorem flts_onFlts_same {g : FltBlock → FltBlock} (hb : b < s.flt.length) : (onFlts b g s).flts b = g (s.flts b) := by
  simp [onFlts, State.flts, hb]

theorem flts_onFlts_other {g : FltBlock → FltBlock} (hab : a ≠ b) : (onFlts b g s).flts a = s.flts a := by
  simp [onFlts, State.flts, List.getElem?_set_ne hab.symm]

/-! FLT_FIRST, FLT_SECOND and the queue (R402, R403). -/

/-- What the queue holds of an event besides its marks as FLT_FIRST or FLT_SECOND. -/
def evtFacts (e : FltEvent) : Nat × Nat × Nat × Word × Word × DevState := (e.src, e.sev, e.tick, e.unit, e.value, e.state)

/-- FLT_FIRST and FLT_SECOND change neither FLT_STAT nor the queue. -/
@[simp] theorem holdEvt_rest : (holdEvt h t f).stat = f.stat ∧ (holdEvt h t f).queue = f.queue := by
  unfold holdEvt
  split
  case h_1 => exact ⟨rfl, rfl⟩
  case h_2 =>
    split
    case isTrue => exact ⟨rfl, rfl⟩
    case isFalse => split <;> exact ⟨rfl, rfl⟩

theorem holdEvt_empty (hf : f.first = none) : (holdEvt h t f).first = some h ∧ (holdEvt h t f).firstTs = t := by
  unfold holdEvt
  rw [hf]
  exact ⟨rfl, rfl⟩

/-- The queue takes an event without a change of FLT_STAT and FLT_FIRST. -/
@[simp] theorem queueEvt_rest : (queueEvt e f).stat = f.stat ∧ (queueEvt e f).first = f.first ∧ (queueEvt e f).firstTs = f.firstTs := by
  unfold queueEvt
  split
  case isTrue => exact ⟨rfl, rfl, rfl⟩
  case isFalse => split <;> exact ⟨rfl, rfl, rfl⟩

theorem queueEvt_room (hroom : f.queue.length < 16) : (queueEvt e f).queue = f.queue ++ [e] := by
  rw [queueEvt, if_pos hroom]

/-- A change of an element that a view does not see is not seen in the list. -/
theorem map_modFirst {α β : Type} {p : α → Bool} {g : α → α} {view : α → β} (hview : ∀ y, view (g y) = view y) (l : List α) :
    (modFirst p g l).map view = l.map view := by
  induction l with
  | nil => rfl
  | cons y l ih =>
    rw [modFirst]
    split
    case isTrue => rw [List.map_cons, hview, List.map_cons]
    case isFalse => rw [List.map_cons, ih, List.map_cons]

@[simp] theorem markHeld_rest : (markHeld t f).stat = f.stat ∧ (markHeld t f).first = f.first ∧ (markHeld t f).firstTs = f.firstTs := by
  unfold markHeld
  split <;> exact ⟨rfl, rfl, rfl⟩

/-- Marking an entry as FLT_FIRST or FLT_SECOND leaves the facts of every entry. -/
theorem mark_facts {p : FltEvent → Bool} (q : List FltEvent) :
    (modFirst p (fun e => { e with first := true }) q).map evtFacts = q.map evtFacts ∧
      (modFirst p (fun e => { e with second := true }) q).map evtFacts = q.map evtFacts :=
  ⟨map_modFirst (g := fun e => { e with first := true }) (fun _ => rfl) q,
    map_modFirst (g := fun e => { e with second := true }) (fun _ => rfl) q⟩

/-- Taking the marks from the entries of a tick leaves them as well. -/
theorem unmark_facts {c : Bool} (q : List FltEvent) :
    (q.map (fun e => if e.tick = t then { e with first := false, second := false, coincident := c } else e)).map evtFacts = q.map evtFacts := by
  rw [List.map_map]
  refine List.map_congr_left (fun e _ => ?_)
  dsimp only [Function.comp_apply]
  split <;> rfl

/-- The marks leave every entry of the queue in its place, with its facts. -/
theorem markHeld_facts : (markHeld t f).queue.map evtFacts = f.queue.map evtFacts := by
  unfold markHeld
  split
  case isTrue => rfl
  case isFalse =>
    dsimp only
    repeat' split
    all_goals simp only [mark_facts, unmark_facts]

/-! What recordBase leaves. -/

/-- The block of the event holds, queues and marks it, after its bit of FLT_STAT is set and its tally has counted it; a tally that is
reached can only raise the severity (R409). -/
theorem recordBase_block (b src : Nat) (x : FltArg) (s : State) :
    ∃ (hit : Bool) (e : FltEvent) (f : FltBlock),
      let base := Nat.max x.minSev ((s.flts b).sev src)
      let sev := (recordBase b src x s).2.1
      (recordBase b src x s).1 =
        onFlts b (fun _ => markHeld s.tick (queueEvt e (holdEvt { src := src, sev := sev, tally := hit, injected := x.injected } s.tick f))) s ∧
      evtFacts e = (src, sev, s.tick, x.unit, x.value, s.sys.st) ∧ (sev = if hit then Nat.max base (tallySev b src) else base) ∧
      f.stat = (s.flts b).stat ||| BitVec.twoPow 32 src ∧ f.first = (s.flts b).first ∧ f.queue = (s.flts b).queue :=
  ⟨_, _, _, rfl, rfl, rfl, rfl, rfl, rfl⟩

/-- Settles O10: the block that the event is recorded in, field by field; the severity alone decides the reaction. -/
theorem recordingAnEvent : Obligations.RecordingAnEvent := by
  intro b src x s hb hlen R sev
  obtain ⟨hit, e, f, hR, hfacts, hsev, hstat, hfirst, hqueue⟩ := recordBase_block b src x s
  have hblock := (congrArg (State.flts · b) hR).trans (flts_onFlts_same (hlen.symm ▸ hb))
  refine ⟨?stat, fun a hab => ?others, ?frame, ?severity, fun hempty => ⟨?first, ?firstTs⟩, fun hroom => ?queue,
    fun hsub => if_neg hsub, fun hcrit => if_pos hcrit⟩
  case stat => exact (congrArg FltBlock.stat hblock).trans (by simp [hstat])
  case others => exact (congrArg (State.flts · a) hR).trans (flts_onFlts_other hab)
  case frame => simp only [R, hR]; rfl
  case severity =>
    refine le_of_le_of_eq ?_ hsev.symm
    split
    case isTrue => exact Nat.le_max_left _ _
    case isFalse => exact Nat.le_refl _
  case first =>
    have hheld : (R.flts b).first = some { src := src, sev := sev, tally := hit, injected := x.injected } :=
      (congrArg FltBlock.first hblock).trans (by simp [holdEvt_empty (hfirst.trans hempty), sev])
    exact congrArg (Option.map _) hheld
  case firstTs => exact (congrArg FltBlock.firstTs hblock).trans (by simp [holdEvt_empty (hfirst.trans hempty)])
  case queue =>
    have hentries : (R.flts b).queue.map evtFacts = (s.flts b).queue.map evtFacts ++ [(src, sev, s.tick, x.unit, x.value, s.sys.st)] := by
      rw [congrArg FltBlock.queue hblock, markHeld_facts, queueEvt_room (by simpa [hqueue] using hroom)]
      simp [hqueue, hfacts, sev]
    refine ⟨by simpa using congrArg List.length hentries, ?_⟩
    calc (R.flts b).queue.getLast?.map evtFacts = ((R.flts b).queue.map evtFacts).getLast? := List.getLast?_map.symm
      _ = some (src, sev, s.tick, x.unit, x.value, s.sys.st) := by rw [hentries, List.getLast?_concat]

end Sys2Proof
end

section
/-!
FAULT_QUERY, FAULT_CLEAR, LOG_READ, DUMP_READ and DUMP_CLEAR (R164, R414 to R416, R423, R425, R427): what each body makes of parameters of
its form.
-/
namespace Sys2Proof
open Sys2Proof.Machine
variable {op n : Nat} {b k : Byte} {h : CmdHdr} {ps : Bytes} {s T : State}

/-! Acceptance changes nothing that the five bodies read. -/

theorem taken_flts : (taken op h ps s).flts n = s.flts n := by simp [State.flts]

theorem taken_fltRecord (n : Nat) : (taken op h ps s).fltRecord n = s.fltRecord n := by
  simp [State.fltRecord, taken_flts, taken_now]

theorem taken_nvm : (taken op h ps s).nvm = s.nvm := by simp

theorem taken_fltOrder : (taken op h ps s).fltOrder = s.fltOrder := by simp [State.fltOrder, taken_flts]

/-! FAULT_QUERY and FAULT_CLEAR (R414 to R416). -/

theorem opBody_faultQuery_block (hb : b.toNat < 16) :
    opBody 0x600 (bodyCtx (ctxOf 0x600 h [b] s)) T = answer (okData (T.fltRecord b.toNat)) T := by
  have hn : numAt [b] 0 1 = b.toNat := numAt_one [b] 0
  have hall : ¬b.toNat = 0xFF := by omega
  unfold opBody bodyFaultQuery
  simp only [bctx_params, hn, hall, Nat.not_le.mpr hb, List.length_singleton, ne_eq, not_true_eq_false, if_false]

theorem opBody_faultQuery_all :
    opBody 0x600 (bodyCtx (ctxOf 0x600 h [0xFF] s)) T = answer (okData (T.fltOrder.flatMap T.fltRecord)) T := by
  have hall : numAt [0xFF] 0 1 = 0xFF := rfl
  unfold opBody bodyFaultQuery
  simp only [bctx_params, hall, List.length_singleton, ne_eq, not_true_eq_false, if_false, if_true]

/-- The block exists, and the mask names sources of it (R416). -/
theorem opBody_faultClear (h5 : ps.length = 5) (hblk : numAt ps 0 1 < 16) (hmask : (u32At ps 1).toNat / 2 ^ (srcSevs (numAt ps 0 1)).length = 0) :
    opBody 0x601 (bodyCtx (ctxOf 0x601 h ps s)) T =
      didData (leOf 4 ((clearStat (numAt ps 0 1) (u32At ps 1) T).flts (numAt ps 0 1)).stat) (clearStat (numAt ps 0 1) (u32At ps 1) T) := by
  unfold opBody bodyFaultClear
  simp only [bctx_params, h5, hmask, Nat.not_le.mpr hblk, ne_eq, not_true_eq_false, if_false]

/-! LOG_READ (R164, R423). -/

/-- What LOG_READ asks for: one of the two logs, and 1 to 64 records. -/
structure LogForm (ps : Bytes) : Prop where
  size : ps.length = 7
  least : 1 ≤ numAt ps 5 2
  most : numAt ps 5 2 ≤ 64
  log : numAt ps 0 1 ≤ 1

/-- The records of the log named from the number named on; none where it lies beyond the newest. -/
def logFound (ps : Bytes) (T : State) : Option (List Bytes) :=
  if numAt ps 0 1 = 0 then logFrom T.clap.log (T.clap.logSeq - 1) (u32At ps 1)
  else (logFrom T.clap.ledger T.clap.ledgerSeq (u32At ps 1)).map (fun l => l.map entryBytes)

theorem opBody_logRead (hF : LogForm ps) :
    opBody 0x602 (bodyCtx (ctxOf 0x602 h ps s)) T =
      (logFound ps T).elim (no (badParam 1) T) (fun rs => answer (okData (wholeRecs (rs.take (numAt ps 5 2)) 4096)) T) := by
  obtain ⟨hsize, hleast, hmost, hlog⟩ := hF
  have hcount : ¬(numAt ps 5 2 < 1 ∨ 64 < numAt ps 5 2) := by omega
  unfold opBody bodyLogRead logFound
  simp only [bctx_params, hsize, hcount, Nat.not_lt.mpr hlog, ne_eq, not_true_eq_false, if_false]
  split
  case isTrue => cases logFrom T.clap.log (T.clap.logSeq - 1) (u32At ps 1) <;> rfl
  case isFalse => cases logFrom T.clap.ledger T.clap.ledgerSeq (u32At ps 1) <;> rfl

/-! DUMP_READ and DUMP_CLEAR (R425, R427). -/

/-- What DUMP_READ asks for: one of the two slots, and 4 to 4,096 bytes within it. -/
structure DumpForm (ps : Bytes) : Prop where
  size : ps.length = 7
  slot : numAt ps 0 1 ≤ 1
  least : 4 ≤ numAt ps 5 2
  most : numAt ps 5 2 ≤ 4096
  inside : numAt ps 1 4 + numAt ps 5 2 ≤ 0x80000

theorem opBody_dumpRead (hF : DumpForm ps) :
    opBody 0x603 (bodyCtx (ctxOf 0x603 h ps s)) T =
      if (T.nvm.dumps.getD (numAt ps 0 1) dumpFree).state = 0 then no (badParam 0) T
      else answer (okData (dumpRun (T.nvm.dumps.getD (numAt ps 0 1) dumpFree) (numAt ps 1 4) (numAt ps 5 2))) T := by
  obtain ⟨hsize, hslot, hleast, hmost, hinside⟩ := hF
  have hcount : ¬(numAt ps 5 2 < 4 ∨ 4096 < numAt ps 5 2) := by omega
  unfold opBody bodyDumpRead
  simp only [bctx_params, hsize, hcount, Nat.not_lt.mpr hslot, Nat.not_lt.mpr hinside, ne_eq, not_true_eq_false, false_or, if_false]

/-- Slot n is free, and its state lies in MRAM (R427). -/
def dumpFreed (n : Nat) (T : State) : State :=
  touchMram (0x554000 + n * 0x80000 + 4) 1 (T.onNvm (fun v => { v with dumps := v.dumps.set n { v.dumps.getD n dumpFree with state := 0 } }))

theorem opBody_dumpClear (hk : k.toNat ≤ 1) :
    opBody 0x604 (bodyCtx (ctxOf 0x604 h [k] s)) T =
      if (T.nvm.dumps.getD k.toNat dumpFree).state = 0 then did T else did (dumpFreed k.toNat T) := by
  have hn : numAt [k] 0 1 = k.toNat := numAt_one [k] 0
  unfold opBody bodyDumpClear dumpFreed
  simp only [bctx_params, hn, Nat.not_lt.mpr hk, List.length_singleton, ne_eq, not_true_eq_false, if_false]

/-- Settles O30: what a body reads stands as acceptance found it, and what it finds decides its answer. -/
theorem faultAndLogCommands : Obligations.FaultAndLogCommands := by
  intro h ps s
  refine ⟨fun b hA => ⟨fun hb => ?block, fun hb => ?all⟩, fun hA h5 hblk hmask => ?clear, fun hA h7 hleast hmost hlog => ?log,
    fun hA h7 hslot hleast hmost hinside => ?dump, fun k hA hk => ?free⟩
  case block =>
    exact next_replied hA (by decide) ((opBody_faultQuery_block hb).trans (by rw [taken_fltRecord]; rfl)) (.inl rfl)
  case all =>
    subst hb
    have hrecords : (taken 0x600 h [0xFF] s).fltRecord = s.fltRecord := funext taken_fltRecord
    exact next_replied hA (by decide) (opBody_faultQuery_all.trans (by rw [taken_fltOrder, hrecords]; rfl)) (.inl rfl)
  case clear => exact next_replied hA (by decide) (opBody_faultClear h5 hblk hmask) (.inl rfl)
  case log =>
    intro T found
    have hbody := opBody_logRead (h := h) (s := s) (T := T) ⟨h7, hleast, hmost, hlog⟩
    refine ⟨fun rs (hfound : logFound ps T = some rs) => ?records, fun (hfound : logFound ps T = none) => ?beyond⟩
    all_goals
      rw [hfound] at hbody
      exact next_replied hA (by decide) hbody (.inl rfl)
  case dump =>
    intro d
    have hbody := opBody_dumpRead (h := h) (s := s) (T := taken 0x603 h ps s) ⟨h7, hslot, hleast, hmost, hinside⟩
    rw [taken_nvm] at hbody
    exact ⟨fun hheld => next_replied hA (by decide) (hbody.trans (if_neg hheld)) (.inl rfl),
      fun hfree => next_replied hA (by decide) (hbody.trans (if_pos hfree)) (.inl rfl)⟩
  case free =>
    intro T d
    have hT : T.nvm = s.nvm := taken_nvm
    have hbody := opBody_dumpClear (h := h) (s := s) (T := T) hk
    rw [hT] at hbody
    exact ⟨fun hfree => next_replied hA (by decide) (hbody.trans (if_pos hfree)) (.inl rfl),
      fun hheld => next_replied hA (by decide) (hbody.trans (if_neg hheld)) (.inl rfl)⟩

end Sys2Proof
end

section
/-!
The log pass and its windows of a rate, the end of a lockout, verification of a staged image, scans, and the limit of calibrations (R414,
R422, R478, R516, R535, R541).
-/
namespace Sys2Proof
open Sys2Proof.Machine
variable {blk kind src unit a : Nat} {ueAt : Option Nat} {ceAt : List Nat} {mram : Nat → Byte} {w : RateWin} {c : Scan} {s : State}

/-! The log (R414, R422). -/

/-- What a pass takes up, in the order of the keys: the events of every block and the records that wait. -/
def passItems (s : State) : List (PassItem × Option FltEvent) :=
  sortBy (fun a b => evLt a.1.key b.1.key)
    ((List.range 16).flatMap (fun b => (s.flts b).queue.map (fun e => (e.item b, some e))) ++ s.clap.logPend.map (fun l => (l.item, none)))

/-- An item is logged, and an event posts its EVT; the event of a confirmation has its PIXEL_CONFIRM record alone (R330). -/
def passItem (s : State) (i : PassItem × Option FltEvent) : State :=
  match i.2 with
  | some e => evtFault e i.1.blk (if e.pixel i.1.blk then s else logPass i.1 s)
  | none => logPass i.1 s

/-- The queues of the blocks are emptied, and no record waits. -/
def itemsTaken (s : State) : State :=
  (s.onFlt (fun l => l.map (fun f => { f with queue := [] }))).onClap (fun c => { c with logPend := [] })

theorem logPassAll_running (hr : s.clap.restarting = false) : logPassAll s = (passItems s).foldl passItem (itemsTaken s) :=
  if_neg (ne_true_of_eq_false hr)

theorem logCoalesce_running (hr : s.clap.restarting = false) :
    logCoalesce blk kind src s = (s.rateWin blk kind src).elim s (fun w => closeWin w s) := by
  rw [logCoalesce, if_neg (ne_true_of_eq_false hr)]
  cases s.rateWin blk kind src <;> rfl

/-! STAGE_VERIFY_DONE (R541). -/

theorem stageVerify_staged (hst : s.sec.stage = 2) :
    stageVerify s =
      if imgGood s s.stageRegion = true then s.onSec (fun k => { k with stage := 3 })
      else record bSEC 3 (atUnit s.stageRegion) (rollback s.stageRegion (s.onSec (fun k => { k with stage := 4 }))) :=
  if_pos hst

/-! CV_SCAN_DONE (R516). -/

/-- A scan has read up to an address: the reads that ECC corrected there are counted and recorded. -/
def scannedTo (c : Scan) (ceAt : List Nat) (e : Nat) (s : State) : State :=
  scanCe c (ceAt.filter (fun a => decide (c.start ≤ a) && decide (a < e))) s

theorem cvScanEvent_clean (hc : s.cv.scan = some c) :
    cvScanEvent none ceAt mram s =
      scanDone c (if c.space = 0 then fun a => (scannedTo c ceAt (c.start + c.len) s).storeByte (a - storeBase) else mram)
        (scannedTo c ceAt (c.start + c.len) s) := by
  rw [cvScanEvent, hc]
  rfl

/-- A word within the range that ECC cannot correct ends the scan there. -/
theorem cvScanEvent_uncorrectable (hc : s.cv.scan = some c) (hlow : c.start ≤ a) (hhigh : a < c.start + c.len) :
    cvScanEvent (some a) ceAt mram s = scanError c a (scannedTo c ceAt a s) := by
  have hin : (some a).filter (fun a => decide (c.start ≤ a) && decide (a < c.start + c.len)) = some a := by simp [hlow, hhigh]
  rw [cvScanEvent, hc]
  dsimp only
  rw [hin]
  rfl

theorem cvScanEvent_idle (hc : s.cv.scan = none) : cvScanEvent ueAt ceAt mram s = s := by
  rw [cvScanEvent, hc]

/-- Settles O59: each row by what lets it act; a restart holds back the log and the calibrations alone. -/
theorem clapperEvents : Obligations.ClapperEvents := by
  intro blk kind src ueAt ceAt unit s
  refine ⟨fun hr => ⟨?logs, fun w hw => ?closes, fun hw => ?noWindow, ?calLimit⟩, fun hr => ⟨?noLog, ?noClose, ?noLimit⟩, ?lockout,
    fun hst hgood => ?verified, fun hst hbad => ?refused, fun hst => ?notStaged,
    fun c hc => ⟨fun hue hspace => ?store, fun hue hspace => ?mram, fun a hue hlow hhigh => ?uncorrectable⟩, fun hc => ?noScan⟩
  case logs => exact next_settle (logPassAll_running hr)
  case closes => exact next_settle ((logCoalesce_running hr).trans (by rw [hw]; rfl))
  case noWindow => exact next_settle ((logCoalesce_running hr).trans (by rw [hw]; rfl))
  case calLimit => exact next_settle (if_neg (ne_true_of_eq_false hr))
  case noLog => exact next_settle (if_pos hr)
  case noClose => exact next_settle (if_pos hr)
  case noLimit => exact next_settle (if_pos hr)
  case lockout => rfl
  case verified => exact next_settle ((stageVerify_staged hst).trans (if_pos hgood))
  case refused => exact next_settle ((stageVerify_staged hst).trans (if_neg (ne_true_of_eq_false hbad)))
  case notStaged => exact next_settle (if_neg hst)
  case store =>
    subst hue
    exact next_settle ((cvScanEvent_clean hc).trans (by rw [if_pos hspace]; rfl))
  case mram =>
    subst hue
    exact next_settle ((cvScanEvent_clean hc).trans (by rw [if_neg hspace]; rfl))
  case uncorrectable =>
    subst hue
    exact next_settle (cvScanEvent_uncorrectable hc hlow hhigh)
  case noScan => exact next_settle (cvScanEvent_idle hc)

end Sys2Proof
end

section
/-!
TIME_CONFIG and TIME_QUERY (R439, R452, R455, R456): what each body makes of parameters that pass its checks.
-/
namespace Sys2Proof
open Sys2Proof.Machine
variable {off : Nat} {m : Byte} {h : CmdHdr} {ps : Bytes} {s T : State}

/-! TIME_CONFIG (R455). -/

/-- The configuration word of a record. -/
def timeCfgWord (ps : Bytes) : Word :=
  BitVec.ofNat 32 (numAt ps 1 1 + numAt ps 2 1 % 4 * 8 + bitsN (numAt ps 2 1) 2 2 * 32 + bitsN (numAt ps 2 1) 4 1 * 128 + numAt ps 3 1 * 256 +
    bitsN (numAt ps 2 1) 5 1 * 4096)

/-- The words of the Tabor are written: its configuration, its net or phase word, and in mode CAMSYNC the CAMSYNC words. -/
def timeConfigured (ps : Bytes) (T : State) : State :=
  let n := numAt ps 0 1
  let A := T.setReg (tbA n 0x38) (timeCfgWord ps)
  let B := if n = 2 then A.setReg 0x5011C (u32At ps 8) else A.setReg (tbA n 0x3C) (BitVec.ofNat 32 (numAt ps 4 2 + numAt ps 6 2 * 2 ^ 14))
  if n = 1 ∧ numAt ps 1 1 = 2 then (B.setReg 0x50120 (u32At ps 12)).setReg 0x50124 (u32At ps 16) else B

/-- A word that Tabor n is configured by differs between two states. -/
def taborWordChanged (n : Nat) (T C : State) : Bool :=
  decide (T.reg (tbA n 0x38) ≠ C.reg (tbA n 0x38)) || decide (T.reg (tbA n 0x3C) ≠ C.reg (tbA n 0x3C)) ||
    decide (T.reg 0x5011C ≠ C.reg 0x5011C) || decide (T.reg 0x50120 ≠ C.reg 0x50120) || decide (T.reg 0x50124 ≠ C.reg 0x50124)

/-- The words are written, and a change of one of them restarts the acquisition. -/
def timeConfigTaken (ps : Bytes) (T : State) : State :=
  if taborWordChanged (numAt ps 0 1) T (timeConfigured ps T) = true then taborCfgChanged (numAt ps 0 1) (timeConfigured ps T) else timeConfigured ps T

theorem opBody_timeConfig_invalid (hbad : timeConfigBad ps T.sys.profileL T.frameBeats = some off) :
    opBody 0x500 (bodyCtx (ctxOf 0x500 h ps s)) T = no (badParam off) T := by
  unfold opBody bodyTimeConfig
  simp only [bctx_params, hbad]

/-- A record that passes its checks is refused in mode MANUAL without expert, and taken otherwise (R165, R455). -/
theorem opBody_timeConfig_valid (hgood : timeConfigBad ps T.sys.profileL T.frameBeats = none) :
    opBody 0x500 (bodyCtx (ctxOf 0x500 h ps s)) T =
      if numAt ps 1 1 = 3 ∧ expertOf h s = false then no (refuse 0x14 1 0xFFFFFFFF) T else did (timeConfigTaken ps T) := by
  unfold opBody bodyTimeConfig
  simp only [bctx_params, bctx_expert, hgood]
  rfl

/-! TIME_QUERY (R456). -/

theorem opBody_timeQuery (h0 : m ≠ 0) (h16 : m.toNat < 16) :
    opBody 0x501 (bodyCtx (ctxOf 0x501 h [m] s)) T =
      answer (okData (((List.range 4).filter (fun n => m.getLsbD n)).flatMap (taborRecord T))) T := by
  have hm : byteAt [m] 0 = m := rfl
  have hmask : ¬(m = 0 ∨ 16 ≤ m.toNat) := not_or.mpr ⟨h0, Nat.not_le.mpr h16⟩
  unfold opBody bodyTimeQuery
  simp only [bctx_params, hm, hmask, List.length_singleton, ne_eq, not_true_eq_false, if_false]
  rfl

/-- Settles O28: the checks of the record decide first, then expert; a mask names the records of a query. -/
theorem timeConfigAndQuery : Obligations.TimeConfigAndQuery := by
  intro h ps s
  refine ⟨fun hA => ⟨fun off hbad => ?invalid, fun hgood hmanual hexp => ?expert, fun hgood hmay => ?written⟩, fun m hA h0 h16 => ?query⟩
  case invalid => exact next_replied hA (by decide) (opBody_timeConfig_invalid hbad) (.inl rfl)
  case expert => exact next_replied hA (by decide) ((opBody_timeConfig_valid hgood).trans (if_pos ⟨hmanual, hexp⟩)) (.inl rfl)
  case written =>
    have hgrant : ¬(numAt ps 1 1 = 3 ∧ expertOf h s = false) := fun ⟨hmanual, hexp⟩ =>
      hmay.elim (fun hmode => hmode hmanual) (fun hyes => Bool.false_ne_true (hexp.symm.trans hyes))
    exact next_replied hA (by decide) ((opBody_timeConfig_valid hgood).trans (if_neg hgrant)) (.inl rfl)
  case query => exact next_replied hA (by decide) (opBody_timeQuery h0 h16) (.inl rfl)

end Sys2Proof
end

section
/-!
Time messages and the events of the Tabors (R440, R443 to R449): a message is decided by its format, its port and its MAC, and is handled by
its type.
-/
namespace Sys2Proof
open Sys2Proof.Machine
variable {port : Nat} {raw pl m : Bytes} {replay falling : Bool} {src : TsySrc} {c : Instr} {n : Nat} {s : State}

/-! What a message says of itself (R443). -/

/-- The Tabor that a time message is for. -/
def tsyDomain (m : Bytes) : Nat := numAt m 2 1 % 2

/-- The message says that it carries a MAC. -/
def tsyAuth (m : Bytes) : Bool := decide (numAt m 2 1 / 2 % 2 = 1)

/-- Its MAC does not verify, or it lacks one that it must carry (R444). -/
def tsyUntrusted (m : Bytes) (s : State) : Bool :=
  (tsyAuth m && !tsyMacOk m s) || (!tsyAuth m && s.tsyMacNeeded (tsyDomain m))

/-- The exchange ends, and the failure is recorded and counted (R444, R535). -/
def tsyRefused (port : Nat) (m : Bytes) (s : State) : State :=
  authFail (if port = 1 then .envex else .can) 2 (numAt m 3 1)
    (onTabor (tsyDomain m) (fun t => { t with exch := none }) (record bTABOR 10 (atUnit (tsyDomain m)) s))

/-- A message that has passed its checks is handled by its type (R444). -/
def tsyHandled (port : Nat) (m : Bytes) (replay : Bool) (s : State) : State :=
  match numAt m 1 1 with
  | 1 => tsySync (tsyDomain m) port m replay s
  | 2 => tsyFollowUp (tsyDomain m) port m replay s
  | 4 => tsyDelayResp (tsyDomain m) port m replay s
  | _ => s

theorem tsyHandled_sync (h : numAt m 1 1 = 1) : tsyHandled port m replay s = tsySync (tsyDomain m) port m replay s := by
  simp only [tsyHandled, h]

theorem tsyHandled_followUp (h : numAt m 1 1 = 2) : tsyHandled port m replay s = tsyFollowUp (tsyDomain m) port m replay s := by
  simp only [tsyHandled, h]

theorem tsyHandled_delayResp (h : numAt m 1 1 = 4) : tsyHandled port m replay s = tsyDelayResp (tsyDomain m) port m replay s := by
  simp only [tsyHandled, h]

/-! The checks of a message, in their order: its format, its Tabor's mode and port, its MAC. -/

section
variable (hformat : tsyFormat m = true)
include hformat

/-- A SYNC on the port that is not in use (R448). -/
theorem tsyMsg_otherPort (hsync : numAt m 1 1 = 1) (hport : s.portUsed (tsyDomain m) ≠ port) : tsyMsg port m replay s = s := by
  unfold tsyMsg
  rw [hformat]
  exact if_pos (Or.inr ⟨hsync, hport⟩)

section
variable (hnet : s.tMode (tsyDomain m) = 1) (hport : numAt m 1 1 = 1 → s.portUsed (tsyDomain m) = port)
include hnet hport

/-- Past the first two checks the MAC decides. -/
theorem tsyMsg_mine :
    tsyMsg port m replay s = if tsyUntrusted m s = true then tsyRefused port m s else tsyHandled port m replay s := by
  have hmine : ¬(s.tMode (tsyDomain m) ≠ 1 ∨ (numAt m 1 1 = 1 ∧ s.portUsed (tsyDomain m) ≠ port)) :=
    not_or.mpr ⟨not_not_intro hnet, fun ⟨hsync, hother⟩ => hother (hport hsync)⟩
  unfold tsyMsg
  rw [hformat]
  exact if_neg hmine

theorem tsyMsg_untrusted (hmac : tsyUntrusted m s = true) : tsyMsg port m replay s = tsyRefused port m s :=
  (tsyMsg_mine hformat hnet hport).trans (if_pos hmac)

theorem tsyMsg_trusted (hmac : tsyUntrusted m s = false) : tsyMsg port m replay s = tsyHandled port m replay s :=
  (tsyMsg_mine hformat hnet hport).trans (if_neg (ne_true_of_eq_false hmac))

end
end

/-! The rows of the time messages. -/

/-- The rows of the time messages: the type, not the row, says which message it is. -/
def timeRows (src : TsySrc) : List Instr := [.sync src, .followUp src, .delayResp src]

theorem exec_timeRow (hc : c ∈ timeRows src) : exec c s = .next (settle (rxTsy src s)) := by
  simp only [timeRows, List.mem_cons, List.not_mem_nil, or_false] at hc
  rcases hc with rfl | rfl | rfl <;> rfl

theorem timeRows_trusted {u : State} (hrx : rxTsy src u = tsyMsg port m replay s)
    (hpass : tsyMsg port m replay s = tsyHandled port m replay s) :
    (numAt m 1 1 = 1 → exec (.sync src) u = .next (settle (tsySync (tsyDomain m) port m replay s))) ∧
    (numAt m 1 1 = 2 → exec (.followUp src) u = .next (settle (tsyFollowUp (tsyDomain m) port m replay s))) ∧
    (numAt m 1 1 = 4 → exec (.delayResp src) u = .next (settle (tsyDelayResp (tsyDomain m) port m replay s))) :=
  ⟨fun h => next_settle (hrx.trans (hpass.trans (tsyHandled_sync h))),
    fun h => next_settle (hrx.trans (hpass.trans (tsyHandled_followUp h))),
    fun h => next_settle (hrx.trans (hpass.trans (tsyHandled_delayResp h)))⟩

/-- Class 6 goes to the Tabors (R110). -/
theorem rxTsy_envex (hF : Framed 6 raw pl s) : rxTsy (.envex raw) s = tsyMsg 1 pl (replayBit raw) (received 6 pl s) := by
  show rxAny raw s = _
  unfold rxAny
  rw [linkRx_framed hF]
  rfl

theorem rxTsy_can (hon : s.canOn = true) : rxTsy (.can m) s = tsyMsg 2 m false s := if_pos hon

/-! Late exchanges and holdover (R444, R447). -/

theorem exchangeTimeoutEvent_open (h : (s.tabor n).exch ≠ none) : exchangeTimeoutEvent n s = exchReject n s :=
  if_pos (Option.isSome_iff_ne_none.mpr h)

theorem netHoldover_locked (hnet : s.tMode n = 1) (hlocked : (s.tabor n).state = 2) : netHoldover n s = holdover n s := if_pos ⟨hnet, hlocked⟩

/-! CAMSYNC (R440, R449). -/

theorem camsync_noVio (hvio : s.lands = false) : camsync falling s = s := by
  unfold camsync
  rw [hvio]
  exact if_pos (by simp)

/-- The times of an edge are captured. -/
def camCaptured (s : State) : State := s.onTab (fun b => { b with camT1 := (s.tabor 1).ns, camT3 := s.now })

/-- The mode decides what becomes of an edge of the selected sense. -/
theorem camsync_selected (hrun : (s.tabor 1).running = true) (hvio : s.lands = true) (hsense : falling = (s.rfld (tbA 1 0x38) 12 1 == 1)) :
    camsync falling s = if s.tMode 1 = 2 then camEdge (camCaptured s) else camCaptured s := by
  unfold camsync
  rw [hrun, hvio, hsense, bne_self_eq_false]
  rfl

theorem camLoss_synced (hcam : s.tMode 1 = 2) (hedge : s.tab.camE0 ≠ none) :
    camLoss s = holdover 1 ((record bTABOR 7 (atUnit 1) s).onTab (fun b => { b with camE0 := none, camK := 0, camLastEdge := none, camAccepted := 0 })) :=
  if_pos ⟨hcam, Option.isSome_iff_ne_none.mpr hedge⟩

/-- Settles O47: both ports bring a message to the same checks; the events of the Tabors follow. -/
theorem timeMessages : Obligations.TimeMessages := by
  refine ⟨fun raw pl s hF => ?envex, fun m s => ?can, fun dom falling s => ⟨fun hexch => ?late, fun hnet hlocked => ?holdover,
    fun hvio => ?noVio, fun hrun hvio hsense => ?edge, fun hcam hedge => ?loss⟩⟩
  case envex =>
    intro R n auth hformat hnet
    have hrx : rxTsy (.envex raw) s = tsyMsg 1 pl (replayBit raw) R := rxTsy_envex hF
    refine ⟨fun hsync hother => ?otherPort, fun hport => ⟨fun c hc hmac => ?untrusted, fun hmac => ?trusted⟩⟩
    case otherPort => exact next_settle (hrx.trans (tsyMsg_otherPort hformat hsync hother))
    case untrusted => exact (exec_timeRow hc).trans (next_settle (hrx.trans (tsyMsg_untrusted hformat hnet hport hmac)))
    case trusted => exact timeRows_trusted hrx (tsyMsg_trusted hformat hnet hport hmac)
  case can =>
    intro n auth hon hformat hnet
    have hrx : rxTsy (.can m) s = tsyMsg 2 m false s := rxTsy_can hon
    refine ⟨fun hsync hother => ?otherPort, fun hport hmac => ?trusted⟩
    case otherPort => exact next_settle (hrx.trans (tsyMsg_otherPort hformat hsync hother))
    case trusted => exact timeRows_trusted hrx (tsyMsg_trusted hformat hnet hport hmac)
  case late => exact next_settle (exchangeTimeoutEvent_open hexch)
  case holdover => exact next_settle (netHoldover_locked hnet hlocked)
  case noVio => exact next_settle (camsync_noVio hvio)
  case edge => exact next_settle (camsync_selected hrun hvio hsense)
  case loss => exact next_settle (camLoss_synced hcam hedge)

end Sys2Proof
end

section
/-!
CAL_QUERY, TRIM_DELTA_WRITE and RESTORE_FACTORY (R460, R470, R479, R481): what each body makes of parameters of its form.
-/
namespace Sys2Proof
open Sys2Proof.Machine
variable {top : Nat} {m : Byte} {h : CmdHdr} {ps : Bytes} {s T : State}

/-- The unit and the index exist (R460, R479). -/
theorem opBody_calQuery (h2 : ps.length = 2) (hunit : calIndexMax (numAt ps 0 1) = some top) (hidx : numAt ps 1 1 ≤ top) :
    opBody 0x401 (bodyCtx (ctxOf 0x401 h ps s)) T =
      answer (okData (calBytes (numAt ps 0 1) (numAt ps 1 1) (T.calRec (numAt ps 0 1) (numAt ps 1 1)))) T := by
  unfold opBody bodyCalQuery
  simp only [bctx_params, h2, hunit, Nat.not_lt.mpr hidx, ne_eq, not_true_eq_false, if_false]

/-! TRIM_DELTA_WRITE (R470). -/

/-- What TRIM_DELTA_WRITE asks for: 1 to 2,048 entries within the array, each with a write byte of 0 or 1. -/
structure TrimForm (ps : Bytes) : Prop where
  least : 1 ≤ numAt ps 4 2
  most : numAt ps 4 2 ≤ 2048
  size : ps.length = 6 + 2 * numAt ps 4 2
  inside : numAt ps 0 4 + numAt ps 4 2 ≤ 1179648
  flags : ∀ i < numAt ps 4 2, numAt ps (7 + 2 * i) 1 ≤ 1

/-- The entries whose write byte is 1, with their values. -/
def trimVals (ps : Bytes) : List (Nat × Int) :=
  (List.range (numAt ps 4 2)).filterMap
    (fun i => if numAt ps (7 + 2 * i) 1 = 1 then some (numAt ps 0 4 + i, sgn 8 (numAt ps (6 + 2 * i) 1)) else none)

/-- They are written. -/
def trimmed (ps : Bytes) (T : State) : State := if (trimVals ps).isEmpty then T else writeGainU (trimVals ps) T

theorem TrimForm.noBadFlag (hF : TrimForm ps) : (List.range (numAt ps 4 2)).find? (fun i => decide (2 ≤ numAt ps (7 + 2 * i) 1)) = none := by
  refine List.find?_eq_none.mpr fun i hi hbad => ?_
  have hflag := hF.flags i (List.mem_range.mp hi)
  have htwo := of_decide_eq_true hbad
  omega

theorem opBody_trimDeltaWrite (hF : TrimForm ps) :
    opBody 0x402 (bodyCtx (ctxOf 0x402 h ps s)) T = didData (leOf 4 (trimmed ps T).nvm.cur.calGen) (trimmed ps T) := by
  have hflags := hF.noBadFlag
  obtain ⟨hleast, hmost, hsize, hinside, -⟩ := hF
  have hhead : ¬6 + 2 * numAt ps 4 2 < 6 := by omega
  have hcount : ¬(numAt ps 4 2 < 1 ∨ 2048 < numAt ps 4 2) := by omega
  unfold opBody bodyTrimDeltaWrite
  simp only [bctx_params, hsize, hhead, hcount, Nat.not_lt.mpr hinside, hflags, ne_eq, not_true_eq_false, if_false]
  rfl

/-! RESTORE_FACTORY (R481). -/

/-- A mask within bits 1 to 4 becomes a long command. -/
theorem opBody_restoreFactory (h0 : m ≠ 0) (hmask : m &&& 0xE1 = 0) :
    opBody 0x403 (bodyCtx (ctxOf 0x403 h [m] s)) T = (restoreStart m T, .later (.restore m)) := by
  have hm : byteAt [m] 0 = m := rfl
  unfold opBody bodyRestoreFactory
  simp only [bctx_params, hm, h0, hmask, List.length_singleton, ne_eq, not_true_eq_false, or_self, if_false]

/-- Settles O27: each body runs to its answer, or to its long command. -/
theorem calibrationCommands : Obligations.CalibrationCommands := by
  intro h ps s
  refine ⟨fun hA h2 => ?query, fun hA => ?trim, fun m hA h0 hmask => ?restore⟩
  case query =>
    intro T top hunit hidx
    exact next_replied hA (by decide) (opBody_calQuery h2 hunit hidx) (.inl rfl)
  case trim =>
    intro T n hleast hmost hsize hinside hflags
    exact next_replied hA (by decide) (opBody_trimDeltaWrite ⟨hleast, hmost, hsize, hinside, hflags⟩) (.inl rfl)
  case restore => exact next_started hA (by decide) (opBody_restoreFactory h0 hmask) (fun _ _ _ _ => LongKind.noConfusion)

end Sys2Proof
end

section
/-!
TABLE_READ and TABLE_WRITE (R469, R551 to R554, R588): a range within the table is read or written; else the first entry at fault is named.
-/
namespace Sys2Proof
open Sys2Proof.Machine
variable {x : Nat} {h : CmdHdr} {ps : Bytes} {s T : State}

/-- The first entry of the range that lies beyond the table, as an address (R553). -/
def tabPast (ps : Bytes) : Option Nat :=
  tabExcess (numAt ps 0 1) (numAt ps 4 4) (numAt ps 8 2) ((tabShape (numAt ps 0 1)).getD (0, 0, 0)).1

/-! TABLE_READ (R553). -/

section
variable (h10 : ps.length = 10) (hparams : tabParams ps (fun sh => sh.2.1) = none)
include h10 hparams

theorem opBody_tableRead_inside (hin : tabPast ps = none) :
    opBody 0x802 (bodyCtx (ctxOf 0x802 h ps s)) T =
      didData ((List.range (numAt ps 8 2)).flatMap (fun i => T.tabEntry (numAt ps 0 1) (numAt ps 4 4 + i))) (T.onFreeIdx (· + 2359296)) := by
  unfold tabPast at hin
  unfold opBody bodyTableRead
  simp only [bctx_params, h10, hparams, hin, ne_eq, not_true_eq_false, if_false]

theorem opBody_tableRead_beyond (hout : tabPast ps = some x) :
    opBody 0x802 (bodyCtx (ctxOf 0x802 h ps s)) T = no (accessViol x) T := by
  unfold tabPast at hout
  unfold opBody bodyTableRead
  simp only [bctx_params, h10, hparams, hout, ne_eq, not_true_eq_false, if_false]

end

/-! TABLE_WRITE (R588). -/

/-- The bytes of an entry as written. -/
def tabEntrySize (ps : Bytes) : Nat := ((tabShape (numAt ps 0 1)).getD (0, 0, 0)).2.2

/-- The values of a write. -/
def tabWritten (ps : Bytes) : List Nat := tabVals ps (tabEntrySize ps) (numAt ps 8 2)

/-- The write itself: the state that it leaves, and the generation. -/
def tabResult (ps : Bytes) (T : State) : State × Word := tabWrite (numAt ps 0 1) (numAt ps 4 4) (tabWritten ps) T

/-- The table takes no write at all, none under this slot, or none under the safety lock (R383, R552). -/
def tabDenied (ps : Bytes) (slot : Nat) (T : State) : Bool :=
  tabRefused (numAt ps 0 1) || (numAt ps 0 1 == 3 && !T.hasRight slot 5) || (T.locked && tabLockable (numAt ps 0 1))

/-- What TABLE_WRITE asks for: a table, its reserved bytes 0, and as many bytes as its entries take. -/
structure TableWriteForm (ps : Bytes) : Prop where
  head : 12 ≤ ps.length
  params : tabParams ps (fun sh => sh.2.2) = none
  resv : findIdx? (fun b => b ≠ 0) (sliceB ps 10 2) = none
  size : ps.length = 12 + tabEntrySize ps * numAt ps 8 2

/-- A write of this form is decided by the rights and the lock, then by the state, then by its entries and their values. -/
theorem opBody_tableWrite (hF : TableWriteForm ps) :
    opBody 0x803 (bodyCtx (ctxOf 0x803 h ps s)) T =
      if tabDenied ps (slotOf 0x803 h ps s) T = true then no (accessViol (tabAddr (numAt ps 0 1) (numAt ps 4 4))) T
      else if tabState (numAt ps 0 1) T = true then no (refuse0 0x12) T
      else
        match tabPast ps with
        | some a => no (accessViol a) T
        | none =>
          match tabValueBad (numAt ps 0 1) (tabWritten ps) with
          | some off => no (badParam off) T
          | none => didData (leOf 4 (tabResult ps T).2) (tabResult ps T).1 := by
  obtain ⟨hhead, hparams, hresv, hsize⟩ := hF
  unfold tabEntrySize at hsize
  unfold opBody bodyTableWrite
  simp only [bctx_params, bctx_slot, Nat.not_lt.mpr hhead, hparams, hresv, if_false]
  exact if_neg (not_not_intro hsize)

theorem opBody_tableWrite_denied (hF : TableWriteForm ps) (hd : tabDenied ps (slotOf 0x803 h ps s) T = true) :
    opBody 0x803 (bodyCtx (ctxOf 0x803 h ps s)) T = no (accessViol (tabAddr (numAt ps 0 1) (numAt ps 4 4))) T :=
  (opBody_tableWrite hF).trans (if_pos hd)

section
variable (hF : TableWriteForm ps) (hd : tabDenied ps (slotOf 0x803 h ps s) T = false)
include hF hd

theorem opBody_tableWrite_state (hst : tabState (numAt ps 0 1) T = true) :
    opBody 0x803 (bodyCtx (ctxOf 0x803 h ps s)) T = no (refuse0 0x12) T :=
  (opBody_tableWrite hF).trans ((if_neg (ne_true_of_eq_false hd)).trans (if_pos hst))

theorem opBody_tableWrite_written (hst : tabState (numAt ps 0 1) T = false) (hin : tabPast ps = none)
    (hvals : tabValueBad (numAt ps 0 1) (tabWritten ps) = none) :
    opBody 0x803 (bodyCtx (ctxOf 0x803 h ps s)) T = didData (leOf 4 (tabResult ps T).2) (tabResult ps T).1 := by
  rw [opBody_tableWrite hF, if_neg (ne_true_of_eq_false hd), if_neg (ne_true_of_eq_false hst), hin, hvals]

end

/-- Settles O33: the range decides a read; the rights, the state and the entries decide a write, in this order. -/
theorem tableCommands : Obligations.TableCommands := by
  intro h ps s
  refine ⟨fun hA h10 hparams => ?read, fun hA hhead hparams hresv => ?write⟩
  case read =>
    exact ⟨fun hin => next_replied hA (by decide) (opBody_tableRead_inside h10 hparams hin) (.inl rfl),
      fun x hout => next_replied hA (by decide) (opBody_tableRead_beyond h10 hparams hout) (.inl rfl)⟩
  case write =>
    intro T id sh n vals denied hsize
    have hF : TableWriteForm ps := ⟨hhead, hparams, hresv, hsize⟩
    exact ⟨fun hd => next_replied hA (by decide) (opBody_tableWrite_denied hF hd) (.inl rfl),
      fun hd hst => next_replied hA (by decide) (opBody_tableWrite_state hF hd hst) (.inl rfl),
      fun hd hst hin hvals => next_replied hA (by decide) (opBody_tableWrite_written hF hd hst hin hvals) (.inl rfl)⟩

end Sys2Proof
end

section
/-!
Regulators (R487, R490, R493, R497, R498): head shorts, regulation, and the number of phases.
-/
namespace Sys2Proof
open Sys2Proof.Machine
variable {segs : BitVec 8} {ma : Nat} {s : State}

/-! Head shorts (R490). -/

/-- The segments of a short that show no Gong pattern. -/
def shortSegs (segs : BitVec 8) (s : State) : BitVec 8 := segs &&& ~~~s.mal.gongSegs

/-- A short is recorded once. -/
def shortRecorded (s : State) : State :=
  if s.pwr.headShortDone then s else record bPWR 4 noUnit (s.onPwr (fun p => { p with headShortDone := true }))

/-- The VLED code rises by ten up to its maximum, and the short is counted for each of its segments. -/
def vledRaised (m : BitVec 8) (s : State) : State :=
  ((selN 8 (fun n => m.getLsbD n)).foldl (fun s n => s.bump (0xC0040 + 4 * n) 16 16 1) s).onPwr
    (fun p => { p with vledCode := Nat.min (vledMax s.pwr.vledArm) (p.vledCode + 10) })

theorem headShortEvent_nothing (h : s.mal.scanning = false ∨ shortSegs segs s = 0) : headShortEvent segs s = s := by
  refine if_pos ?_
  rcases h with hdark | hnone
  · rw [hdark]; rfl
  · exact (congrArg (fun m => if s.mal.scanning then m else 0) hnone).trans (ite_self _)

/-- A short of segments that are watched is recorded; whether the code rises is the regulator's part. -/
theorem headShortEvent_watched (hscan : s.mal.scanning = true) (hm : shortSegs segs s ≠ 0) :
    headShortEvent segs s =
      if (shortRecorded s).pwr.owner ≠ 2 ∨ vMode (shortRecorded s).pwr.vledArm then shortRecorded s
      else vledRaised (shortSegs segs s) (shortRecorded s) := by
  unfold headShortEvent
  rw [hscan]
  exact if_neg hm

theorem headShortEvent_raises (hscan : s.mal.scanning = true) (hm : shortSegs segs s ≠ 0) (hown : (shortRecorded s).pwr.owner = 2)
    (hmode : vMode (shortRecorded s).pwr.vledArm = false) : headShortEvent segs s = vledRaised (shortSegs segs s) (shortRecorded s) :=
  (headShortEvent_watched hscan hm).trans (if_neg (not_or.mpr ⟨not_not_intro hown, ne_true_of_eq_false hmode⟩))

theorem headShortEvent_records (hscan : s.mal.scanning = true) (hm : shortSegs segs s ≠ 0)
    (hfixed : (shortRecorded s).pwr.owner ≠ 2 ∨ vMode (shortRecorded s).pwr.vledArm = true) : headShortEvent segs s = shortRecorded s :=
  (headShortEvent_watched hscan hm).trans (if_pos hfixed)

/-- Settles O56: a short by what is watched and who regulates; each other event by its own condition. -/
theorem regulatorEvents : Obligations.RegulatorEvents := by
  intro segs ma s
  refine ⟨fun h => ?unwatched, fun hscan hm => ⟨fun hown hmode => ?raises, fun hfixed => ?records⟩, fun hown => ?vled, fun hown => ?limp,
    fun hp => ?vcore, ?hold, fun hown => ?phases, fun hown => ?limpOwner⟩
  case unwatched => exact ⟨next_settle (headShortEvent_nothing h), next_settle (headShortEvent_nothing h)⟩
  case raises =>
    have hraise := headShortEvent_raises hscan hm hown hmode
    exact ⟨next_settle hraise, next_settle hraise⟩
  case records =>
    have hrecord := headShortEvent_records hscan hm hfixed
    exact ⟨next_settle hrecord, next_settle hrecord⟩
  case vled => exact next_settle (if_pos hown)
  case limp => exact next_settle (if_pos hown)
  case vcore => exact next_settle (if_pos hp)
  case hold => rfl
  case phases => exact next_settle (if_pos hown)
  case limpOwner => exact ⟨next_settle (if_neg hown), next_settle (if_neg hown)⟩

end Sys2Proof
end

section
/-!
KEY_INSTALL, KEY_RETIRE, FW_STAGE and SERVICE_UNLOCK (R523, R526, R527, R535, R541, R543): what each body makes of parameters of its form.
-/
namespace Sys2Proof
open Sys2Proof.Machine
variable {op st off : Nat} {n : Byte} {h : CmdHdr} {ps : Bytes} {s T : State}

/-! Keys (R526, R527). -/

/-- The key of a KEY_INSTALL record, unwrapped under the key of the slot that signed it (R526). -/
def unwrappedKey (ps : Bytes) (own : Nat) (T : State) : Bytes := aesDec ((T.keyOf own).getD (zeros 16)) (sliceB ps 8 16)

section
variable (h32 : ps.length = 32)
include h32

theorem opBody_keyInstall_refused
    (hbad : keyBad ps (slotOf 0x900 h ps s) (unwrappedKey ps (slotOf 0x900 h ps s) T) T = some (st, off)) :
    opBody 0x900 (bodyCtx (ctxOf 0x900 h ps s)) T = no (refuse st off 0xFFFFFFFF) T := by
  unfold unwrappedKey at hbad
  unfold opBody bodyKeyInstall
  simp only [bctx_params, bctx_slot, h32, hbad, ne_eq, not_true_eq_false, if_false]

theorem opBody_keyInstall_sound
    (hsound : keyBad ps (slotOf 0x900 h ps s) (unwrappedKey ps (slotOf 0x900 h ps s) T) T = none) :
    opBody 0x900 (bodyCtx (ctxOf 0x900 h ps s)) T =
      did (record bSEC 5 (atUnit (numAt ps 0 1)) (changeKey (numAt ps 0 1) (fun _ =>
        { st := .active, key := unwrappedKey ps (slotOf 0x900 h ps s) T, rights := u16At ps 2, keyId := u32At ps 4, last := 0 }) T)) := by
  unfold unwrappedKey at hsound ⊢
  unfold opBody bodyKeyInstall
  simp only [bctx_params, bctx_slot, h32, hsound, ne_eq, not_true_eq_false, if_false]

end

/-- Another slot than the one that signed the command. -/
theorem opBody_keyRetire (h16 : n.toNat < 16) (hother : n.toNat ≠ slotOf 0x901 h [n] s) :
    opBody 0x901 (bodyCtx (ctxOf 0x901 h [n] s)) T =
      did (record bSEC 5 (atUnit n.toNat) (changeKey n.toNat (fun k => { k with st := .retired, key := [] }) T)) := by
  have hn : numAt [n] 0 1 = n.toNat := numAt_one [n] 0
  have hslot : ¬(16 ≤ n.toNat ∨ n.toNat = slotOf 0x901 h [n] s) := not_or.mpr ⟨Nat.not_le.mpr h16, hother⟩
  unfold opBody bodyKeyRetire
  simp only [bctx_params, bctx_slot, hn, hslot, List.length_singleton, ne_eq, not_true_eq_false, if_false]

/-! FW_STAGE (R541). -/

/-- An aligned chunk of at most 4,096 bytes that lies within a region and continues what is staged. -/
structure StageForm (ps : Bytes) (T : State) : Prop where
  head : 4 ≤ ps.length
  most : ps.length ≤ 4100
  words : ps.length % 4 = 0
  aligned : numAt ps 0 4 % 4 = 0
  continues : numAt ps 0 4 ≤ T.sec.stageEnd
  inside : numAt ps 0 4 + (ps.length - 4) ≤ 0x100000

/-- Where the chunk goes: into the region that does not run. -/
def stageAddr (ps : Bytes) (T : State) : Nat := T.stageRegion * 0x100000 + numAt ps 0 4

/-- The bytes of the chunk are in the image regions, which have a staged image and no delivered one in its place. -/
def chunkWritten (ps : Bytes) (T : State) : State :=
  touchMram (stageAddr ps T) (ps.length - 4) (T.onNvm (fun x =>
    { x with mem := ((ps.drop 4).zipIdx).foldl (fun m e => spSet (imgDefault (stageAddr ps T + e.2)) m (stageAddr ps T + e.2) e.1) x.mem,
             staged := x.staged ||| BitVec.twoPow 2 T.stageRegion,
             delivered := if T.stageRegion = 0 then (false, x.delivered.2) else (x.delivered.1, false) }))

/-- The chunk is staged: whole, once the staged bytes reach the length that the header gives. -/
def chunkStaged (ps : Bytes) (T : State) : State :=
  let e := numAt ps 0 4 + (ps.length - 4)
  let C := chunkWritten ps T
  C.onSec (fun k => { k with stageEnd := e, stage := if 16 ≤ e ∧ 0x100 + imgLen C T.stageRegion ≤ e then 2 else 1 })

theorem opBody_fwStage (hF : StageForm ps T) : opBody 0x902 (bodyCtx (ctxOf 0x902 h ps s)) T = did (chunkStaged ps T) := by
  obtain ⟨hhead, hmost, hwords, haligned, hcontinues, hinside⟩ := hF
  have hsize : ¬(ps.length < 4 ∨ 4096 < ps.length - 4) := by omega
  have hwhole : (ps.length - 4) % 4 = 0 := by omega
  have hrange : ¬(T.sec.stageEnd < numAt ps 0 4 ∨ 0x100000 < numAt ps 0 4 + (ps.length - 4)) := by omega
  unfold opBody bodyFwStage
  simp only [bctx_params, hsize, haligned, hwhole, hrange, ne_eq, not_true_eq_false, if_false]
  rfl

/-- A staged chunk changes the image regions and the staging state. -/
theorem chunkStaged_frame (ps : Bytes) (T : State) :
    (chunkStaged ps T).sec.stageEnd = numAt ps 0 4 + (ps.length - 4) ∧
    (chunkStaged ps T).nvm.mem =
      ((ps.drop 4).zipIdx).foldl (fun m e => spSet (imgDefault (stageAddr ps T + e.2)) m (stageAddr ps T + e.2) e.1) T.nvm.mem ∧
    (chunkStaged ps T).store = T.store ∧ (chunkStaged ps T).sys = T.sys ∧ (chunkStaged ps T).flt = T.flt := by
  simp [chunkStaged, chunkWritten]

theorem taken_stageRegion : (taken op h ps s).stageRegion = s.stageRegion := by simp [State.stageRegion]

/-! SERVICE_UNLOCK (R535, R543). -/

/-- A record of this module and of this boot. -/
structure UnlockForm (ps : Bytes) (T : State) : Prop where
  size : ps.length = 80
  serial : ps.take 8 = serialBytes
  boot : u16At ps 8 = T.nvm.cur.bootCount
  resv : findIdx? (fun b => b ≠ 0) (sliceB ps 10 6) = none

/-- The signature decides. -/
theorem opBody_serviceUnlock (hF : UnlockForm ps T) :
    opBody 0x904 (bodyCtx (ctxOf 0x904 h ps s)) T =
      if Config.ecdsaOk 2 (sha256 (ps.take 16)) (ps.drop 16) = true then did (enterState .service T)
      else no (refuse0 0x15) (record bSEC 6 noUnit (authFail h.path 3 (slotOf 0x904 h ps s) T)) := by
  obtain ⟨hsize, hserial, hboot, hresv⟩ := hF
  unfold opBody bodyServiceUnlock
  simp only [bctx_params, bctx_path, bctx_slot, hsize, hserial, hboot, hresv, ne_eq, not_true_eq_false, if_false]
  rfl

/-- Settles O34: each record's checks, then its effect on the keys, the image regions or the state. -/
theorem securityCommands : Obligations.SecurityCommands := by
  intro h ps s
  refine ⟨fun hA h32 => ?install, fun n hA h16 hother => ?retire, fun hA hhead hmost hwords haligned hcontinues hinside => ?stage,
    fun hA h80 hserial hboot hresv => ?unlock⟩
  case install =>
    exact ⟨fun hsound => next_replied hA (by decide) (opBody_keyInstall_sound h32 hsound) (.inl rfl),
      fun st off hbad => next_replied hA (by decide) (opBody_keyInstall_refused h32 hbad) (.inl rfl)⟩
  case retire => exact next_replied hA (by decide) (opBody_keyRetire h16 hother) (.inl rfl)
  case stage =>
    have hbody := opBody_fwStage (h := h) (s := s) ⟨hhead, hmost, hwords, haligned, hcontinues, hinside⟩
    obtain ⟨hend, hmem, hstore, hsys, hflt⟩ := chunkStaged_frame ps (taken 0x902 h ps s)
    rw [stageAddr, taken_stageRegion, taken_nvm] at hmem
    obtain ⟨htsys, htflt, -, -, -, -, htstore, -⟩ := taken_frame 0x902 h ps s
    exact ⟨_, next_replied hA (by decide) hbody (.inl rfl), hend, hmem, hstore.trans htstore, hsys.trans htsys, hflt.trans htflt⟩
  case unlock =>
    have hunlock : UnlockForm ps (taken 0x904 h ps s) := ⟨h80, hserial, hboot.trans (by rw [taken_nvm]), hresv⟩
    exact ⟨fun hsig => next_replied hA (by decide) ((opBody_serviceUnlock hunlock).trans (if_pos hsig)) (.inl rfl),
      fun hsig => next_replied hA (by decide) ((opBody_serviceUnlock hunlock).trans (if_neg (ne_true_of_eq_false hsig))) (.inl rfl)⟩

end Sys2Proof
end

section
/-!
Transactions of the service SPI (R579, R580): without VIO nothing is clocked; WRITE_PKT passes a whole packet on, READ_LEN and READ_PKT
return the reply at the front.
-/
namespace Sys2Proof
open Sys2Proof.Machine
variable {mosi b : Bytes} {clocked : Nat} {l : TxTag} {rest : List (Bytes × TxTag)} {s : State}

/-! Without VIO (R579). -/

section
variable (hvio : s.lands = false)
include hvio

theorem rxSpi_noVio : rxSpi mosi s = s := by
  unfold rxSpi spiWrite
  rw [hvio]
  rfl

theorem spiReadLen_noVio : spiReadLen s = s := by
  unfold spiReadLen
  rw [hvio]
  rfl

theorem spiReadPkt_noVio : spiReadPkt clocked s = s := by
  unfold spiReadPkt
  rw [hvio]
  rfl

end

/-! With VIO, a transaction ends with frame_err clear and its bytes clocked out. -/

/-- A WRITE_PKT transaction clocks zeros out. -/
def spiWritten (mosi : Bytes) (s : State) : State :=
  spiOut (spiStatus s) (zeros (mosi.length - 1)) (s.onSpi (fun p => { p with frameErr := false }))

/-- READ_LEN notes and returns a length. -/
def spiLenRead (n : Nat) (s : State) : State :=
  spiOut (spiStatus s) (0 :: natLe 2 n) (s.onSpi (fun p => { p with frameErr := false, lastLen := n }))

/-- READ_PKT clocks out a zero byte and then a reply, as far as the clocks go. -/
def spiPktRead (clocked : Nat) (b : Bytes) (s : State) : State :=
  spiOut (spiStatus s) (padTo clocked (((0 : Byte) :: b).take clocked)) (s.onSpi (fun p => { p with frameErr := false }))

/-- A WRITE_PKT transaction is discarded: another first byte, a length out of range, rx_ready 0, or bytes that are missing. -/
def SpiDiscards (mosi : Bytes) (s : State) : Prop :=
  byteAt mosi 0 ≠ 1 ∨ numAt mosi 1 2 < 20 ∨ 4160 < numAt mosi 1 2 ∨ s.spiReady = false ∨ mosi.length < 3 + numAt mosi 1 2

section
variable (hvio : s.lands = true)
include hvio

theorem rxSpi_discarded (hd : SpiDiscards mosi s) : rxSpi mosi s = (spiWritten mosi s).onSpi (fun p => { p with frameErr := true }) := by
  have hw : spiWrite mosi s = ((spiWritten mosi s).onSpi (fun p => { p with frameErr := true }), none) := by
    unfold spiWrite
    rw [hvio]
    exact if_pos hd
  rw [rxSpi, hw]

theorem rxSpi_passed (hd : ¬SpiDiscards mosi s) : rxSpi mosi s = rxCmd .spi 0 (sliceB mosi 3 (numAt mosi 1 2)) (spiWritten mosi s) := by
  have hw : spiWrite mosi s = (spiWritten mosi s, some (sliceB mosi 3 (numAt mosi 1 2))) := by
    unfold spiWrite
    rw [hvio]
    exact if_neg hd
  rw [rxSpi, hw]

/-- The length of the reply at the front; 0 where none waits. -/
theorem spiReadLen_eq : spiReadLen s = spiLenRead ((s.spi.replies.head?.map (fun r => r.1.length)).getD 0) s := by
  unfold spiReadLen
  rw [hvio]
  rfl

theorem spiReadPkt_none (hr : s.spi.replies = []) : spiReadPkt clocked s = spiPktRead clocked [] s := by
  unfold spiReadPkt
  rw [hvio, hr]
  rfl

/-- A reply clocked out whole leaves the port and is delivered (R580). -/
theorem spiReadPkt_reply (hr : s.spi.replies = (b, l) :: rest) :
    spiReadPkt clocked s =
      if b.length + 1 ≤ clocked then markDelivered l ((spiPktRead clocked b s).onSpi (fun p => { p with replies := rest }))
      else spiPktRead clocked b s := by
  unfold spiReadPkt
  rw [hvio, hr]
  rfl

end

/-- Only a reply to a journalled command has an entry to be marked (R161). -/
theorem markDelivered_unjournalled (hl : ∀ x, l ≠ .reply x) : markDelivered l s = s := by
  cases l with
  | reply x => exact absurd rfl (hl x)
  | none => rfl
  | again => rfl

/-- Settles O50: VIO, then the checks of a write, then the reply at the front. -/
theorem spiTransactions : Obligations.SpiTransactions := by
  refine ⟨fun mosi clocked s hvio c hc => ?noVio, fun mosi clocked s hvio => ?vio⟩
  case noVio =>
    simp only [List.mem_cons, List.not_mem_nil, or_false] at hc
    rcases hc with rfl | rfl | rfl
    · exact next_settle (rxSpi_noVio hvio)
    · exact next_settle (spiReadLen_noVio hvio)
    · exact next_settle (spiReadPkt_noVio hvio)
  case vio =>
    refine ⟨fun hfirst hleast hmost hready hwhole => ?passed, fun hd => ?discarded, fun hr => ⟨?noLen, ?noPkt⟩,
      fun b l rest hr => ⟨?len, fun hpart => ?part, fun hall hl => ?plain, fun x hall hl => ?journalled⟩⟩
    case passed =>
      refine next_settle (rxSpi_passed hvio ?_)
      unfold SpiDiscards
      simp only [hfirst, hready, ne_eq, not_true_eq_false, Bool.true_eq_false, false_or]
      omega
    case discarded => exact next_settle (rxSpi_discarded hvio hd)
    case noLen => exact next_settle ((spiReadLen_eq hvio).trans (by rw [hr]; rfl))
    case noPkt => exact next_settle (spiReadPkt_none hvio hr)
    case len => exact next_settle ((spiReadLen_eq hvio).trans (by rw [hr]; rfl))
    case part => exact next_settle ((spiReadPkt_reply hvio hr).trans (if_neg (by omega)))
    case plain => exact next_settle ((spiReadPkt_reply hvio hr).trans ((if_pos hall).trans (markDelivered_unjournalled hl)))
    case journalled =>
      subst hl
      exact next_settle ((spiReadPkt_reply hvio hr).trans (if_pos hall))

end Sys2Proof
end

section
/-!
The queue of waiting commands (log entry 2).
-/
namespace Sys2Proof
open Sys2Proof.Machine

/-- Settles O1: the step of a queue with a front. -/
theorem stepRunsTheFront : Obligations.StepRunsTheFront := fun _ _ _ => step_front rfl

end Sys2Proof
end
